-- ==== Sys2Proof/Word.lean ====
section
/-! DEFINITION. The words of the CK40: bytes, 16-byte blocks, check values, verification patterns, and the
bounded numbers that name slots, lanes and tamper inputs (00_scope.md, "Identifier ranges"). -/

namespace Sys2Proof

/-- One byte of a frame, a token or a key. -/
abbrev Byte := BitVec 8

/-- A 16-byte block, the first byte in the most significant place (00_scope.md, "Keys and cipher work"). -/
abbrev Block := BitVec 128

/-- A check value: the first 3 bytes of the encipherment of 16 zero bytes (R4). -/
abbrev CheckValue := BitVec 24

/-- A verification pattern: the first 8 bytes of the encipherment of sixteen 0xA5 bytes (R38). -/
abbrev Pattern := BitVec 64

/-- A slot number, 0 to 47. -/
abbrev SlotId := Fin 48

/-- A lane number, 0 to 3. -/
abbrev LaneId := Fin 4

/-- A tamper input, T0 to T5. -/
abbrev InputId := Fin 6

/-- A set of lanes: bit `n` set for lane `n` (R171). -/
abbrev LaneSet := BitVec 4

/-- A set of issuer tags: bit `t` set for tag `t` (R171). -/
abbrev IssuerSet := BitVec 32

/-- A set of tamper sources: bits 0 to 5 for T0 to T5, bit 6 for SUPPLY (R171). -/
abbrev SourceSet := BitVec 7

/-- A set of requesters: bit `n` for lane `n`, bit 4 for custody (R171). -/
abbrev RequesterSet := BitVec 5

end Sys2Proof
end

