-- ==== Sys2Proof/Syntax.lean ====
section
/-! DEFINITION. The commands of the CK40: one constructor of `Instr` for each row of spec/opcode_table.json, with the
operands the environment supplies at that step, and the records those operands are made of.
The parameters of a request are in its frame (R160, R171) and are read when the request is taken, so a request row
has no operand but the link it is taken on. -/

namespace Sys2Proof.Machine

/-- The level of a tamper input or of the CSW pin (R30, R134, R171). -/
inductive Level where
  | low
  | high
  deriving DecidableEq, Repr

/-- The positions of the custody switch (00_scope.md; R30). -/
inductive SwitchPosition where
  | run
  | custody
  deriving DecidableEq, Repr

/-- One of the five links (R159). -/
inductive Link where
  | custody
  | lane (l : LaneId)
  deriving DecidableEq, Repr

/-- The purpose of a DERIVATION key (R1). -/
inductive Purpose where
  | cardAuthentication
  | cardMessaging
  | cardDataEncipherment
  deriving DecidableEq, Repr

/-- The kind of a slot; a DERIVATION slot carries a purpose and an issuer tag, a TRANSPORT slot neither (R2). -/
inductive KeyKind where
  | derivation (purpose : Purpose) (issuer : Nat)
  | transport
  deriving DecidableEq, Repr

/-- The length of a key in bytes (R1). -/
inductive KeyLength where
  | len16
  | len32
  deriving DecidableEq, Repr

/-- A key or component value of 16 or 32 bytes, the first byte in the most significant place (R171). -/
inductive KeyValue where
  | k16 (k : BitVec 128)
  | k32 (k : BitVec 256)
  deriving DecidableEq, Repr

/-- The attributes an ASSEMBLING slot carries (R2, R21). -/
structure Attributes where
  kind    : KeyKind
  version : Byte
  length  : KeyLength
  deriving DecidableEq, Repr

/-- Where a key came from (R4). -/
inductive Origin where
  | assembled
  | imported
  deriving DecidableEq, Repr

/-- What an ACTIVE or FAULTY record holds beside its attributes (R1). -/
structure Contents where
  key    : KeyValue
  check  : CheckValue
  origin : Origin
  uses   : Nat
  deriving DecidableEq, Repr

/-- The battery-domain part of a slot record but for its reference count and integrity word: the state field and the
fields present in that state (R1). -/
inductive SlotBody where
  | empty
  | assembling (a : Attributes)
  | active (a : Attributes) (c : Contents)
  | faulty (a : Attributes) (c : Contents)
  deriving DecidableEq, Repr

/-- What a request transfer shifted in by the time select rises: complete bytes, and how many bits of a byte after them. -/
structure Shifted where
  bytes : List Byte
  bits  : Fin 8
  deriving DecidableEq, Repr

/-- A RUN_STOP on a lane. `past` is none for one taken between two steps; one taken within the walk of the lane's grant, which
is one step, names the entry whose warrant check that walk has then passed (R91, notes/assumptions/31.md). -/
structure Stop where
  lane : LaneId
  past : Option Nat
  deriving DecidableEq, Repr

/-- How far a start-up sweep had got when the logic stopped (R154): `steps` of its six steps had been made whole, and the
next one on the records in `records`: bit n stands for slot n in steps 1, 2 and 5, for the warrant of id n in step 3, and for
lane n in steps 4 and 6. Read only while a sweep is running (notes/assumptions/12.md). -/
structure SweepCut where
  steps   : Nat
  records : BitVec 256
  deriving DecidableEq, Repr

end Sys2Proof.Machine

namespace Sys2Proof

open Machine

/-- The commands: the rows of spec/opcode_table.json in their order. -/
inductive Instr where
  /-- Select rises at the end of a request transfer. -/
  | requestTransfer (link : Link) (received : Shifted)
  /-- The first byte 0x00 of a collect completes. -/
  | collectBegin (link : Link)
  /-- Select rises at the end of a collect, `clocked` complete bytes after the 0x00. `cut` is how many of them had gone
  out when an erase emptied the buffer; it is read only if one did. -/
  | collectEnd (link : Link) (clocked cut : Nat)
  | unknownRequest (link : Link)
  | slotStatus
  | slotErase
  | assemble
  | component
  | componentCheckEnd
  | finalCheckEnd
  | assemblyCancel
  /-- The custody switch filter takes samples of the CSW pin, in order, the last of which confirms the change. -/
  | custodySwitchChange (samples : List Level)
  | initialise
  | initialisePatternEnd
  | storageRoll
  | storageRollPatternEnd
  | tokenExport
  | tokenExportOperationEnd
  | tokenImport
  | tokenImportOperationEnd
  | warrantOpen
  | warrantHold
  | warrantRelease
  | warrantExtend
  | warrantClose
  | warrantPurge
  | warrantStatus (link : Link)
  | warrantList
  | laneBind
  | laneUnbind
  | setQuantum
  /-- TAMPER_SETUP is taken; `raw` are the raw levels of T0 to T5 at that moment (bit i high for Ti high). -/
  | tamperSetup (raw : BitVec 6)
  | tamperAck
  | deviceStatus
  | linkClear
  | run (lane : LaneId)
  | laneStatus (lane : LaneId)
  /-- A RUN_STOP frame completes on a lane link, and the stop is taken at the moment `stop` tells. -/
  | runStop (stop : Stop)
  | laneClear (lane : LaneId)
  | grant
  | cardKeyDerivationEnd
  | cardCheckValueEnd
  | keystreamBlockEnd
  /-- The filter of a tamper input takes the raw levels, in order, the last of which confirms an edge. -/
  | tamperInputEdge (input : InputId) (samples : List Level)
  | eraseComplete
  /-- The main supply is seen above the threshold, at `mv` millivolts. -/
  | supplyAboveThreshold (mv : Nat)
  /-- The main supply falls below the threshold, to `mv` millivolts. -/
  | supplyBelowThreshold (mv : Nat)
  | supplyTimerExpiry
  /-- The main supply falls below the stop level, to `mv` millivolts. -/
  | mainSupplyLoss (mv : Nat) (cut : SweepCut)
  | resetAssert (cut : SweepCut)
  /-- The main supply rises above the stop level, to `mv` millivolts. -/
  | mainSupplyRise (mv : Nat)
  | resetRelease
  /-- The first step of STARTING; `raw` is the first sample of T0 to T5, read by a battery-loss clearing. -/
  | validityCheck (raw : BitVec 6)
  | batteryLossClearingEnd
  | sweepEnd
  /-- The backup battery fails or is removed; `refitted` tells whether a sound one then stands in its place. -/
  | backupBatteryFailure (refitted : Bool)
  /-- A fault of the battery-backed memory leaves the slot's record with these contents. -/
  | batteryBackedMemoryFault (slot : SlotId) (body : SlotBody) (refs : Nat) (integrity : BitVec 32)
  deriving DecidableEq, Repr

end Sys2Proof
end

