-- ==== Sys2Proof/Decode.lean ====
section
/-! DEFINITION. The table of spec/opcode_table.json gives no row any bits (98_reader.md: "n_rows_with_fixed": 0,
"n_rows_with_fields": 0), so no word spells a command. The kind bytes of R170 name requests inside a frame, not
commands: the frame is an operand of REQUEST_TRANSFER and is read when its request is taken. -/

namespace Sys2Proof

/-- The command a word spells by the table's bits: none, since the table gives no row any bits
(notes/assumptions/23.md). -/
def decodeTableWord (_nbits _w : Nat) : Option Instr := none

end Sys2Proof
end

