-- ==== Sys2Proof/Machine/Cipher.lean ====
section
/-! DEFINITION. AES with 128-bit and 256-bit keys on 16-byte blocks.
The manual names AES, uses it as a keyed permutation of the blocks with its inverse, and gives none of its internals
(00_scope.md, "Keys and cipher work"). The text below is FIPS-197's: PRESUMED, notes/assumptions/5.md. -/

namespace Sys2Proof.Machine

/-- The AES S-box: entry `i` in bits `8 i` to `8 i + 7`. -/
def sboxTable : Nat :=
  0x16bb54b00f2d99416842e6bf0d89a18cdf2855cee9871e9b948ed9691198f8e19e1dc186b95735610ef6034866b53e708a8bbd4b1f74dde8c6b4a61c2e2578ba08ae7a65eaf4566ca94ed58d6d37c8e779e4959162acd3c25c2406490a3a32e0db0b5ede14b8ee4688902a22dc4f816073195d643d7ea7c41744975fec130ccdd2f3ff1021dab6bcf5389d928f40a351a89f3c507f02f94585334d43fbaaefd0cf584c4a39becb6a5bb1fc20ed00d153842fe329b3d63b52a05a6e1b1a2c830975b227ebe28012079a059618c323c7041531d871f1e5a534ccf73f362693fdb7c072a49cafa2d4adf04759fa7dc982ca76abd7fe2b670130c56f6bf27b777c63

/-- The inverse of the AES S-box, laid out alike. -/
def invSboxTable : Nat :=
  0x7d0c2155631469e126d677ba7e042b17619953833cbbebc8b0f52aae4d3be0a0ef9cc9939f7ae52d0d4ab519a97f51605fec8027591012b131c7078833a8dd1ff45acd78fec0db9a2079d2c64b3e56fc1bbe18aa0e62b76f89c5291d711af1476edf751ce837f9e28535ade72274ac9673e6b4f0cecff297eadc674f4111913a6b8a130103bdafc1020f3fca8f1e2cd00645b3b80558e4f70ad3bc8c00abd890849d8da75746155edab9edfd5048706c92b6655dcc5ca4d41698688664f6f87225d18b6d49a25b76b224d92866a12e084ec3fa420b954cee3d23c2a632947b54cbe9dec444438e3487ff2f9b8239e37cfbd7f3819ea340bf38a53630d56a0952

/-- SubBytes on one byte. -/
def subByte (b : Byte) : Byte := BitVec.ofNat 8 (sboxTable >>> (8 * b.toNat))

/-- InvSubBytes on one byte. -/
def unsubByte (b : Byte) : Byte := BitVec.ofNat 8 (invSboxTable >>> (8 * b.toNat))

/-- Multiplication by x in the field of AES. -/
def xtime (b : Byte) : Byte := (b <<< 1) ^^^ (if b.msb then 0x1b#8 else 0#8)

/-- A column of the AES state, or a word of the key schedule: four bytes. -/
structure Col where
  r0 : Byte
  r1 : Byte
  r2 : Byte
  r3 : Byte
  deriving DecidableEq, Repr

/-- The AES state: four columns, the block's bytes taken column by column. -/
structure Grid where
  c0 : Col
  c1 : Col
  c2 : Col
  c3 : Col
  deriving DecidableEq, Repr

def Col.xor (a b : Col) : Col := ⟨a.r0 ^^^ b.r0, a.r1 ^^^ b.r1, a.r2 ^^^ b.r2, a.r3 ^^^ b.r3⟩

def Col.sub (a : Col) : Col := ⟨subByte a.r0, subByte a.r1, subByte a.r2, subByte a.r3⟩

def Col.unsub (a : Col) : Col := ⟨unsubByte a.r0, unsubByte a.r1, unsubByte a.r2, unsubByte a.r3⟩

/-- RotWord of the key schedule. -/
def Col.rot (a : Col) : Col := ⟨a.r1, a.r2, a.r3, a.r0⟩

/-- One byte of MixColumns: 2 a + 3 b + c + d. -/
def mixByte (a b c d : Byte) : Byte := xtime a ^^^ (xtime b ^^^ b) ^^^ c ^^^ d

def Col.mix (a : Col) : Col :=
  ⟨mixByte a.r0 a.r1 a.r2 a.r3, mixByte a.r1 a.r2 a.r3 a.r0, mixByte a.r2 a.r3 a.r0 a.r1,
    mixByte a.r3 a.r0 a.r1 a.r2⟩

/-- Multiplication by 9, 11, 13 and 14 in the field of AES. -/
def mul9 (b : Byte) : Byte := xtime (xtime (xtime b)) ^^^ b

def mul11 (b : Byte) : Byte := xtime (xtime (xtime b)) ^^^ xtime b ^^^ b

def mul13 (b : Byte) : Byte := xtime (xtime (xtime b)) ^^^ xtime (xtime b) ^^^ b

def mul14 (b : Byte) : Byte := xtime (xtime (xtime b)) ^^^ xtime (xtime b) ^^^ xtime b

/-- One byte of InvMixColumns: 14 a + 11 b + 13 c + 9 d. -/
def unmixByte (a b c d : Byte) : Byte := mul14 a ^^^ mul11 b ^^^ mul13 c ^^^ mul9 d

def Col.unmix (a : Col) : Col :=
  ⟨unmixByte a.r0 a.r1 a.r2 a.r3, unmixByte a.r1 a.r2 a.r3 a.r0, unmixByte a.r2 a.r3 a.r0 a.r1,
    unmixByte a.r3 a.r0 a.r1 a.r2⟩

def Grid.xor (a b : Grid) : Grid := ⟨a.c0.xor b.c0, a.c1.xor b.c1, a.c2.xor b.c2, a.c3.xor b.c3⟩

def Grid.sub (a : Grid) : Grid := ⟨a.c0.sub, a.c1.sub, a.c2.sub, a.c3.sub⟩

def Grid.unsub (a : Grid) : Grid := ⟨a.c0.unsub, a.c1.unsub, a.c2.unsub, a.c3.unsub⟩

def Grid.mix (a : Grid) : Grid := ⟨a.c0.mix, a.c1.mix, a.c2.mix, a.c3.mix⟩

def Grid.unmix (a : Grid) : Grid := ⟨a.c0.unmix, a.c1.unmix, a.c2.unmix, a.c3.unmix⟩

/-- ShiftRows: row r turns left by r columns. -/
def Grid.shift (a : Grid) : Grid :=
  ⟨⟨a.c0.r0, a.c1.r1, a.c2.r2, a.c3.r3⟩, ⟨a.c1.r0, a.c2.r1, a.c3.r2, a.c0.r3⟩,
    ⟨a.c2.r0, a.c3.r1, a.c0.r2, a.c1.r3⟩, ⟨a.c3.r0, a.c0.r1, a.c1.r2, a.c2.r3⟩⟩

/-- InvShiftRows: row r turns right by r columns. -/
def Grid.unshift (a : Grid) : Grid :=
  ⟨⟨a.c0.r0, a.c3.r1, a.c2.r2, a.c1.r3⟩, ⟨a.c1.r0, a.c0.r1, a.c3.r2, a.c2.r3⟩,
    ⟨a.c2.r0, a.c1.r1, a.c0.r2, a.c3.r3⟩, ⟨a.c3.r0, a.c2.r1, a.c1.r2, a.c0.r3⟩⟩

/-- The column of a 32-bit word, its first byte in the most significant place. -/
def Col.ofWord (w : BitVec 32) : Col :=
  ⟨BitVec.ofNat 8 (w.toNat / 16777216), BitVec.ofNat 8 (w.toNat / 65536), BitVec.ofNat 8 (w.toNat / 256),
    BitVec.ofNat 8 w.toNat⟩

def Col.word (c : Col) : BitVec 32 :=
  BitVec.ofNat 32 (((c.r0.toNat * 256 + c.r1.toNat) * 256 + c.r2.toNat) * 256 + c.r3.toNat)

/-- The AES state of a block: bytes 0 to 3 are column 0, and so on. -/
def Grid.ofBlock (b : Block) : Grid :=
  ⟨Col.ofWord (BitVec.ofNat 32 (b.toNat / 79228162514264337593543950336)),
    Col.ofWord (BitVec.ofNat 32 (b.toNat / 18446744073709551616)),
    Col.ofWord (BitVec.ofNat 32 (b.toNat / 4294967296)), Col.ofWord (BitVec.ofNat 32 b.toNat)⟩

def Grid.block (g : Grid) : Block :=
  BitVec.ofNat 128
    (((g.c0.word.toNat * 4294967296 + g.c1.word.toNat) * 4294967296 + g.c2.word.toNat) * 4294967296
      + g.c3.word.toNat)

/-- The round constants of the key schedule, Rcon[1] first. -/
def rcon : List Byte := [0x01, 0x02, 0x04, 0x08, 0x10, 0x20, 0x40, 0x80, 0x1b, 0x36]

/-- The word after the `i` words of `ws` (the last made first) in the key schedule of a key of `nk` words. -/
def nextWord (nk i : Nat) (ws : List Col) : Col :=
  let last := ws.headD ⟨0, 0, 0, 0⟩
  let old := ws.getD (nk - 1) ⟨0, 0, 0, 0⟩
  let turned :=
    if i % nk = 0 then last.rot.sub.xor ⟨rcon.getD (i / nk - 1) 0, 0, 0, 0⟩
    else if nk > 6 ∧ i % nk = 4 then last.sub
    else last
  old.xor turned

/-- `n` more words of the key schedule, the last made first. -/
def moreWords (nk : Nat) : Nat → List Col → List Col
  | 0, ws => ws
  | n + 1, ws => moreWords nk n (nextWord nk ws.length ws :: ws)

/-- Words four at a time make the round keys. -/
def groupWords : List Col → List Grid
  | a :: b :: c :: d :: rest => ⟨a, b, c, d⟩ :: groupWords rest
  | _ => []

/-- The round keys of a key: 11 for 16 bytes, 15 for 32 bytes. -/
def roundKeys : KeyValue → List Grid
  | .k16 k =>
    let g := Grid.ofBlock k
    groupWords (moreWords 4 40 [g.c3, g.c2, g.c1, g.c0]).reverse
  | .k32 k =>
    let g := Grid.ofBlock (k.extractLsb' 128 128)
    let h := Grid.ofBlock (k.extractLsb' 0 128)
    groupWords (moreWords 8 52 [h.c3, h.c2, h.c1, h.c0, g.c3, g.c2, g.c1, g.c0]).reverse

/-- The rounds after the first round key; the last one has no MixColumns. -/
def encRounds : List Grid → Grid → Grid
  | [], s => s
  | [k], s => s.sub.shift.xor k
  | k :: k' :: ks, s => encRounds (k' :: ks) (s.sub.shift.mix.xor k)

/-- The same rounds undone, the last first. -/
def decRounds : List Grid → Grid → Grid
  | [], s => s
  | [k], s => (s.xor k).unshift.unsub
  | k :: k' :: ks, s => ((decRounds (k' :: ks) s).xor k).unmix.unshift.unsub

/-- AES encipherment of one block under the round keys. -/
def encGrid : List Grid → Grid → Grid
  | [], s => s
  | k :: ks, s => encRounds ks (s.xor k)

/-- AES decipherment of one block under the round keys. -/
def decGrid : List Grid → Grid → Grid
  | [], s => s
  | k :: ks, s => (decRounds ks s).xor k

/-- "Encipher X under K": a key of 16 bytes uses AES-128, one of 32 bytes AES-256 (00_scope.md; R120). -/
def encipher (k : KeyValue) (x : Block) : Block := (encGrid (roundKeys k) (Grid.ofBlock x)).block

/-- Decipherment of one block: the inverse of `encipher k` (00_scope.md; R120). -/
def decipher (k : KeyValue) (x : Block) : Block := (decGrid (roundKeys k) (Grid.ofBlock x)).block

end Sys2Proof.Machine
end

