-- ==== Sys2Proof/Config.lean ====
section
/-! DEFINITION. What the manual leaves open and the model leaves free: constants and functions without a body, of which
nothing can be proved, so that a claim holds whatever they are. -/

namespace Sys2Proof

/-- The 32-bit integrity code the Key Table computes from a record and its slot number (R12). The manual does not give
the code: a FREE VALUE, notes/assumptions/7.md. -/
opaque Config.integrityCode : SlotId → Machine.SlotBody → BitVec 32

/-- The n-th storage key the Random Source supplies (R40). A FREE VALUE, notes/assumptions/6.md. -/
opaque Config.drawnKey : Nat → BitVec 256

/-- The bits of the n-th value the Random Source supplies to the third overwrite pass (R142). A FREE VALUE,
notes/assumptions/6.md. -/
opaque Config.randomBit : Nat → Nat → Bool

/-- The fixed 32-bit word of the validity marker (R151), which the manual does not give. A FREE VALUE,
notes/assumptions/8.md. -/
opaque Config.marker : BitVec 32

/-- The word the marker's memory holds in a battery domain that has been lost or never written (R151), but for the limit
`Machine.lostMarker` puts on it. A FREE VALUE, notes/assumptions/8.md. -/
opaque Config.lostWord : BitVec 32

/-- K2 where a memory fault has left the length 32 beside a 16-byte key value (R45). A FREE VALUE,
notes/assumptions/30.md. -/
opaque Config.absentBlock : Block → Block

/-- The exclusive-OR of a 16-byte accumulator and a 32-byte component, which meet only after a memory fault (R24). A FREE
VALUE, notes/assumptions/30.md. -/
opaque Config.shortSum : Block → BitVec 256 → Block

/-- The exclusive-OR of a 32-byte accumulator and a 16-byte component. A FREE VALUE, notes/assumptions/30.md. -/
opaque Config.longSum : BitVec 256 → Block → BitVec 256

end Sys2Proof
end

