-- ==== Sys2Proof/Machine/State.lean ====
section
/-! DEFINITION. The state of the CK40, as plain data: every record, buffer, flag, counter and level the manual gives the
part (INVENTORY.md, "State", names the rule of each), the steps that wait, and the state right after reset. -/

namespace Sys2Proof.Machine

/-! ### Codes and replies -/

/-- The notes an OK reply may carry (R173). -/
inductive Note where
  | none
  | clamped
  | oldGeneration
  deriving DecidableEq, Repr

/-- The refusal codes (R173). -/
inductive Code where
  | unknownRequest
  | malformed
  | parameter
  | notInCustody
  | uninitialised
  | locked
  | alreadyInitialised
  | notBound
  | laneBusy
  | noSuchWarrant
  | warrantNotOpen
  | warrantState
  | laneNotPermitted
  | issuerNotPermitted
  | slotState
  | slotKind
  | inUse
  | issuerMismatch
  | idInUse
  | tableFull
  | duplicateCustodian
  | componentMismatch
  | checkMismatch
  | staleToken
  | tokenCorrupt
  | generationLimit
  | quietRequired
  deriving DecidableEq, Repr

/-- How a run ended (R90, R173). -/
inductive EndReason where
  | complete
  | quotaReached
  | warrantHeld
  | warrantClosed
  | stopped
  deriving DecidableEq, Repr

/-- The outcome of one entry (R77, R88, R173); a delivered one carries its key material (R85). -/
inductive EntryStatus where
  | delivered (wrapped : Block) (check : CheckValue)
  | badLength
  | badDigit
  | badSequence
  | badCheckDigit
  | outsidePrefix
  | quotaSpent
  | notReached
  deriving DecidableEq, Repr

/-- One result of a RUN_RESULT (R110). -/
structure EntryResult where
  index  : Nat
  status : EntryStatus
  deriving DecidableEq, Repr

/-- The content of a RUN_RESULT (R110); `endReason` is absent when the outcome is MORE. -/
structure RunResult where
  tag       : Byte
  endReason : Option EndReason
  remaining : Nat
  epoch     : Byte
  position  : BitVec 32
  results   : List EntryResult
  deriving DecidableEq, Repr

/-- A reply in a reply buffer (R164, R173): its kind, the kind of the request it answers, its note or code, and the
bytes of the fields that follow. A DEVICE_STATUS report also tells whether it showed the battery-loss flag set
(R152). -/
inductive Reply where
  | ok (request : Byte) (note : Note) (fields : List Byte)
  | refused (request : Byte) (code : Code) (detail : List Byte)
  | runResult (r : RunResult)
  | laneStatus (fields : List Byte)
  | deviceStatus (fields : List Byte) (lossShown : Bool)
  | tamperNotice (fields : List Byte)
  deriving DecidableEq, Repr

/-! ### Links -/

/-- A complete request frame: its kind byte and its body (R160). -/
structure Frame where
  kind : Byte
  body : List Byte
  deriving DecidableEq, Repr

/-- A collect in progress: the reply its first byte fixed (none: the empty reply), and whether an erase has emptied the
buffer since (R165). -/
structure Collect where
  reply : Option Reply
  cut   : Bool
  deriving DecidableEq, Repr

/-- The state of one link (R160, R162, R164, R165). `sdo` is the model's record of the bytes the last transfer shifted
out. -/
structure LinkState where
  fifo        : List Frame
  overrun     : Bool
  frameErrors : Nat
  buffer      : Option Reply
  collect     : Option Collect
  sdo         : List Byte
  deriving DecidableEq, Repr

/-! ### Key Table -/

/-- The volatile assembly part of a slot being built from components (R20). -/
structure Assembly where
  required    : Nat
  custodians  : List Nat
  accumulator : KeyValue
  expected    : CheckValue
  checking    : Bool
  deriving DecidableEq, Repr

/-- A slot record (R1). -/
structure Slot where
  body      : SlotBody
  refs      : Nat
  integrity : BitVec 32
  assembly  : Option Assembly
  deriving DecidableEq, Repr

/-! ### Storage Unit -/

/-- A storage key with its generation and verification pattern (R37, R38). -/
structure StorageKey where
  key        : BitVec 256
  generation : Nat
  pattern    : Pattern
  deriving DecidableEq, Repr

/-- The Storage Unit record (R37). -/
structure StorageUnit where
  current  : Option StorageKey
  previous : Option StorageKey
  deriving DecidableEq, Repr

/-! ### Warrants -/

/-- Why a warrant was closed (R55). -/
inductive CloseReason where
  | byCommand
  | tamper
  | slotFault
  deriving DecidableEq, Repr

/-- The state of a warrant, with the close reason of a CLOSED one (R55, R57). -/
inductive WarrantState where
  | opened
  | held
  | exhausted
  | closed (reason : CloseReason)
  deriving DecidableEq, Repr

/-- A warrant record (R55). `serial` is the model's own: it tells two records apart that carry the same id one after
the other (R56, notes/assumptions/16.md). -/
structure Warrant where
  serial    : Nat
  id        : Nat
  issuer    : Nat
  master    : SlotId
  total     : Nat
  delivered : Nat
  digits    : Option (List Byte)
  lanes     : LaneSet
  state     : WarrantState
  deriving DecidableEq, Repr

/-! ### Lanes and runs -/

/-- The priority class of a lane (R95). -/
inductive Priority where
  | high
  | low
  deriving DecidableEq, Repr

/-- One card of a run: its digit bytes, whose number is the digit count, and its sequence number (R76). -/
structure Entry where
  digits   : List Byte
  sequence : BitVec 16
  deriving DecidableEq, Repr

/-- The states of a run (R104). -/
inductive RunState where
  | queued
  | active
  | drainingMore
  | drainingFinal
  deriving DecidableEq, Repr

/-- The run record (R103); `tie` is the serial number of the warrant record found at acceptance. -/
structure Run where
  tag       : Byte
  tie       : Nat
  entries   : List Entry
  next      : Nat
  state     : RunState
  stopMark  : Bool
  endReason : Option EndReason
  deriving DecidableEq, Repr

/-- The last-run summary (R114). -/
structure Summary where
  tag    : Byte
  next   : Nat
  reason : EndReason
  deriving DecidableEq, Repr

/-- The lane context (R95). The lane is BOUND exactly when it has a transport slot (R96). -/
structure Lane where
  transport : Option SlotId
  cls       : Priority
  issuers   : IssuerSet
  initial   : Block
  chain     : Block
  epoch     : Byte
  position  : BitVec 32
  run       : Option Run
  last      : Option Summary
  link      : LinkState
  deriving DecidableEq, Repr

/-! ### Cipher engine -/

/-- The key and the input block of a block operation, with its direction; the engine keeps them only for the operation
(R120). -/
inductive BlockOp where
  | encipher (key : KeyValue) (x : Block)
  | decipher (key : KeyValue) (x : Block)
  deriving DecidableEq, Repr

/-- The part of an entry's work area that Stages 2 and 3 fill (R76, R80, R81). -/
structure Work where
  packed     : BitVec 80
  derivation : Block
  deriving DecidableEq, Repr

/-- Where a lane grant stands: its walk not yet begun, or in the block operation of a stage with the work area filled so
far (R76, R82, R83, R84), or at a stage whose key the Key Table withholds (R3, R11). -/
inductive Stage where
  | opening
  | deriving (w : Work) (op : BlockOp)
  | checking (w : Work) (cardKey : Block) (op : BlockOp)
  | keystream (w : Work) (cardKey : Block) (check : CheckValue) (op : BlockOp)
  | withheld
  deriving DecidableEq, Repr

/-- The grant record of a RUN grant (R119) with what R87 lets it hold: the index the walk stands at, the result list, the
master slot it names, and the stage of the entry in progress. `stopAt` is the model's own: the moment of the walk at which a
RUN_STOP that has been commanded is taken, past the warrant check of that entry (R91, notes/assumptions/31.md). -/
structure RunGrant where
  lane      : LaneId
  budget    : Nat
  used      : Nat
  performed : Nat
  index     : Nat
  results   : List EntryResult
  master    : Option SlotId
  stage     : Stage
  stopAt    : Option Nat
  deriving DecidableEq, Repr

/-- The grant record of a CUSTODY grant (R119) and the operation in progress; none when its key is withheld (R3). -/
structure CustodyGrant where
  planned   : Nat
  performed : Nat
  op        : Option BlockOp
  deriving DecidableEq, Repr

/-- The cipher engine: IDLE, or GRANTED to custody or to a lane (R119). -/
inductive Engine where
  | idle
  | custody (g : CustodyGrant)
  | lane (g : RunGrant)
  deriving DecidableEq, Repr

/-! ### Custody Unit -/

/-- A key token as its bytes give it (R44, R172). -/
structure Token where
  header     : Block
  attrs      : Attributes
  generation : Nat
  pattern    : Pattern
  w1         : Block
  w2         : Option Block
  check      : CheckValue
  deriving DecidableEq, Repr

/-- The custody command in process with the custody unit's work area (R164, R120). A COMPONENT is `componentCheck` while
its own check value is to be verified (R23), with `ended` set once a change to RUN has emptied its slot under it (R33),
and `finalCheck` from the setting of the checking flag (R25). -/
inductive Process where
  | componentCheck (slot : SlotId) (custodian : Nat) (value : KeyValue) (check : CheckValue) (last ended : Bool)
  | finalCheck (slot : SlotId)
  | initialise (drawn : BitVec 256)
  | storageRoll (drawn : BitVec 256)
  | tokenExport (slot : SlotId) (attrs : Attributes) (header : Block) (check : CheckValue) (w1 : Option Block)
  | tokenImport (slot : SlotId) (token : Token) (fromPrevious : Bool) (generation : Nat) (k1 k2 : Option Block)
  deriving DecidableEq, Repr

/-- The Custody Unit: its link, the filtered switch position and its sample count (R30), and the command in process. -/
structure Custody where
  link     : LinkState
  position : SwitchPosition
  count    : Nat
  process  : Option Process
  deriving DecidableEq, Repr

/-! ### Tamper Monitor -/

/-- Which edges are events (R133, R135). -/
inductive Detection where
  | off
  | fall
  | rise
  | either
  deriving DecidableEq, Repr

/-- How a raw change becomes an edge (R133, R134). -/
inductive Filter where
  | direct
  | samples3
  | samples8
  deriving DecidableEq, Repr

/-- What the part does with an event (R133). -/
inductive Response where
  | record
  | erase
  deriving DecidableEq, Repr

/-- The settings, the quiet level and the filter state of one tamper input (R133, R134). -/
structure TamperInput where
  detection : Detection
  filter    : Filter
  response  : Response
  quiet     : Level
  filtered  : Level
  count     : Nat
  deriving DecidableEq, Repr

/-- A source of tamper events (R138). -/
inductive Source where
  | input (i : InputId)
  | supply
  deriving DecidableEq, Repr

/-- The Tamper Monitor: the inputs, the supply monitor (R136) and the tamper record (R138). -/
structure Tamper where
  inputs         : Vector TamperInput 6
  threshold      : Fin 8
  supplyResponse : Response
  armed          : Bool
  timer          : Bool
  causes         : SourceSet
  first          : Option Source
  events         : Nat
  erasePending   : Bool
  deriving DecidableEq, Repr

/-! ### The overwrite passes -/

/-- What an overwrite pass has written over a unit of the key store: zeros, ones, or the n-th value of the Random Source
(R142). -/
inductive Fill where
  | zeros
  | ones
  | random (n : Nat)
  deriving DecidableEq, Repr

/-- The overwrite passes (R142): how many writes those of the erase in progress have made, and which units of the key store
hold no record but what a pass wrote. Unit i below 48 is slot i with its assembly part, unit 48 the Storage Unit record, unit
49 the custody unit's work area (notes/assumptions/13.md). -/
structure Passes where
  written : Nat
  units   : Vector (Option Fill) 50
  deriving DecidableEq, Repr

/-! ### The whole part -/

/-- Where STARTING stands: before its validity check, in a battery-loss clearing, or in the sweep (R151, R154). -/
inductive StartPhase where
  | check
  | clearing
  | sweep
  deriving DecidableEq, Repr

/-- The device states, and `stopped` while the main supply is absent or RESET is held (00_scope.md; R157, R158). -/
inductive Mode where
  | stopped
  | starting (phase : StartPhase)
  | uninitialised
  | operational
  | erasing
  | locked
  deriving DecidableEq, Repr

end Sys2Proof.Machine

namespace Sys2Proof.Machine

/-- The state of the CK40. -/
structure State where
  mode            : Mode
  vmain           : Nat
  resetHeld       : Bool
  battery         : Bool
  marker          : BitVec 32
  batteryLossFlag : Bool
  quantum         : Nat
  slots           : Vector Slot 48
  storage         : StorageUnit
  warrants        : List Warrant
  lanes           : Vector Lane 4
  custody         : Custody
  engine          : Engine
  requesters      : RequesterSet
  highPointer     : LaneId
  lowPointer      : LaneId
  tamper          : Tamper
  passes          : Passes
  draws           : Nat
  nextSerial      : Nat
  pending         : List Instr
  deriving DecidableEq, Repr

/-- Why a command stops. Each is raised only where the spec gives no effect, in states that a
BATTERY_BACKED_MEMORY_FAULT under a command in process brings about, or that no run from reset reaches
(notes/assumptions/20.md). -/
inductive Fault where
  /-- Raised by the end of a block operation whose key the Key Table or the Storage Unit could not hand out: a slot the
  grant names was not ACTIVE or ASSEMBLING (R3, R11), or no storage key existed. Safe: the model stops where the manual
  says only that no key is handed. -/
  | keyWithheld
  /-- Raised by COMPONENT_CHECK_END and FINAL_CHECK_END when the slot is no longer ASSEMBLING with an assembly part
  although no change to RUN emptied it. Safe. -/
  | recordChanged
  /-- Raised by STORAGE_ROLL, STORAGE_ROLL_PATTERN_END and TOKEN_EXPORT in OPERATIONAL with no current storage key, which
  R37 excludes. Safe. -/
  | noStorageKey
  deriving DecidableEq, Repr

/-- Why the model gives a command no meaning. -/
inductive Refusal where
  /-- The command has no meaning yet; raised only by an arm of `exec`. No arm raises it in this model. Safe. -/
  | notModelled (mnemonic : String)
  deriving DecidableEq, Repr

/-- The outcome of a command. -/
abbrev Res := Host.Outcome State Fault Refusal

/-! ### Reset -/

/-- Link state as it begins at the entry to STARTING (R150, R168). -/
def LinkState.start : LinkState :=
  { fifo := [], overrun := false, frameErrors := 0, buffer := none, collect := none, sdo := [] }

/-- The record of an EMPTY slot: reference count 0 and the integrity word of the empty record (R5). -/
def Slot.blank (i : SlotId) : Slot :=
  { body := .empty, refs := 0, integrity := Config.integrityCode i .empty, assembly := none }

/-- The lane context after battery loss (R117). -/
def Lane.cleared : Lane :=
  { transport := none, cls := .low, issuers := 0, initial := 0, chain := 0, epoch := 0, position := 0, run := none,
    last := none, link := LinkState.start }

/-- The settings of input `i` after battery loss, with filtered level and quiet level taken from its first sample
(R133, R151). -/
def TamperInput.default (i : InputId) (sample : Level) : TamperInput :=
  { detection := if i.val < 4 then .either else .off
    filter := .samples3
    response := if i.val < 4 then .erase else .record
    quiet := sample, filtered := sample, count := 0 }

/-- The Tamper Monitor after steps 1 and 2 of a battery-loss clearing (R133, R136, R138, R151). -/
def Tamper.default (sample : InputId → Level) : Tamper :=
  { inputs := Vector.ofFn fun i => TamperInput.default i (sample i)
    threshold := 2, supplyResponse := .erase, armed := false, timer := false
    causes := 0, first := none, events := 0, erasePending := false }

/-- The Custody Unit at the entry to STARTING (R31, R150). -/
def Custody.start : Custody :=
  { link := LinkState.start, position := .run, count := 0, process := none }

/-- No pass in progress, and every unit a record. -/
def Passes.none : Passes := { written := 0, units := Vector.replicate 50 Option.none }

/-- What the marker reads as in a battery domain that has been lost or never written: any word but the fixed one, so that
the validity check finds it wrong (R151, R158). Which word is a free value, notes/assumptions/8.md. -/
def lostMarker : BitVec 32 := if Config.lostWord = Config.marker then ~~~Config.marker else Config.lostWord

/-- The part at its first entry to STARTING: the volatile state as R150 gives it, and a battery domain whose validity
marker has never been written (12 section 12.1). What such a domain holds before the clearing of R151 is the model's
choice: the values of the clearing. DESIGN CHOICE, unsafe: notes/assumptions/9.md. -/
def State.reset : State :=
  { mode := .starting .check
    vmain := 3300, resetHeld := false, battery := true
    marker := lostMarker, batteryLossFlag := false, quantum := 12
    slots := Vector.ofFn Slot.blank
    storage := { current := none, previous := none }
    warrants := []
    lanes := Vector.replicate 4 Lane.cleared
    custody := Custody.start
    engine := .idle, requesters := 0, highPointer := 3, lowPointer := 3
    tamper := Tamper.default fun _ => .low
    passes := Passes.none
    draws := 0, nextSerial := 0, pending := [] }

end Sys2Proof.Machine
end

