-- ==== Sys2Proof/Machine/Encoding.lean ====
section
/-! DEFINITION. How values travel in frames: byte order, the numeric value of every kind, code and enumeration, and the
bytes of a reply frame (R170, R171, R172, R173). -/

namespace Sys2Proof.Machine

/-! ### Byte order -/

/-- The low `n` bytes of a number, the most significant first (00_scope.md, "Numbers"). -/
def be : Nat → Nat → List Byte
  | 0, _ => []
  | n + 1, x => BitVec.ofNat 8 (x / 256 ^ n) :: be n x

/-- The number that bytes spell, the most significant first. -/
def ofBe (bytes : List Byte) : Nat := bytes.foldl (fun acc b => acc * 256 + b.toNat) 0

/-- A number as one byte. -/
def u8 (x : Nat) : Byte := BitVec.ofNat 8 x

/-- A flag: 0 for clear or inactive, 1 for set or active (R171). -/
def flag (b : Bool) : Byte := if b then 1 else 0

/-- The 16 bytes of a block. -/
def blockBytes (b : Block) : List Byte := be 16 b.toNat

/-- The 3 bytes of a check value. -/
def checkBytes (c : CheckValue) : List Byte := be 3 c.toNat

/-- The 8 bytes of a verification pattern; all zero where absent (R171). -/
def patternBytes (p : Pattern) : List Byte := be 8 p.toNat

/-! ### Request kinds (R170) -/

def kindRun : Byte := 0x10
def kindLaneStatus : Byte := 0x11
def kindRunStop : Byte := 0x1E
def kindLaneClear : Byte := 0x1F
def kindInitialise : Byte := 0x20
def kindStorageRoll : Byte := 0x21
def kindTokenExport : Byte := 0x22
def kindTokenImport : Byte := 0x23
def kindAssemble : Byte := 0x30
def kindComponent : Byte := 0x31
def kindAssemblyCancel : Byte := 0x32
def kindSlotStatus : Byte := 0x38
def kindSlotErase : Byte := 0x39
def kindWarrantOpen : Byte := 0x40
def kindWarrantHold : Byte := 0x41
def kindWarrantRelease : Byte := 0x42
def kindWarrantExtend : Byte := 0x43
def kindWarrantClose : Byte := 0x44
def kindWarrantPurge : Byte := 0x45
def kindWarrantStatus : Byte := 0x46
def kindWarrantList : Byte := 0x47
def kindLaneBind : Byte := 0x50
def kindLaneUnbind : Byte := 0x51
def kindSetQuantum : Byte := 0x58
def kindTamperSetup : Byte := 0x60
def kindTamperAck : Byte := 0x61
def kindDeviceStatus : Byte := 0x70
def kindLinkClear : Byte := 0x7F

/-- The non-immediate kinds of the lane links (R170, 10 section 10.8). -/
def laneKinds : List Byte := [kindRun, kindLaneStatus, kindWarrantStatus]

/-- The non-immediate kinds of the custody link (R170, 10 section 10.8). -/
def custodyKinds : List Byte :=
  [kindInitialise, kindStorageRoll, kindTokenExport, kindTokenImport, kindAssemble, kindComponent,
    kindAssemblyCancel, kindSlotStatus, kindSlotErase, kindWarrantOpen, kindWarrantHold, kindWarrantRelease,
    kindWarrantExtend, kindWarrantClose, kindWarrantPurge, kindWarrantStatus, kindWarrantList, kindLaneBind,
    kindLaneUnbind, kindSetQuantum, kindTamperSetup, kindTamperAck, kindDeviceStatus]

/-- The requests a link's catalogue holds beside its immediate ones. -/
def linkKinds : Link → List Byte
  | .custody => custodyKinds
  | .lane _ => laneKinds

/-- The immediate kinds of a link (R161). -/
def immediateKinds : Link → List Byte
  | .custody => [kindLinkClear]
  | .lane _ => [kindRunStop, kindLaneClear]

/-! ### Codes (R171, R173) -/

def Note.byte : Note → Byte
  | .none => 0x00
  | .clamped => 0x01
  | .oldGeneration => 0x02

def Code.byte : Code → Byte
  | .unknownRequest => 0x01
  | .malformed => 0x02
  | .parameter => 0x03
  | .notInCustody => 0x04
  | .uninitialised => 0x05
  | .locked => 0x06
  | .alreadyInitialised => 0x07
  | .notBound => 0x08
  | .laneBusy => 0x09
  | .noSuchWarrant => 0x0A
  | .warrantNotOpen => 0x0B
  | .warrantState => 0x0C
  | .laneNotPermitted => 0x0D
  | .issuerNotPermitted => 0x0E
  | .slotState => 0x0F
  | .slotKind => 0x10
  | .inUse => 0x11
  | .issuerMismatch => 0x12
  | .idInUse => 0x13
  | .tableFull => 0x14
  | .duplicateCustodian => 0x15
  | .componentMismatch => 0x16
  | .checkMismatch => 0x17
  | .staleToken => 0x18
  | .tokenCorrupt => 0x19
  | .generationLimit => 0x1A
  | .quietRequired => 0x1B

def EndReason.byte : EndReason → Byte
  | .complete => 0x01
  | .quotaReached => 0x02
  | .warrantHeld => 0x03
  | .warrantClosed => 0x04
  | .stopped => 0x05

def EntryStatus.byte : EntryStatus → Byte
  | .delivered _ _ => 0x00
  | .badLength => 0x01
  | .badDigit => 0x02
  | .badSequence => 0x03
  | .badCheckDigit => 0x04
  | .outsidePrefix => 0x05
  | .quotaSpent => 0x06
  | .notReached => 0x07

def Purpose.byte : Purpose → Byte
  | .cardAuthentication => 1
  | .cardMessaging => 2
  | .cardDataEncipherment => 3

/-- The kind byte of a slot: DERIVATION 1, TRANSPORT 2 (R171). -/
def KeyKind.byte : KeyKind → Byte
  | .derivation _ _ => 1
  | .transport => 2

/-- The purpose byte; 0 where absent (R171). -/
def KeyKind.purposeByte : KeyKind → Byte
  | .derivation p _ => p.byte
  | .transport => 0

/-- The issuer tag byte; 0 where absent (R171). -/
def KeyKind.issuerByte : KeyKind → Byte
  | .derivation _ i => u8 i
  | .transport => 0

def KeyLength.byte : KeyLength → Byte
  | .len16 => 16
  | .len32 => 32

def Origin.byte : Origin → Byte
  | .assembled => 1
  | .imported => 2

def SlotBody.byte : SlotBody → Byte
  | .empty => 0
  | .assembling _ => 1
  | .active _ _ => 2
  | .faulty _ _ => 3

def CloseReason.byte : CloseReason → Byte
  | .byCommand => 1
  | .tamper => 2
  | .slotFault => 3

def WarrantState.byte : WarrantState → Byte
  | .opened => 1
  | .held => 2
  | .exhausted => 3
  | .closed _ => 4

/-- The close reason byte; 0 unless CLOSED (R171). -/
def WarrantState.reasonByte : WarrantState → Byte
  | .closed r => r.byte
  | _ => 0

def Priority.byte : Priority → Byte
  | .high => 1
  | .low => 2

def RunState.byte : RunState → Byte
  | .queued => 1
  | .active => 2
  | .drainingMore => 3
  | .drainingFinal => 4

def SwitchPosition.byte : SwitchPosition → Byte
  | .run => 0
  | .custody => 1

def Level.byte : Level → Byte
  | .low => 0
  | .high => 1

def Detection.byte : Detection → Byte
  | .off => 0
  | .fall => 1
  | .rise => 2
  | .either => 3

def Filter.byte : Filter → Byte
  | .direct => 0
  | .samples3 => 3
  | .samples8 => 8

def Response.byte : Response → Byte
  | .record => 1
  | .erase => 2

/-- The device state byte; `stopped` is no device state and is never reported. -/
def Mode.byte : Mode → Byte
  | .stopped => 0
  | .starting _ => 0
  | .uninitialised => 1
  | .operational => 2
  | .erasing => 3
  | .locked => 4

/-- The place of a tamper source in the source bitmask (R171). -/
def Source.bitIndex : Source → Nat
  | .input i => i.val
  | .supply => 6

def Source.bit (x : Source) : SourceSet := BitVec.twoPow 7 x.bitIndex

/-- A source set as one byte. -/
def causesByte (c : SourceSet) : Byte := c.setWidth 8

/-- The first cause: the bit of its source, 0 when absent (R171). -/
def firstByte : Option Source → Byte
  | none => 0
  | some x => causesByte x.bit

/-! ### Reply frames -/

/-- One result of a RUN_RESULT: 2 bytes, or 21 when DELIVERED (R172). -/
def EntryResult.bytes (r : EntryResult) : List Byte :=
  u8 r.index :: r.status.byte ::
    match r.status with
    | .delivered wrapped check => blockBytes wrapped ++ checkBytes check
    | _ => []

/-- The body of a RUN_RESULT (R110, R172): outcome MORE 1 or FINAL 2, end reason 0 with MORE. -/
def RunResult.bytes (r : RunResult) : List Byte :=
  [r.tag, if r.endReason.isSome then 2 else 1, match r.endReason with | none => 0 | some e => e.byte]
    ++ be 4 r.remaining ++ [r.epoch] ++ be 4 r.position.toNat ++ [u8 r.results.length]
    ++ r.results.flatMap EntryResult.bytes

/-- The kind byte of a reply (R170). -/
def Reply.kind : Reply → Byte
  | .ok _ _ _ => 0x80
  | .refused _ _ _ => 0x81
  | .runResult _ => 0x82
  | .laneStatus _ => 0x83
  | .deviceStatus _ _ => 0x83
  | .tamperNotice _ => 0x83

/-- The body of a reply (R173). -/
def Reply.body : Reply → List Byte
  | .ok request note fields => [request, note.byte] ++ fields
  | .refused request code detail => [request, code.byte] ++ detail
  | .runResult r => r.bytes
  | .laneStatus fields => [kindLaneStatus, 0x01] ++ fields
  | .deviceStatus fields _ => [kindDeviceStatus, 0x02] ++ fields
  | .tamperNotice fields => [0x00, 0x03] ++ fields

/-- The bytes of a frame: kind, 2-byte length, body (R160). -/
def frameBytes (kind : Byte) (body : List Byte) : List Byte := kind :: be 2 body.length ++ body

/-- The bytes of a reply frame (R164). -/
def Reply.bytes (r : Reply) : List Byte := frameBytes r.kind r.body

/-- The empty reply: kind 0x00 and length 0, 3 bytes in all (R165). -/
def emptyReplyBytes : List Byte := frameBytes 0x00 []

/-- What a collect shifts out after its first byte, as far as it fixed a reply: the reply frame or the empty reply
(R165). -/
def Collect.frame (c : Collect) : List Byte :=
  match c.reply with
  | none => emptyReplyBytes
  | some r => r.bytes

/-- The first `n` bytes of a frame, with 0x00 after its end (R165). -/
def padded (n : Nat) (bytes : List Byte) : List Byte :=
  bytes.take n ++ List.replicate (n - bytes.length) 0

end Sys2Proof.Machine
end

