-- ==== Sys2Proof/Machine/Flags.lean ====
section
/-! DEFINITION. The output lines and the flags that are computed from the state and not stored: ATTN, TAMPER, whether an
input shows its active level, whether the supply is below the threshold, and the running counts saturate as the manual
says. -/

namespace Sys2Proof.Machine

/-- A count that stays at its upper limit when raised further (00_scope.md, "Numbers"). -/
def saturate (limit x : Nat) : Nat := if x < limit then x + 1 else limit

/-- ATTN of a link: active while its reply buffer holds a reply (R164). -/
def LinkState.attn (l : LinkState) : Bool := l.buffer.isSome

/-- The validity check finds the marker at its fixed value (R151). -/
def State.markerValid (s : State) : Bool := s.marker == Config.marker

/-- The TAMPER output; none while it is not driven (R145). -/
def State.tamperOutput (s : State) : Option Bool :=
  match s.mode with
  | .stopped => none
  | .starting .check => some true
  | .erasing => some true
  | .locked => some true
  | .starting .clearing => some (s.tamper.causes != 0)
  | .starting .sweep => some (s.tamper.causes != 0)
  | .uninitialised => some (s.tamper.causes != 0)
  | .operational => some (s.tamper.causes != 0)

def Level.other : Level → Level
  | .low => .high
  | .high => .low

/-- The active level of an input, as implied by its detection setting (R135). -/
def TamperInput.activeLevel (t : TamperInput) : Option Level :=
  match t.detection with
  | .off => none
  | .fall => some .low
  | .rise => some .high
  | .either => some t.quiet.other

/-- The input's filtered level equals its active level (R135); an OFF input shows none (notes/assumptions/24.md). -/
def TamperInput.showsActive (t : TamperInput) : Bool := t.activeLevel == some t.filtered

/-- An edge to level `v` is an event from this input (R135). -/
def TamperInput.admits (t : TamperInput) (v : Level) : Bool :=
  match t.detection with
  | .off => false
  | .fall => v == .low
  | .rise => v == .high
  | .either => true

/-- An input whose detection is not OFF and whose response is ERASE (R133). -/
def TamperInput.eraseClass (t : TamperInput) : Bool := t.detection != .off && t.response == .erase

/-- The supply thresholds in millivolts (R136). -/
def thresholdMv (index : Fin 8) : Nat :=
  match index.val with
  | 0 => 2750
  | 1 => 2900
  | 2 => 3000
  | 3 => 3100
  | 4 => 3200
  | 5 => 3300
  | 6 => 3450
  | _ => 3600

/-- The main supply is below the monitor's threshold (R147, R149). -/
def State.belowThreshold (s : State) : Bool := s.vmain < thresholdMv s.tamper.threshold

/-- A warrant's remaining count (R55). -/
def Warrant.remaining (w : Warrant) : Nat := w.total - w.delivered

/-- A warrant in OPEN, HELD or EXHAUSTED names its master slot and counts against it (R10, R57). -/
def Warrant.live (w : Warrant) : Bool :=
  match w.state with
  | .opened => true
  | .held => true
  | .exhausted => true
  | .closed _ => false

/-- The states in which requests are taken from the FIFOs (R105, R164). -/
def Mode.inService : Mode → Bool
  | .uninitialised => true
  | .operational => true
  | .locked => true
  | .stopped => false
  | .starting _ => false
  | .erasing => false

/-- The logic runs: main supply present and RESET released (R157, R158). -/
def Mode.running : Mode → Bool
  | .stopped => false
  | .starting _ => true
  | .uninitialised => true
  | .operational => true
  | .erasing => true
  | .locked => true

end Sys2Proof.Machine
end

