-- ==== Sys2Proof/Machine/Operands.lean ====
section
/-! DEFINITION. The forms of request bodies, read field by field (R171, R172). A reader answers none where the body cannot
be read as its kind's form, which is MALFORMED (R163); a field out of its range is left for its owning rule, which answers
PARAMETER. -/

namespace Sys2Proof.Machine

/-- A 3-byte check value. -/
def readCheck (bytes : List Byte) : CheckValue := BitVec.ofNat 24 (ofBe bytes)

/-- A 16-byte block. -/
def readBlock (bytes : List Byte) : Block := BitVec.ofNat 128 (ofBe bytes)

/-- The form of a body that holds one 1-byte field: a slot, a warrant id, a lane or a quantum value. -/
def readByte : List Byte → Option Byte
  | [b] => some b
  | _ => none

/-- The form of a request without parameters: length 0. -/
def readNothing : List Byte → Option Unit
  | [] => some ()
  | _ => none

/-- A slot number, when it is not above 47. -/
def readSlot (b : Byte) : Option SlotId := if h : b.toNat < 48 then some ⟨b.toNat, h⟩ else none

/-- A lane number, when it is not above 3. -/
def readLane (b : Byte) : Option LaneId := if h : b.toNat < 4 then some ⟨b.toNat, h⟩ else none

/-- A purpose, 1 to 3. -/
def readPurpose (b : Byte) : Option Purpose :=
  if b = 1 then some .cardAuthentication
  else if b = 2 then some .cardMessaging
  else if b = 3 then some .cardDataEncipherment
  else none

/-- An issuer tag is from 1 to 30 (R1). -/
def issuerOk (i : Nat) : Bool := 1 ≤ i && i ≤ 30

/-- A warrant id is from 1 to 255 (R55). -/
def warrantIdOk (i : Nat) : Bool := 1 ≤ i && i ≤ 255

/-- Kind, purpose and issuer tag together: DERIVATION with both in range, TRANSPORT with neither present (R21, R47). -/
def readKind (kind purpose issuer : Byte) : Option KeyKind :=
  if kind = 1 then
    match readPurpose purpose with
    | some p => if issuerOk issuer.toNat then some (.derivation p issuer.toNat) else none
    | none => none
  else if kind = 2 then
    if purpose = 0 ∧ issuer = 0 then some .transport else none
  else none

/-- A key length, 16 or 32 (R1). -/
def readLength (b : Byte) : Option KeyLength :=
  if b = 16 then some .len16 else if b = 32 then some .len32 else none

/-! ### Ceremonies -/

/-- ASSEMBLE: slot, kind, purpose, issuer tag, version, length, required count, expected check value (R21). -/
structure AssembleForm where
  slot     : Byte
  kind     : Byte
  purpose  : Byte
  issuer   : Byte
  version  : Byte
  length   : Byte
  required : Byte
  expected : CheckValue
  deriving DecidableEq, Repr

def readAssemble : List Byte → Option AssembleForm
  | [s, k, p, i, v, l, r, e0, e1, e2] => some ⟨s, k, p, i, v, l, r, readCheck [e0, e1, e2]⟩
  | _ => none

/-- COMPONENT: slot, custodian, value, and an optional component check value (R22). -/
structure ComponentForm where
  slot      : Byte
  custodian : Byte
  value     : KeyValue
  check     : Option CheckValue
  deriving DecidableEq, Repr

/-- A COMPONENT body has 18, 21, 34 or 37 bytes, and its length fixes its layout (R171). -/
def readComponent : List Byte → Option ComponentForm
  | s :: c :: rest =>
    if rest.length = 16 then some ⟨s, c, .k16 (BitVec.ofNat 128 (ofBe rest)), none⟩
    else if rest.length = 19 then
      some ⟨s, c, .k16 (BitVec.ofNat 128 (ofBe (rest.take 16))), some (readCheck (rest.drop 16))⟩
    else if rest.length = 32 then some ⟨s, c, .k32 (BitVec.ofNat 256 (ofBe rest)), none⟩
    else if rest.length = 35 then
      some ⟨s, c, .k32 (BitVec.ofNat 256 (ofBe (rest.take 32))), some (readCheck (rest.drop 32))⟩
    else none
  | _ => none

/-! ### Tokens -/

/-- TOKEN_IMPORT's body is the slot followed by the token; an empty body is MALFORMED (R171). -/
def readImport : List Byte → Option (Byte × List Byte)
  | s :: token => some (s, token)
  | [] => none

/-- The attributes a token header carries in its first six bytes; none where R47 calls the token MALFORMED for them:
format, kind with purpose and issuer tag, and length. -/
def readTokenAttrs : List Byte → Option Attributes
  | f :: k :: p :: i :: v :: l :: _ =>
    if f = 1 then
      match readKind k p i, readLength l with
      | some kind, some length => some ⟨kind, v, length⟩
      | _, _ => none
    else none
  | _ => none

/-- The size of a token of a key of this length (R44). -/
def tokenSize : KeyLength → Nat
  | .len16 => 36
  | .len32 => 52

/-- A token's bytes at the offsets of R172; none where R47 calls the token MALFORMED. -/
def readToken (t : List Byte) : Option Token :=
  match readTokenAttrs t with
  | none => none
  | some attrs =>
    let generation := ofBe ((t.drop 6).take 2)
    if t.length = tokenSize attrs.length ∧ generation ≠ 0 ∧ t.getLast? = some 0 then
      some
        { header := readBlock (t.take 16)
          attrs := attrs
          generation := generation
          pattern := BitVec.ofNat 64 (ofBe ((t.drop 8).take 8))
          w1 := readBlock ((t.drop 16).take 16)
          w2 := match attrs.length with
            | .len16 => none
            | .len32 => some (readBlock ((t.drop 32).take 16))
          check := readCheck ((t.drop (t.length - 4)).take 3) }
    else none

/-- The 16 header bytes of a token (R44, R172). -/
def tokenHeader (attrs : Attributes) (generation : Nat) (pattern : Pattern) : Block :=
  readBlock ([0x01, attrs.kind.byte, attrs.kind.purposeByte, attrs.kind.issuerByte, attrs.version, attrs.length.byte]
    ++ be 2 generation ++ patternBytes pattern)

/-- The bytes of a token: header, W1, W2 for a 32-byte key, check value and pad (R44, R172). -/
def tokenBytes (header : Block) (w1 : Block) (w2 : Option Block) (check : CheckValue) : List Byte :=
  blockBytes header ++ blockBytes w1 ++ (match w2 with | none => [] | some w => blockBytes w)
    ++ checkBytes check ++ [0x00]

/-! ### Warrants -/

/-- WARRANT_OPEN: id, issuer tag, master slot, total, prefix, lane set (R60). -/
structure WarrantForm where
  id     : Byte
  issuer : Byte
  master : Byte
  total  : Nat
  digits : List Byte
  lanes  : Byte
  deriving DecidableEq, Repr

def readWarrantOpen : List Byte → Option WarrantForm
  | id :: issuer :: master :: t0 :: t1 :: t2 :: t3 :: p :: rest =>
    if rest.length = p.toNat + 1 then
      some ⟨id, issuer, master, ofBe [t0, t1, t2, t3], rest.take p.toNat, rest.getLastD 0⟩
    else none
  | _ => none

/-- WARRANT_EXTEND: id and add (R64). -/
def readWarrantExtend : List Byte → Option (Byte × Nat)
  | [id, a0, a1, a2, a3] => some (id, ofBe [a0, a1, a2, a3])
  | _ => none

/-! ### Lanes -/

/-- LANE_BIND: lane, transport slot, class, issuer set, initial chaining value, 23 bytes (R97, R171). -/
structure BindForm where
  lane    : Byte
  slot    : Byte
  cls     : Byte
  issuers : IssuerSet
  initial : Block
  deriving DecidableEq, Repr

def readLaneBind : List Byte → Option BindForm
  | l :: s :: c :: i0 :: i1 :: i2 :: i3 :: rest =>
    if rest.length = 16 then some ⟨l, s, c, BitVec.ofNat 32 (ofBe [i0, i1, i2, i3]), readBlock rest⟩ else none
  | _ => none

/-- A class, HIGH 1 or LOW 2 (R171). -/
def readPriority (b : Byte) : Option Priority :=
  if b = 1 then some .high else if b = 2 then some .low else none

/-- RUN: tag, warrant id, entries (R106, R172). -/
structure RunForm where
  tag     : Byte
  warrant : Byte
  entries : List Entry
  deriving DecidableEq, Repr

/-- `k` entries that fill the bytes exactly: a digit count of at most 19, the digits, a 2-byte sequence number. -/
def readEntries : Nat → List Byte → Option (List Entry)
  | 0, [] => some []
  | 0, _ :: _ => none
  | _ + 1, [] => none
  | k + 1, n :: rest =>
    if n.toNat ≤ 19 then
      match rest.drop n.toNat with
      | s1 :: s0 :: rest' =>
        match readEntries k rest' with
        | some es => some (⟨rest.take n.toNat, BitVec.ofNat 16 (ofBe [s1, s0])⟩ :: es)
        | none => none
      | _ => none
    else none

/-- A RUN body; none where R106 calls the RUN MALFORMED. -/
def readRun : List Byte → Option RunForm
  | tag :: warrant :: k :: rest =>
    if 1 ≤ k.toNat ∧ k.toNat ≤ 16 then
      match readEntries k.toNat rest with
      | some es => some ⟨tag, warrant, es⟩
      | none => none
    else none
  | _ => none

/-- The run tag a refused RUN carries: the body's first byte, or 0 for an empty body (R107). -/
def runTag (body : List Byte) : Byte := body.headD 0

/-! ### Tamper settings -/

def readDetection (b : Byte) : Option Detection :=
  if b = 0 then some .off else if b = 1 then some .fall else if b = 2 then some .rise
  else if b = 3 then some .either else none

def readFilter (b : Byte) : Option Filter :=
  if b = 0 then some .direct else if b = 3 then some .samples3 else if b = 8 then some .samples8 else none

def readResponse (b : Byte) : Option Response :=
  if b = 1 then some .record else if b = 2 then some .erase else none

/-- TAMPER_SETUP's body is 20 bytes (R171). -/
def readTamperSetup (body : List Byte) : Option (List Byte) := if body.length = 20 then some body else none

/-- The settings TAMPER_SETUP gives an input. -/
structure InputSettings where
  detection : Detection
  filter    : Filter
  response  : Response
  deriving DecidableEq, Repr

/-- Detection, filter and response of input `i`, when each is a listed value (R146). -/
def readInputSettings (body : List Byte) (i : InputId) : Option InputSettings :=
  match readDetection (body.getD (3 * i.val) 0), readFilter (body.getD (3 * i.val + 1) 0),
    readResponse (body.getD (3 * i.val + 2) 0) with
  | some d, some f, some r => some ⟨d, f, r⟩
  | _, _, _ => none

/-- The threshold index, when it is not above 7 (R146). -/
def readThreshold (b : Byte) : Option (Fin 8) := if h : b.toNat < 8 then some ⟨b.toNat, h⟩ else none

/-- The raw level of input `i` in a sample of all six (bit i high for Ti high). -/
def levelOf (raw : BitVec 6) (i : InputId) : Level := if raw.getLsbD i.val then .high else .low

end Sys2Proof.Machine
end

