-- ==== Sys2Proof/Machine/Ops.lean ====
section
/-! DEFINITION. The named operations over the part's records that the commands share: slots, links and replies, warrants,
lanes, the custody gate, and the taking of a request from a FIFO. -/

namespace Sys2Proof.Machine

/-! ### Slots -/

/-- Write a slot record. Each table write computes a new integrity word (R12); the assembly part is kept beside it. -/
def State.writeSlot (s : State) (i : SlotId) (body : SlotBody) (refs : Nat) (assembly : Option Assembly) : State :=
  { s with slots := s.slots.set i ⟨body, refs, Config.integrityCode i body, assembly⟩ }

/-- The slot becomes EMPTY (R5): key value and attributes overwritten, assembly part discarded, reference count 0. -/
def State.emptySlot (s : State) (i : SlotId) : State := { s with slots := s.slots.set i (Slot.blank i) }

/-- Change a slot's reference count; the record is written with a new integrity word (R10, R12). -/
def State.setRefs (s : State) (i : SlotId) (refs : Nat) : State :=
  s.writeSlot i s.slots[i].body refs s.slots[i].assembly

/-- A record counted once more (R10). A count that a memory fault has changed may so pass 255:
notes/assumptions/29.md. -/
def State.raiseRefs (s : State) (i : SlotId) : State := s.setRefs i (s.slots[i].refs + 1)

/-- A record counted once less (R10). A count that a memory fault has changed may stand at 0, and is left there:
notes/assumptions/29.md. -/
def State.lowerRefs (s : State) (i : SlotId) : State := s.setRefs i (s.slots[i].refs - 1)

/-- A use count saturates at 4,294,967,295 (R9). -/
def maxUses : Nat := 4294967295

/-- A slot body with its use count raised by one (R9), FAULTY or ACTIVE. A body without a use count is as before. That either
happens to a slot that is no longer ACTIVE is the model's choice, notes/assumptions/32.md. -/
def SlotBody.raiseUses : SlotBody → SlotBody
  | .active a c => .active a { c with uses := saturate maxUses c.uses }
  | .faulty a c => .faulty a { c with uses := saturate maxUses c.uses }
  | .empty => .empty
  | .assembling a => .assembling a

/-- Raise the use count of a slot (R9). The record is written with a new integrity word (R12), also one that a memory fault has
left not ACTIVE: the model's choice, notes/assumptions/32.md. -/
def State.raiseUses (s : State) (i : SlotId) : State :=
  s.writeSlot i s.slots[i].body.raiseUses s.slots[i].refs s.slots[i].assembly

/-- The key of an ACTIVE slot, which a grant that names the slot may use (R3). -/
def Slot.activeKey (sl : Slot) : Option KeyValue :=
  match sl.body with
  | .active _ c => some c.key
  | .empty => none
  | .assembling _ => none
  | .faulty _ _ => none

/-- The accumulator of an ASSEMBLING slot, the key of its final check (R3, R25). -/
def Slot.accumulator (sl : Slot) : Option KeyValue :=
  match sl.body, sl.assembly with
  | .assembling _, some a => some a.accumulator
  | _, _ => none

/-- Attributes and assembly part of a slot that is ASSEMBLING with its assembly part present (R6, R20). One without its
part, which only a memory fault leaves in service, is no assembly to COMPONENT, ASSEMBLY_CANCEL or a change to RUN: the
model's choice, notes/assumptions/28.md. -/
def Slot.assemblyOf (sl : Slot) : Option (Attributes × Assembly) :=
  match sl.body, sl.assembly with
  | .assembling a, some p => some (a, p)
  | _, _ => none

/-! ### Key values -/

/-- The length of a key value (R1). -/
def KeyValue.length : KeyValue → KeyLength
  | .k16 _ => .len16
  | .k32 _ => .len32

/-- A key value of a length with all bytes 0 (R21). -/
def KeyValue.zero : KeyLength → KeyValue
  | .len16 => .k16 0
  | .len32 => .k32 0

/-- Bytewise exclusive-OR of two key values of one length (R24). Two values of different lengths meet only after a memory
fault (R22): the result is a free value of the first one's length, notes/assumptions/30.md. -/
def KeyValue.xor : KeyValue → KeyValue → KeyValue
  | .k16 a, .k16 b => .k16 (a ^^^ b)
  | .k32 a, .k32 b => .k32 (a ^^^ b)
  | .k16 a, .k32 b => .k16 (Config.shortSum a b)
  | .k32 a, .k16 b => .k32 (Config.longSum a b)

/-- The first 16 bytes of a key, K1 (R45). -/
def KeyValue.firstBlock : KeyValue → Block
  | .k16 k => k
  | .k32 k => k.extractLsb' 128 128

/-- The last 16 bytes of a 32-byte key, K2 (R45). A 16-byte value has none: where a memory fault has left it under the
length 32, a free value stands in its place, notes/assumptions/30.md. -/
def KeyValue.secondBlock : KeyValue → Block
  | .k16 k => Config.absentBlock k
  | .k32 k => k.extractLsb' 0 128

/-- The first 3 bytes of a block (R4). -/
def firstThree (b : Block) : CheckValue := b.extractLsb' 104 24

/-- The first 8 bytes of a block (R38). -/
def firstEight (b : Block) : Pattern := b.extractLsb' 64 64

/-- The check value of a key (R4). -/
def checkValue (k : KeyValue) : CheckValue := firstThree (encipher k 0)

/-- The block of sixteen 0xA5 bytes (R38). -/
def patternBlock : Block := 0xA5A5A5A5A5A5A5A5A5A5A5A5A5A5A5A5

/-- The verification pattern of a storage key (R38). -/
def verificationPattern (k : BitVec 256) : Pattern := firstEight (encipher (.k32 k) patternBlock)

/-- The result of a block operation (R120). -/
def BlockOp.result : BlockOp → Block
  | .encipher k x => Machine.encipher k x
  | .decipher k x => Machine.decipher k x

/-! ### Links and replies -/

def State.setLane (s : State) (l : LaneId) (x : Lane) : State := { s with lanes := s.lanes.set l x }

def State.link (s : State) : Link → LinkState
  | .custody => s.custody.link
  | .lane l => s.lanes[l].link

def State.setLink (s : State) : Link → LinkState → State
  | .custody, x => { s with custody := { s.custody with link := x } }
  | .lane l, x => s.setLane l { s.lanes[l] with link := x }

/-- Place a reply in a link's reply buffer; ATTN rises with it (R164). -/
def State.reply (s : State) (k : Link) (r : Reply) : State := s.setLink k { s.link k with buffer := some r }

/-- Answer a custody request OK. -/
def State.custodyOk (s : State) (request : Byte) (note : Note) (fields : List Byte) : State :=
  s.reply .custody (.ok request note fields)

/-- Answer a custody request REFUSED without detail. -/
def State.custodyRefuse (s : State) (request : Byte) (code : Code) : State :=
  s.reply .custody (.refused request code [])

/-- One frame error: the count is raised and stays at 255 (R160). -/
def LinkState.frameError (l : LinkState) : LinkState := { l with frameErrors := saturate 255 l.frameErrors }

/-- Place a complete frame of a non-immediate kind (R162). -/
def LinkState.receive (l : LinkState) (f : Frame) : LinkState :=
  if l.overrun then l
  else if l.fifo.length < 2 then { l with fifo := l.fifo ++ [f] }
  else { l with overrun := true }

/-- LANE_CLEAR and LINK_CLEAR: the FIFO is emptied unanswered and overrun cleared (R161). -/
def LinkState.clear (l : LinkState) : LinkState := { l with fifo := [], overrun := false }

/-- What the start of an erase does to a link (R118, R141, R165, R168): FIFO and buffer emptied, overrun cleared, the
frame error count kept; a collect in progress is cut. -/
def LinkState.erase (l : LinkState) : LinkState :=
  { l with fifo := [], overrun := false, buffer := none,
           collect := l.collect.map fun c => { c with cut := true } }

/-! ### Warrants -/

/-- The record that carries an id (R56). -/
def State.warrant (s : State) (id : Nat) : Option Warrant := s.warrants.find? fun w => w.id == id

/-- The record a run is tied to; none if it has left the table (R56, R70). -/
def State.tied (s : State) (serial : Nat) : Option Warrant := s.warrants.find? fun w => w.serial == serial

/-- Change the record that carries an id. -/
def State.setWarrant (s : State) (id : Nat) (f : Warrant → Warrant) : State :=
  { s with warrants := s.warrants.map fun w => if w.id = id then f w else w }

/-- Add a record, in ascending id order (R56, R68). -/
def insertWarrant (w : Warrant) : List Warrant → List Warrant
  | [] => [w]
  | x :: xs => if w.id < x.id then w :: x :: xs else x :: insertWarrant w xs

/-- The largest total (R55). -/
def maxTotal : Nat := 1000000

/-- A lane is in a lane set (R171). -/
def inLaneSet (set : LaneSet) (l : LaneId) : Bool := set.getLsbD l.val

/-- An issuer tag is in an issuer set (R171). -/
def inIssuerSet (set : IssuerSet) (issuer : Nat) : Bool := set.getLsbD issuer

/-- The reference count of a slot as R10 defines it. -/
def State.countRefs (s : State) (i : SlotId) : Nat :=
  (s.warrants.filter fun w => w.live && w.master == i).length
    + (s.lanes.toList.filter fun l => l.transport == some i).length

/-! ### Requests -/

/-- Custody takes a request when its reply buffer is empty, no command is in process and the device is in service
(R164). -/
def State.custodyReady (s : State) : Bool :=
  s.mode.inService && s.custody.link.buffer.isNone && s.custody.process.isNone

/-- The head of a link's FIFO leaves it (R162). -/
def State.popFrame (s : State) (k : Link) : State := s.setLink k { s.link k with fifo := (s.link k).fifo.tail }

/-- Custody takes the request at the head of its FIFO if it is of this kind; otherwise the step does not occur (R164,
notes/assumptions/2.md). -/
def State.takeCustody (s : State) (kind : Byte) (act : List Byte → State → Res) : Res :=
  match s.custody.link.fifo with
  | [] => .next s
  | f :: _ => if s.custodyReady && f.kind == kind then act f.body (s.popFrame .custody) else .next s

/-- The run of a lane lets a request of this kind be taken: RUN needs the lane IDLE, any other request a lane that is
IDLE or whose run is QUEUED (R105). -/
def Lane.admitsKind (x : Lane) (kind : Byte) : Bool :=
  match x.run with
  | none => true
  | some r => kind != kindRun && r.state == .queued

/-- The lane takes the request at the head of its FIFO (R105). -/
def State.laneReady (s : State) (l : LaneId) (kind : Byte) : Bool :=
  s.mode.inService && s.lanes[l].link.buffer.isNone && s.lanes[l].admitsKind kind

/-- Read a custody body by its form, or answer MALFORMED (R163). -/
def State.readCustody {α : Type} (s : State) (kind : Byte) (form : Option α) (act : α → State → Res) : Res :=
  match form with
  | none => .next (s.custodyRefuse kind .malformed)
  | some x => act x s

/-! ### The custody gate -/

/-- One row of the gate's table (R14): the refusal in each device state, none where the command is taken, and whether
the CUSTODY position is needed. -/
structure GateRow where
  uninitialised : Option Code
  operational   : Option Code
  locked        : Option Code
  needsCustody  : Bool

/-- The row of the key-changing commands. -/
def GateRow.keyChange : GateRow := ⟨some .uninitialised, none, some .locked, true⟩

/-- The row of INITIALISE. -/
def GateRow.initialise : GateRow := ⟨none, some .alreadyInitialised, some .locked, true⟩

/-- The row of TAMPER_SETUP. -/
def GateRow.tamperSetup : GateRow := ⟨none, none, some .locked, true⟩

/-- The row of TAMPER_ACK. -/
def GateRow.tamperAck : GateRow := ⟨none, none, none, true⟩

/-- The row of TOKEN_EXPORT. -/
def GateRow.tokenExport : GateRow := ⟨some .uninitialised, none, some .locked, false⟩

/-- The row of SLOT_STATUS. -/
def GateRow.slotStatus : GateRow := ⟨none, none, some .locked, false⟩

/-- The row's entry for a device state. No command is taken in the other states (R14). -/
def GateRow.entry (r : GateRow) (m : Mode) : Option Code :=
  match m with
  | .uninitialised => r.uninitialised
  | .operational => r.operational
  | .locked => r.locked
  | .stopped => none
  | .starting _ => none
  | .erasing => none

/-- The first two checks of the gate (R14): device state, then custody position. -/
def State.gate (s : State) (r : GateRow) : Option Code :=
  match r.entry s.mode with
  | some c => some c
  | none => if r.needsCustody && s.custody.position != .custody then some .notInCustody else none

/-- Pass the gate, or answer its refusal. -/
def State.gated (s : State) (kind : Byte) (r : GateRow) (act : State → Res) : Res :=
  match s.gate r with
  | some c => .next (s.custodyRefuse kind c)
  | none => act s

/-- Pass the gate with its third check, the slot number (R14). -/
def State.gatedSlot (s : State) (kind : Byte) (r : GateRow) (slot : Byte) (act : SlotId → State → Res) : Res :=
  s.gated kind r fun s =>
    match readSlot slot with
    | none => .next (s.custodyRefuse kind .parameter)
    | some i => act i s

/-- The device-state check of the warrant and binding commands (R59, R97, R99). -/
def State.serviceRefusal (s : State) : Option Code := GateRow.entry ⟨some .uninitialised, none, some .locked, false⟩ s.mode

/-- Pass that check, or answer its refusal on custody. -/
def State.served (s : State) (kind : Byte) (act : State → Res) : Res :=
  match s.serviceRefusal with
  | some c => .next (s.custodyRefuse kind c)
  | none => act s

end Sys2Proof.Machine
end

