-- ==== Sys2Proof/Machine/Arbiter.lean ====
section
/-! DEFINITION. The engine arbiter: the pending set, the choice of the next grant, the beginning and the end of a grant
(R119 to R127), and the block operations of a custody grant in their order. -/

namespace Sys2Proof.Machine

/-- A requester of the engine (R119). -/
inductive Requester where
  | custody
  | lane (l : LaneId)
  deriving DecidableEq, Repr

/-- The requester's place in a requester set (R171). -/
def Requester.bitIndex : Requester → Nat
  | .custody => 4
  | .lane l => l.val

def Requester.bit (r : Requester) : RequesterSet := BitVec.twoPow 5 r.bitIndex

/-- The requester is a member of the pending set (R123). -/
def State.waits (s : State) (r : Requester) : Bool := s.requesters.getLsbD r.bitIndex

/-- The requester leaves the pending set, if it is a member (R123). -/
def State.withdraw (s : State) (r : Requester) : State := { s with requesters := s.requesters &&& ~~~r.bit }

/-! ### Custody grants -/

/-- The operations planned for the command in process (R122). -/
def Process.planned : Process → Nat
  | .componentCheck _ _ _ _ last _ => if last then 2 else 1
  | .finalCheck _ => 1
  | .initialise _ => 1
  | .storageRoll _ => 1
  | .tokenExport _ attrs _ _ _ => match attrs.length with | .len16 => 1 | .len32 => 2
  | .tokenImport _ token _ _ _ _ => match token.attrs.length with | .len16 => 2 | .len32 => 3

/-- The next block operation of the command in process, with its key read now; none where the Key Table or the Storage
Unit has no key to hand out (R3, R23, R25, R37, R38, R45, R49, R120). -/
def State.custodyOp (s : State) : Process → Option BlockOp
  | .componentCheck _ _ value _ _ _ => some (.encipher value 0)
  | .finalCheck i => s.slots[i].accumulator.map fun k => .encipher k 0
  | .initialise drawn => some (.encipher (.k32 drawn) patternBlock)
  | .storageRoll drawn => some (.encipher (.k32 drawn) patternBlock)
  | .tokenExport i _ header _ w1 =>
    match s.storage.current, s.slots[i].activeKey with
    | some sk, some k =>
      match w1 with
      | none => some (.encipher (.k32 sk.key) (k.firstBlock ^^^ header))
      | some w => some (.encipher (.k32 sk.key) (k.secondBlock ^^^ w))
    | _, _ => none
  | .tokenImport _ token fromPrevious _ k1 k2 =>
    let sk := if fromPrevious then s.storage.previous else s.storage.current
    match k1, token.w2, k2 with
    | none, _, _ => sk.map fun k => .decipher (.k32 k.key) token.w1
    | some _, some w, none => sk.map fun k => .decipher (.k32 k.key) w
    | some a, some _, some b => some (.encipher (.k32 (a ++ b)) 0)
    | some a, none, _ => some (.encipher (.k16 a) 0)

/-- Custody receives the engine (R122, R125). -/
def State.beginCustodyGrant (s : State) : State :=
  let s := s.withdraw .custody
  match s.custody.process with
  | none => s
  | some p => { s with engine := .custody { planned := p.planned, performed := 0, op := s.custodyOp p } }

/-! ### Run grants -/

/-- The pointer of a class names the lane last granted in it (R126). -/
def State.setPointer (s : State) (l : LaneId) : State :=
  match s.lanes[l].cls with
  | .high => { s with highPointer := l }
  | .low => { s with lowPointer := l }

/-- A lane receives the engine: its run becomes ACTIVE, and the grant reads the quantum as its budget and names the master
slot of the tied record (R87, R121, R125, R126). Its walk has not begun (notes/assumptions/4.md, notes/assumptions/17.md). -/
def State.beginRunGrant (s : State) (l : LaneId) : State :=
  let s := s.withdraw (.lane l)
  match s.lanes[l].run with
  | none => s
  | some r =>
    let g : RunGrant :=
      { lane := l, budget := s.quantum, used := 0, performed := 0, index := r.next, results := []
        master := (s.tied r.tie).map fun w => w.master, stage := .opening, stopAt := none }
    let s := s.setPointer l
    { s.setLane l { s.lanes[l] with run := some { r with state := .active } } with engine := .lane g }

/-! ### The choice -/

/-- The order in which a class's lanes are looked at: from the lane after the pointer to the lane it names (R125). -/
def lanesAfter (p : LaneId) : List LaneId := [p + 1, p + 2, p + 3, p]

/-- The first pending lane of a class (R125). -/
def State.firstWaiting (s : State) (cls : Priority) (pointer : LaneId) : Option LaneId :=
  (lanesAfter pointer).find? fun l => s.waits (.lane l) && s.lanes[l].cls == cls

/-- The arbiter's choice: custody, else a HIGH lane, else a LOW lane (R125). -/
def State.choice (s : State) : Option Requester :=
  if s.waits .custody then some .custody
  else
    match s.firstWaiting .high s.highPointer with
    | some l => some (.lane l)
    | none => (s.firstWaiting .low s.lowPointer).map .lane

/-- Make a choice, if anyone waits (R124, R125). -/
def State.choose (s : State) : State :=
  match s.choice with
  | none => s
  | some .custody => s.beginCustodyGrant
  | some (.lane l) => s.beginRunGrant l

/-- The requester joins the pending set; with the engine IDLE the choice is made in the same step (R123, R124). -/
def State.join (s : State) (r : Requester) : State :=
  let s := { s with requesters := s.requesters ||| r.bit }
  match s.engine with
  | .idle => s.choose
  | .custody _ => s
  | .lane _ => s

/-- The grant ends: the engine becomes IDLE and the next choice is made in the same step (R121, R122, R124). -/
def State.release (s : State) : State := { s with engine := .idle }.choose

/-- A slot is named by the lane grant in flight, as its master slot or as its lane's transport slot (R17, R87). -/
def State.namedByGrant (s : State) (i : SlotId) : Bool :=
  match s.engine with
  | .lane g => g.master == some i || s.lanes[g.lane].transport == some i
  | .idle => false
  | .custody _ => false

/-! ### Custody commands that need the engine -/

/-- The command passes its zero-cost checks and waits for the engine (R27, R52, R123). -/
def State.startProcess (s : State) (p : Process) : State :=
  { s with custody := { s.custody with process := some p } }.join .custody

/-- The command in process writes its reply, and its grant ends (R122). -/
def State.endProcess (s : State) (r : Reply) : State :=
  ({ s with custody := { s.custody with process := none } }.reply .custody r).release

/-- The command in process goes on to its next operation in the same grant (R122). -/
def State.nextOp (s : State) (g : CustodyGrant) (p : Process) : State :=
  { s with custody := { s.custody with process := some p }
           engine := .custody { g with performed := g.performed + 1, op := s.custodyOp p } }

end Sys2Proof.Machine
end

