-- ==== Sys2Proof/Machine/Metering.lean ====
section
/-! DEFINITION. The arithmetic of one card entry, the stop of a run, and the metering walk of a lane grant (R76 to R92, R112). -/

namespace Sys2Proof.Machine

/-! ### Validation (R77 to R79) -/

/-- A digit in an even position: doubled, less 9 when that exceeds 9 (R78). -/
def doubledDigit (d : Nat) : Nat := if 2 * d > 9 then 2 * d - 9 else 2 * d

/-- The check-digit sum of digits taken from the right; `even` tells whether the first is in an even position (R78). -/
def checkSum : Bool → List Byte → Nat
  | _, [] => 0
  | true, d :: ds => doubledDigit d.toNat + checkSum false ds
  | false, d :: ds => d.toNat + checkSum true ds

/-- The check-digit test: the last digit is position 1 (R78). -/
def checkDigitOk (digits : List Byte) : Bool := checkSum false digits.reverse % 10 == 0

/-- The identifier begins with the warrant's prefix, if there is one (R79). -/
def prefixOk (leading : Option (List Byte)) (digits : List Byte) : Bool :=
  match leading with
  | none => true
  | some p => digits.take p.length == p

/-- Stage 1: the status of the first check that fails (R77). -/
def Entry.refusal (e : Entry) (leading : Option (List Byte)) : Option EntryStatus :=
  if e.digits.length < 13 || 19 < e.digits.length then some .badLength
  else if !(e.digits.all fun d => d.toNat ≤ 9) then some .badDigit
  else if 9999 < e.sequence.toNat then some .badSequence
  else if !checkDigitOk e.digits then some .badCheckDigit
  else if !prefixOk leading e.digits then some .outsidePrefix
  else none

/-! ### Packing and the derivation block (R80, R81) -/

/-- Stage 2: 20 nibbles, the digits right-aligned, 0xF on the left (R80). -/
def packDigits (digits : List Byte) : BitVec 80 :=
  BitVec.ofNat 80 (digits.foldl (fun acc d => acc * 16 + d.toNat) (16 ^ (20 - digits.length) - 1))

/-- Stage 3: issuer tag, version, packed field, sequence number, purpose, 0x00 (R81). -/
def derivationBlock (issuer : Nat) (version : Byte) (packed : BitVec 80) (sequence : BitVec 16) (purpose : Purpose) :
    Block :=
  readBlock ([u8 issuer, version] ++ be 10 packed.toNat ++ be 2 sequence.toNat ++ [purpose.byte, 0x00])

/-! ### The stop of a run (R112) -/

/-- The run leaves the lane, which becomes IDLE with a new last-run summary (R114). -/
def Lane.leave (x : Lane) (r : Run) (reason : EndReason) : Lane :=
  { x with run := none, last := some ⟨r.tag, r.next, reason⟩ }

/-- RUN_STOP's effect on the lane's run as it stands; with the stop mark already set it has none (R112). -/
def State.runStop (s : State) (l : LaneId) : State :=
  let x := s.lanes[l]
  match x.run with
  | none => s
  | some r =>
    match r.state with
    | .queued => (s.setLane l (x.leave r .stopped)).withdraw (.lane l)
    | .active => s.setLane l { x with run := some { r with stopMark := true } }
    | .drainingMore =>
      if r.stopMark then s
      else s.setLane l { x with run := some { r with stopMark := true, endReason := some .stopped } }
    | .drainingFinal => s

/-- The entry whose boundary the grant comes to next: the one it stands at, or the one after the entry in progress (R89). -/
def RunGrant.boundary (g : RunGrant) : Nat :=
  match g.stage with
  | .opening => g.index
  | .deriving _ _ => g.index + 1
  | .checking _ _ _ => g.index + 1
  | .keystream _ _ _ _ => g.index + 1
  | .withheld => g.index + 1

/-! ### The walk (R87 to R91) -/

/-- Where a walk stops: at an entry to deliver, before an entry that does not fit, or at the run's end. -/
inductive WalkStop where
  | deliver (index : Nat) (e : Entry)
  | more (index : Nat)
  | final (next : Nat) (reason : EndReason)
  deriving DecidableEq, Repr

/-- The same status for every entry from an index on (R88, R91). -/
def markAll (status : EntryStatus) : Nat → List Entry → List EntryResult
  | _, [] => []
  | i, _ :: es => ⟨i, status⟩ :: markAll status (i + 1) es

/-- The outcome of a walk: the entries resolved, where it stops, and the stop mark as it then stands. -/
structure WalkEnd where
  results  : List EntryResult
  stop     : WalkStop
  stopMark : Bool
  deriving DecidableEq, Repr

/-- The walk over the entries from an index on, up to the next delivery or its end: the stop mark, the warrant check,
validation and the budget check, in that order, at every entry (R88, R89, R91). No other command comes between these points
(notes/assumptions/4.md), but a RUN_STOP may be taken within the walk: `stop` is the entry whose warrant check has then been
passed, so that it is seen at the next boundary, or carried by the run if the walk ends before one (R91,
notes/assumptions/31.md). -/
def walk (stop : Option Nat) (w : Option Warrant) (room : Bool) : Bool → Nat → List Entry → WalkEnd
  | mark, i, [] => ⟨[], .final i .complete, mark⟩
  | mark, i, e :: es =>
    let next := i + es.length + 1
    if mark then ⟨markAll .notReached i (e :: es), .final next .stopped, mark⟩
    else
      match w with
      | none => ⟨markAll .notReached i (e :: es), .final next .warrantClosed, mark⟩
      | some x =>
        match x.state with
        | .closed _ => ⟨markAll .notReached i (e :: es), .final next .warrantClosed, mark⟩
        | .held => ⟨markAll .notReached i (e :: es), .final next .warrantHeld, mark⟩
        | .exhausted => ⟨markAll .quotaSpent i (e :: es), .final next .quotaReached, mark⟩
        | .opened =>
          let mark := stop == some i
          match e.refusal x.digits with
          | some status =>
            let rest := walk stop w room mark (i + 1) es
            { rest with results := ⟨i, status⟩ :: rest.results }
          | none => ⟨[], if room then .deliver i e else .more i, mark⟩

/-- The key of the lane's transport slot, if that slot is ACTIVE (R3, R84). Its size is that of the value, whatever
length a memory fault has left beside it (notes/assumptions/30.md). -/
def State.transportKey (s : State) (l : LaneId) : Option KeyValue :=
  match s.lanes[l].transport with
  | none => none
  | some i => s.slots[i].activeKey

/-- Stages 2 and 3, and the beginning of Stage 4 under the master key, read now (R80, R81, R82). An entry begins only with
both slots ACTIVE (R11) and the master slot a DERIVATION slot (R58), else the Key Table withholds the key
(notes/assumptions/27.md). The key has the size of its value, whatever length a memory fault has left beside it
(notes/assumptions/30.md). -/
def State.entryStage (s : State) (l : LaneId) (w : Warrant) (e : Entry) : Stage :=
  match s.slots[w.master].body, s.transportKey l with
  | .active a c, some _ =>
    match a.kind with
    | .derivation purpose issuer =>
      let packed := packDigits e.digits
      let d := derivationBlock issuer a.version packed e.sequence purpose
      .deriving ⟨packed, d⟩ (.encipher c.key d)
    | .transport => .withheld
  | _, _ => .withheld

/-- The walk ends: the lane sets next index and end reason, places the RUN_RESULT, moves the run to DRAINING, and the
engine is released (R90, R109, R121). -/
def State.endWalk (s : State) (g : RunGrant) (r : Run) (results : List EntryResult) (next : Nat)
    (reason : Option EndReason) : State :=
  let x := s.lanes[g.lane]
  let result : RunResult :=
    { tag := r.tag, endReason := reason
      remaining := match s.tied r.tie with | none => 0 | some w => w.remaining
      epoch := x.epoch, position := x.position, results := results }
  let state := match reason with | none => RunState.drainingMore | some _ => RunState.drainingFinal
  (s.setLane g.lane
    { x with run := some { r with next := next, endReason := reason, state := state }
             link := { x.link with buffer := some (.runResult result) } }).release

/-- The walk goes on from the entry boundary the grant stands at (R87, R89), with the RUN_STOP taken within it, if there is
one (R91). One whose moment has not come when the walk ends MORE is taken then, in DRAINING-MORE (R112, R113); when it ends
FINAL the stop has no effect. -/
def State.walkOn (s : State) (g : RunGrant) : State :=
  match s.lanes[g.lane].run with
  | none => s
  | some r =>
    let w := s.tied r.tie
    let out := walk g.stopAt w (g.used + 3 ≤ g.budget) r.stopMark g.index (r.entries.drop (g.index - 1))
    let r := { r with stopMark := out.stopMark }
    let results := g.results ++ out.results
    match out.stop with
    | .deliver index e =>
      let stage := match w with | none => Stage.withheld | some x => s.entryStage g.lane x e
      { s.setLane g.lane { s.lanes[g.lane] with run := some r } with
        engine := .lane { g with index := index, results := results, stage := stage } }
    | .more index =>
      let ended := s.endWalk g r results index none
      if g.stopAt.isSome && !out.stopMark then ended.runStop g.lane else ended
    | .final next reason => s.endWalk g r results next (some reason)

/-! ### Completion (R69, R85) -/

/-- The debit of one delivered entry (R69). -/
def Warrant.debit (w : Warrant) : Warrant :=
  { w with
    delivered := w.delivered + 1
    state := match w.state with
      | .closed c => .closed c
      | .opened => if w.delivered + 1 = w.total then .exhausted else .opened
      | .held => if w.delivered + 1 = w.total then .exhausted else .held
      | .exhausted => .exhausted }

/-- Debit the record a run is tied to; a record that has left the table is not debited (R69, R85). -/
def State.debitTied (s : State) (serial : Nat) : State :=
  { s with warrants := s.warrants.map fun w => if w.serial = serial then w.debit else w }

/-- Raise the use count of a slot the grant names, if it names one. What it does to a slot that a memory fault has left not
ACTIVE since its key was read is the model's choice, notes/assumptions/32.md. -/
def State.raiseUsesOf (s : State) : Option SlotId → State
  | none => s
  | some i => s.raiseUses i

/-- The lane's chain advances by the keystream block (R84, R85). -/
def State.advanceChain (s : State) (l : LaneId) (keystream : Block) : State :=
  s.setLane l { s.lanes[l] with chain := keystream, position := s.lanes[l].position + 1 }

/-- Stage 7: the debit, both use counts and the chain, in one write (R85). -/
def State.completeEntry (s : State) (g : RunGrant) (tie : Nat) (keystream : Block) : State :=
  let s := s.debitTied tie
  let s := s.raiseUsesOf g.master
  let s := s.raiseUsesOf s.lanes[g.lane].transport
  s.advanceChain g.lane keystream

end Sys2Proof.Machine
end

