-- ==== Sys2Proof/Machine/CardKeys.lean ====
section
/-! DEFINITION. The steps of a lane grant, and the quantum: SET_QUANTUM, GRANT, CARD_KEY_DERIVATION_END,
CARD_CHECK_VALUE_END and KEYSTREAM_BLOCK_END (R76 to R94, R125). -/

namespace Sys2Proof.Machine

/-- The value SET_QUANTUM makes of its parameter: rounded down to a multiple of 3, then brought into 3 to 48 (R94). -/
def quantumOf (v : Nat) : Nat := min (max (v - v % 3) 3) 48

/-- SET_QUANTUM is refused in LOCKED only (R94). -/
def execSetQuantum (s : State) : Res :=
  s.takeCustody kindSetQuantum fun body s =>
    s.readCustody kindSetQuantum (readByte body) fun v s =>
      if s.mode = .locked then .next (s.custodyRefuse kindSetQuantum .locked)
      else
        let q := quantumOf v.toNat
        .next ({ s with quantum := q }.custodyOk kindSetQuantum (if q = v.toNat then .none else .clamped)
          [u8 s.quantum, u8 q])

/-- GRANT: an IDLE engine makes the arbiter's choice (R124, R125), and a lane grant that has just been given begins its
walk (R87; notes/assumptions/4.md). -/
def execGrant (s : State) : Res :=
  if !s.mode.running then .next s
  else
    let s := match s.engine with
      | .idle => s.choose
      | .custody _ => s
      | .lane _ => s
    match s.engine with
    | .lane g => match g.stage with
      | .opening => .next (s.walkOn g)
      | .deriving _ _ => .next s
      | .checking _ _ _ => .next s
      | .keystream _ _ _ _ => .next s
      | .withheld => .next s
    | .idle => .next s
    | .custody _ => .next s

/-- CARD_KEY_DERIVATION_END: the card key is in the work area, and its check value is begun (R82, R83). -/
def execCardKeyDerivationEnd (s : State) : Res :=
  match s.engine with
  | .lane g =>
    match g.stage with
    | .deriving w op =>
      let ck := op.result
      .next { s with engine := .lane { g with performed := g.performed + 1
                                              stage := .checking w ck (.encipher (.k16 ck) 0) } }
    | .withheld => .fault .keyWithheld
    | .opening => .next s
    | .checking _ _ _ => .next s
    | .keystream _ _ _ _ => .next s
  | .idle => .next s
  | .custody _ => .next s

/-- CARD_CHECK_VALUE_END: the card check value is in the work area, and the lane's keystream block is begun under the
transport key, read now (R83, R84). -/
def execCardCheckValueEnd (s : State) : Res :=
  match s.engine with
  | .lane g =>
    match g.stage with
    | .checking w ck op =>
      let stage := match s.transportKey g.lane with
        | some key => Stage.keystream w ck (firstThree op.result) (.encipher key s.lanes[g.lane].chain)
        | none => Stage.withheld
      .next { s with engine := .lane { g with performed := g.performed + 1, stage := stage } }
    | .withheld => .fault .keyWithheld
    | .opening => .next s
    | .deriving _ _ => .next s
    | .keystream _ _ _ _ => .next s
  | .idle => .next s
  | .custody _ => .next s

/-- The grant after a delivered entry: 3 operations used, its result appended, and the next entry's boundary reached
(R84, R85, R86). -/
def RunGrant.delivered (g : RunGrant) (wrapped : Block) (check : CheckValue) : RunGrant :=
  { g with
    used := g.used + 3, performed := g.performed + 1, index := g.index + 1
    results := g.results ++ [⟨g.index, .delivered wrapped check⟩]
    stage := .opening }

/-- KEYSTREAM_BLOCK_END: the card key is wrapped, the entry completed in one write, and the walk goes on (R84, R85). -/
def execKeystreamBlockEnd (s : State) : Res :=
  match s.engine with
  | .lane g =>
    match g.stage with
    | .keystream _ ck check op =>
      match s.lanes[g.lane].run with
      | none => .next s
      | some r =>
        let o := op.result
        .next ((s.completeEntry g r.tie o).walkOn (g.delivered (ck ^^^ o) check))
    | .withheld => .fault .keyWithheld
    | .opening => .next s
    | .deriving _ _ => .next s
    | .checking _ _ _ => .next s
  | .idle => .next s
  | .custody _ => .next s

end Sys2Proof.Machine
end

