-- ==== Sys2Proof/Machine/Ceremony.lean ====
section
/-! DEFINITION. Key ceremonies: ASSEMBLE, COMPONENT with its component check and final check, ASSEMBLY_CANCEL, and the
custody switch (R20 to R34). -/

namespace Sys2Proof.Machine

/-! ### ASSEMBLE -/

/-- The attributes of an ASSEMBLE whose fields are all in range (R21, check 2). -/
def AssembleForm.attributes (f : AssembleForm) : Option Attributes :=
  match readKind f.kind f.purpose f.issuer, readLength f.length with
  | some kind, some length =>
    if f.required = 2 ∨ f.required = 3 then some ⟨kind, f.version, length⟩ else none
  | _, _ => none

/-- The assembly part ASSEMBLE creates (R21). -/
def AssembleForm.assembly (f : AssembleForm) (length : KeyLength) : Assembly :=
  { required := f.required.toNat, custodians := [], accumulator := KeyValue.zero length, expected := f.expected
    checking := false }

/-- ASSEMBLE: reserves an EMPTY slot for a new key (R21). -/
def execAssemble (s : State) : Res :=
  s.takeCustody kindAssemble fun body s =>
    s.readCustody kindAssemble (readAssemble body) fun f s =>
      s.gatedSlot kindAssemble .keyChange f.slot fun i s =>
        if s.slots[i].body ≠ .empty then .next (s.custodyRefuse kindAssemble .slotState)
        else
          match f.attributes with
          | none => .next (s.custodyRefuse kindAssemble .parameter)
          | some a =>
            .next ((s.writeSlot i (.assembling a) 0 (some (f.assembly a.length))).custodyOk kindAssemble .none
              [u8 i.val, f.required])

/-! ### COMPONENT -/

/-- Change the volatile assembly part of a slot; the record in the battery domain is not written (R24). -/
def State.setAssembly (s : State) (i : SlotId) (p : Assembly) : State :=
  { s with slots := s.slots.set i { s.slots[i] with assembly := some p } }

/-- The list is one short of the required count, so the next component is the final one (R24, R25). -/
def Assembly.lastDue (p : Assembly) : Bool := p.custodians.length + 1 == p.required

/-- A component is combined: exclusive-ORed into the accumulator, its custodian appended; with the list full the checking
flag is set at once (R24, R25). -/
def Assembly.combine (p : Assembly) (custodian : Nat) (value : KeyValue) : Assembly :=
  { p with
    custodians := p.custodians ++ [custodian]
    accumulator := p.accumulator.xor value
    checking := p.lastDue }

/-- The fields of the OK reply to a component that leaves the list short (R24). -/
def Assembly.progress (p : Assembly) (i : SlotId) (custodian : Nat) : List Byte :=
  [u8 i.val, u8 custodian, u8 p.custodians.length, u8 p.required]

/-- The checks of R22 in their order, on a slot's record; one ASSEMBLING without an assembly part is refused
(notes/assumptions/28.md). -/
def Slot.componentRefusal (sl : Slot) (f : ComponentForm) : Option Code :=
  match sl.assemblyOf with
  | none => some .slotState
  | some (a, p) =>
    if p.checking then some .slotState
    else if p.custodians.contains f.custodian.toNat then some .duplicateCustodian
    else if f.custodian.toNat < 1 ∨ 8 < f.custodian.toNat ∨ f.value.length ≠ a.length then some .parameter
    else none

/-- An accepted COMPONENT: to its component check if it carries a check value, else combined at once (R23, R24, R25). -/
def State.acceptComponent (s : State) (i : SlotId) (p : Assembly) (f : ComponentForm) : State :=
  let custodian := f.custodian.toNat
  match f.check with
  | some check => s.startProcess (.componentCheck i custodian f.value check p.lastDue false)
  | none =>
    let p' := p.combine custodian f.value
    let s := s.setAssembly i p'
    if p.lastDue then s.startProcess (.finalCheck i)
    else s.custodyOk kindComponent .none (p'.progress i custodian)

/-- COMPONENT (R22). -/
def execComponent (s : State) : Res :=
  s.takeCustody kindComponent fun body s =>
    s.readCustody kindComponent (readComponent body) fun f s =>
      s.gatedSlot kindComponent .keyChange f.slot fun i s =>
        match s.slots[i].componentRefusal f, s.slots[i].assemblyOf with
        | some code, _ => .next (s.custodyRefuse kindComponent code)
        | none, some (_, p) => .next (s.acceptComponent i p f)
        | none, none => .next s

/-- COMPONENT_CHECK_END: the component check's operation ends (R23, R24, R25, R33). -/
def execComponentCheckEnd (s : State) : Res :=
  match s.engine, s.custody.process with
  | .custody g, some (.componentCheck i custodian value check _ ended) =>
    match g.op with
    | none => .fault .keyWithheld
    | some op =>
      let computed := firstThree op.result
      if ended then .next (s.endProcess (.refused kindComponent .notInCustody []))
      else if computed ≠ check then
        .next (s.endProcess (.refused kindComponent .componentMismatch (u8 custodian :: checkBytes computed)))
      else
        match s.slots[i].assemblyOf with
        | none => .fault .recordChanged
        | some (_, p) =>
          let p' := p.combine custodian value
          let s := s.setAssembly i p'
          if p.lastDue then .next (s.nextOp g (.finalCheck i))
          else .next (s.endProcess (.ok kindComponent .none (p'.progress i custodian)))
  | _, _ => .next s

/-- FINAL_CHECK_END: the final check's operation ends and its outcome is written (R26). -/
def execFinalCheckEnd (s : State) : Res :=
  match s.engine, s.custody.process with
  | .custody g, some (.finalCheck i) =>
    match g.op, s.slots[i].assemblyOf with
    | none, _ => .fault .keyWithheld
    | some _, none => .fault .recordChanged
    | some op, some (a, p) =>
      let computed := firstThree op.result
      if computed = p.expected then
        let c : Contents := { key := p.accumulator, check := computed, origin := .assembled, uses := 0 }
        .next ((s.writeSlot i (.active a c) 0 none).endProcess
          (.ok kindComponent .none ([u8 i.val, (SlotBody.active a c).byte] ++ checkBytes computed)))
      else
        .next ((s.emptySlot i).endProcess
          (.refused kindComponent .checkMismatch (checkBytes p.expected ++ checkBytes computed)))
  | _, _ => .next s

/-! ### ASSEMBLY_CANCEL -/

/-- ASSEMBLY_CANCEL: abandons an assembly whose final check is not in flight (R28). A slot ASSEMBLING without
an assembly part is refused (notes/assumptions/28.md). -/
def execAssemblyCancel (s : State) : Res :=
  s.takeCustody kindAssemblyCancel fun body s =>
    s.readCustody kindAssemblyCancel (readByte body) fun slot s =>
      s.gatedSlot kindAssemblyCancel .keyChange slot fun i s =>
        match s.slots[i].assemblyOf with
        | none => .next (s.custodyRefuse kindAssemblyCancel .slotState)
        | some (_, p) =>
          if p.checking then .next (s.custodyRefuse kindAssemblyCancel .slotState)
          else
            .next ((s.emptySlot i).custodyOk kindAssemblyCancel .none [u8 i.val, u8 p.custodians.length])

/-! ### The custody switch -/

/-- The raw contact reads CUSTODY while the CSW pin is low and RUN while it is high (R30). -/
def contact : Level → SwitchPosition
  | .low => .custody
  | .high => .run

/-- One sample of the raw contact: the count of differing samples, and the confirmed change when it reaches 8 (R30). -/
def switchSample (position : SwitchPosition) (count : Nat) (sample : SwitchPosition) :
    SwitchPosition × Nat × Bool :=
  if sample = position then (position, 0, false)
  else if count + 1 < 8 then (position, count + 1, false)
  else (sample, 0, true)

/-- A slot that a change to RUN empties: ASSEMBLING with its checking flag clear (R32); one without an assembly part is
left (notes/assumptions/28.md). -/
def Slot.abandoned (sl : Slot) : Bool :=
  match sl.assemblyOf with
  | none => false
  | some (_, p) => !p.checking

/-- Every such slot becomes EMPTY (R32). -/
def State.abandonAssemblies (s : State) : State :=
  { s with slots := Vector.ofFn fun i => if s.slots[i].abandoned then Slot.blank i else s.slots[i] }

/-- What the change does to a COMPONENT in process for such a slot (R33): waiting, it is withdrawn and answered; holding
the engine, its operation runs on and the answer follows at its end. `s` is the state before the slots are emptied. -/
def State.abandonComponent (s : State) : State :=
  match s.custody.process with
  | some (.componentCheck i custodian value check last _) =>
    if s.slots[i].abandoned then
      match s.engine with
      | .custody _ =>
        { s with custody := { s.custody with process := some (.componentCheck i custodian value check last true) } }
      | .idle | .lane _ =>
        ({ s with custody := { s.custody with process := none } }.withdraw .custody).custodyRefuse kindComponent
          .notInCustody
    else s
  | _ => s

/-- A confirmed change to RUN (R32, R33). -/
def State.changeToRun (s : State) : State := s.abandonComponent.abandonAssemblies

/-- One sample of the CSW pin, with the effect of a confirmed change (R30). The sample clock is left out
(notes/assumptions/10.md). -/
def State.sampleSwitch (s : State) (pin : Level) : State :=
  match switchSample s.custody.position s.custody.count (contact pin) with
  | (position, count, confirmed) =>
    let s := { s with custody := { s.custody with position := position, count := count } }
    if confirmed && position == .run then s.changeToRun else s

/-- CUSTODY_SWITCH_CHANGE: the filter takes the samples, in order; it runs from the end of RESET with the main supply
present (R30, R31). -/
def execCustodySwitchChange (samples : List Level) (s : State) : Res :=
  if s.mode.running then .next (samples.foldl State.sampleSwitch s) else .next s

end Sys2Proof.Machine
end

