-- ==== Sys2Proof/Machine/KeyTable.lean ====
section
/-! DEFINITION. The Key Table's own requests: SLOT_STATUS and SLOT_ERASE (R16, R17). -/

namespace Sys2Proof.Machine

/-- The attribute fields a report gives: kind, purpose, issuer tag, version, length; purpose and issuer tag 0 where
absent (R16, R171). -/
def Attributes.bytes (a : Attributes) : List Byte :=
  [a.kind.byte, a.kind.purposeByte, a.kind.issuerByte, a.version, a.length.byte]

/-- The fields of the assembly part that SLOT_STATUS reports: required count, custodian list, expected check value and
checking flag, never the accumulator; a part that is absent is sent as 0 (R16, R171). -/
def assemblyBytes : Option Assembly → List Byte
  | none => [0, 0, 0, 0, 0, 0]
  | some p =>
    [u8 p.required, u8 p.custodians.length] ++ p.custodians.map u8 ++ checkBytes p.expected ++ [flag p.checking]

/-- The fields of the contents that SLOT_STATUS reports: check value, origin and use count, never the key (R16). -/
def Contents.bytes (c : Contents) : List Byte := checkBytes c.check ++ [c.origin.byte] ++ be 4 c.uses

/-- The fields SLOT_STATUS reports after the slot number, by state (R16). The key value, the accumulator and the
integrity word are never among them. -/
def Slot.report (sl : Slot) : List Byte :=
  sl.body.byte ::
    match sl.body with
    | .empty => []
    | .assembling a => a.bytes ++ assemblyBytes sl.assembly
    | .active a c => a.bytes ++ c.bytes ++ [u8 sl.refs]
    | .faulty a c => a.bytes ++ c.bytes ++ [u8 sl.refs]

/-- SLOT_STATUS: one reading of one slot (R16). -/
def execSlotStatus (s : State) : Res :=
  s.takeCustody kindSlotStatus fun body s =>
    s.readCustody kindSlotStatus (readByte body) fun slot s =>
      s.gatedSlot kindSlotStatus .slotStatus slot fun i s =>
        .next (s.custodyOk kindSlotStatus .none (u8 i.val :: s.slots[i].report))

/-- The check value of an ACTIVE or FAULTY slot, the states SLOT_ERASE empties (R17). -/
def Slot.erasableCheck (sl : Slot) : Option CheckValue :=
  match sl.body with
  | .empty => none
  | .assembling _ => none
  | .active _ c => some c.check
  | .faulty _ c => some c.check

/-- SLOT_ERASE: empties an ACTIVE or FAULTY slot that nothing uses (R17). -/
def execSlotErase (s : State) : Res :=
  s.takeCustody kindSlotErase fun body s =>
    s.readCustody kindSlotErase (readByte body) fun slot s =>
      s.gatedSlot kindSlotErase .keyChange slot fun i s =>
        match s.slots[i].erasableCheck with
        | none => .next (s.custodyRefuse kindSlotErase .slotState)
        | some check =>
          if 0 < s.slots[i].refs || s.namedByGrant i then .next (s.custodyRefuse kindSlotErase .inUse)
          else .next ((s.emptySlot i).custodyOk kindSlotErase .none (u8 i.val :: checkBytes check))

end Sys2Proof.Machine
end

