-- ==== Sys2Proof/Machine/Runs.lean ====
section
/-! DEFINITION. What a Lane Unit does with a request and with its run, as the commands that reach it share it: the taking
of the request at the FIFO head and its reply, the acceptance of a RUN, the stop, and the end of a run (R67, R105 to
R115, R163). -/

namespace Sys2Proof.Machine

/-- Answer a lane request REFUSED without detail. -/
def State.laneRefuse (s : State) (l : LaneId) (request : Byte) (code : Code) : State :=
  s.reply (.lane l) (.refused request code [])

/-! ### RUN -/

/-- The outcome of the acceptance checks of a RUN. -/
inductive Acceptance where
  | refused (code : Code)
  | accepted (r : Run)
  deriving DecidableEq, Repr

/-- The run record of an accepted RUN (R107). -/
def RunForm.record (f : RunForm) (w : Warrant) : Run :=
  { tag := f.tag, tie := w.serial, entries := f.entries, next := 1, state := .queued, stopMark := false
    endReason := none }

/-- The acceptance checks of a RUN in their order (R106). -/
def State.acceptance (s : State) (l : LaneId) (body : List Byte) : Acceptance :=
  match s.serviceRefusal with
  | some code => .refused code
  | none =>
    if s.lanes[l].transport.isNone then .refused .notBound
    else
      match readRun body with
      | none => .refused .malformed
      | some f =>
        match s.warrant f.warrant.toNat with
        | none => .refused .noSuchWarrant
        | some w =>
          if !inLaneSet w.lanes l then .refused .laneNotPermitted
          else if !inIssuerSet s.lanes[l].issuers w.issuer then .refused .issuerNotPermitted
          else if w.state ≠ .opened then .refused .warrantNotOpen
          else .accepted (f.record w)

/-- A RUN is accepted, and the lane enters the pending set, or refused with its run tag (R107, R108). -/
def State.answerRun (s : State) (l : LaneId) (body : List Byte) : State :=
  match s.acceptance l body with
  | .refused code => s.reply (.lane l) (.refused kindRun code [runTag body])
  | .accepted r => (s.setLane l { s.lanes[l] with run := some r }).join (.lane l)

/-! ### LANE_STATUS and WARRANT_STATUS -/

/-- Run state, tag, next index and stop mark as LANE_STATUS reports them; 0 for a lane with no run (R115, R171). -/
def runBytes : Option Run → List Byte
  | none => [0, 0, 0, 0]
  | some r => [r.state.byte, r.tag, u8 r.next, flag r.stopMark]

/-- The last-run summary; 0 where absent (R115, R171). -/
def summaryBytes : Option Summary → List Byte
  | none => [0, 0, 0]
  | some x => [x.tag, u8 x.next, x.reason.byte]

/-- The fields of LANE_STATUS (R115): binding, and the class of a BOUND lane, 0 for an UNBOUND one. -/
def Lane.report (x : Lane) (m : Mode) : List Byte :=
  [m.byte, flag x.transport.isSome, if x.transport.isSome then x.cls.byte else 0, x.epoch] ++ be 4 x.position.toNat
    ++ runBytes x.run ++ summaryBytes x.last ++ [flag x.link.overrun, u8 x.link.frameErrors]

/-- LANE_STATUS answered (R115). -/
def State.answerLaneStatus (s : State) (l : LaneId) (body : List Byte) : State :=
  match readNothing body with
  | none => s.laneRefuse l kindLaneStatus .malformed
  | some _ => s.reply (.lane l) (.laneStatus (s.lanes[l].report s.mode))

/-- A prefix with its count byte; count 0 where absent (R171). -/
def prefixBytes : Option (List Byte) → List Byte
  | none => [0]
  | some p => u8 p.length :: p

/-- The fields a lane may read of a warrant: neither master slot nor lane set (R67). -/
def Warrant.laneReport (w : Warrant) : List Byte :=
  [u8 w.id, w.state.byte, u8 w.issuer] ++ prefixBytes w.digits ++ be 4 w.total ++ be 4 w.delivered
    ++ be 4 w.remaining ++ [w.state.reasonByte]

/-- The warrant a lane may read: in the table, and with this lane in its lane set (R67). -/
def State.warrantFor (s : State) (l : LaneId) (id : Nat) : Option Warrant :=
  (s.warrant id).filter fun w => inLaneSet w.lanes l

/-- The lane form of WARRANT_STATUS answered (R67). -/
def State.answerWarrantStatus (s : State) (l : LaneId) (body : List Byte) : State :=
  match readByte body with
  | none => s.laneRefuse l kindWarrantStatus .malformed
  | some id =>
    match s.serviceRefusal with
    | some code => s.laneRefuse l kindWarrantStatus code
    | none =>
      if !warrantIdOk id.toNat then s.laneRefuse l kindWarrantStatus .parameter
      else
        match s.warrantFor l id.toNat with
        | none => s.laneRefuse l kindWarrantStatus .noSuchWarrant
        | some w => s.reply (.lane l) (.ok kindWarrantStatus .none w.laneReport)

/-! ### Taking a request -/

/-- The request at the head of a lane's FIFO is taken and answered. A lane whose run is QUEUED leaves the pending set as
it takes one (R108). -/
def State.serveLane (s : State) (l : LaneId) (f : Frame) : State :=
  let s := (s.popFrame (.lane l)).withdraw (.lane l)
  if f.kind = kindRun then s.answerRun l f.body
  else if f.kind = kindLaneStatus then s.answerLaneStatus l f.body
  else if f.kind = kindWarrantStatus then s.answerWarrantStatus l f.body
  else s.laneRefuse l f.kind .unknownRequest

/-- The lane takes the request at the head of its FIFO if it may and the request is one of these kinds; otherwise the
step does not occur (R105, notes/assumptions/2.md). -/
def State.takeLane (s : State) (l : LaneId) (kinds : Byte → Bool) : Res :=
  match s.lanes[l].link.fifo with
  | [] => .next s
  | f :: _ => if s.laneReady l f.kind && kinds f.kind then .next (s.serveLane l f) else .next s

/-! ### The end of a run -/

/-- What consuming a RUN_RESULT does to the run (R111). -/
def Lane.moveOn (x : Lane) : Lane :=
  match x.run with
  | none => x
  | some r =>
    match r.state with
    | .drainingMore => if r.stopMark then x.leave r .stopped else { x with run := some { r with state := .queued } }
    | .drainingFinal => match r.endReason with | some reason => x.leave r reason | none => x
    | .queued => x
    | .active => x

/-- RUN_STOP taken at its moment: at once, or within the walk of the lane's grant, if the warrant check of the entry named is
still to come; of two moments to come the earlier stands (R91, R112, R113,
notes/assumptions/31.md). -/
def State.takeStop (s : State) (stop : Stop) : State :=
  match stop.past, s.engine with
  | some n, .lane g =>
    if g.lane = stop.lane ∧ g.boundary ≤ n then
      { s with engine := .lane { g with stopAt := some (match g.stopAt with | none => n | some m => min m n) } }
    else s.runStop stop.lane
  | some _, .idle => s.runStop stop.lane
  | some _, .custody _ => s.runStop stop.lane
  | none, _ => s.runStop stop.lane

/-- After a consumed reply the lane considers the request at its FIFO head, and otherwise, with its run QUEUED, enters
the pending set (R105, R108, R111, R166). -/
def State.considerHead (s : State) (l : LaneId) : State :=
  let rejoined := match s.lanes[l].run with
    | some r => if r.state = .queued then s.join (.lane l) else s
    | none => s
  match s.lanes[l].link.fifo with
  | [] => rejoined
  | f :: _ => if s.laneReady l f.kind then s.serveLane l f else rejoined

end Sys2Proof.Machine
end

