-- ==== Sys2Proof/Machine/Lanes.lean ====
section
/-! DEFINITION. Lane bindings and the lane requests: LANE_BIND, LANE_UNBIND, RUN, LANE_STATUS, RUN_STOP, LANE_CLEAR (R97 to
R115, R161). -/

namespace Sys2Proof.Machine

/-- A binding whose form is in range (R97 check 2). -/
structure Binding where
  lane    : LaneId
  slot    : SlotId
  cls     : Priority
  issuers : IssuerSet
  initial : Block
  deriving DecidableEq, Repr

/-- An issuer set is not empty and names tags from 1 to 30 only (R97, R171). -/
def issuerSetOk (set : IssuerSet) : Bool := set != 0 && !set.getLsbD 0 && !set.getLsbD 31

/-- The form check of LANE_BIND (R97 check 2). -/
def BindForm.binding (f : BindForm) : Option Binding :=
  match readLane f.lane, readSlot f.slot, readPriority f.cls with
  | some lane, some slot, some cls => if issuerSetOk f.issuers then some ⟨lane, slot, cls, f.issuers, f.initial⟩ else none
  | _, _, _ => none

/-- The lookup of a transport slot (R11, R97 checks 4 and 5). -/
def Slot.transportRefusal (sl : Slot) : Option Code :=
  match sl.body with
  | .active a _ =>
    match a.kind with
    | .transport => none
    | .derivation _ _ => some .slotKind
  | .empty => some .slotState
  | .assembling _ => some .slotState
  | .faulty _ _ => some .slotState

/-- Lower the reference count of a slot, if there is one. -/
def State.lowerRefsOf (s : State) : Option SlotId → State
  | none => s
  | some i => s.lowerRefs i

/-- The references a binding moves: none when the lane is bound to the same slot again (R98, R10). -/
def State.moveRefs (s : State) (old : Option SlotId) (new : SlotId) : State :=
  if old = some new then s else (s.lowerRefsOf old).raiseRefs new

/-- The lane context after a LANE_BIND: the binding replaced and the chain reset (R98). -/
def Lane.bind (x : Lane) (b : Binding) : Lane :=
  { x with transport := some b.slot, cls := b.cls, issuers := b.issuers, initial := b.initial, chain := b.initial
           epoch := x.epoch + 1, position := 0 }

/-- The check value of a slot that has one. -/
def Slot.check (sl : Slot) : CheckValue :=
  match sl.body with
  | .active _ c => c.check
  | .faulty _ c => c.check
  | .empty => 0
  | .assembling _ => 0

/-- LANE_BIND (R97, R98). -/
def execLaneBind (s : State) : Res :=
  s.takeCustody kindLaneBind fun body s =>
    s.readCustody kindLaneBind (readLaneBind body) fun f s =>
      s.served kindLaneBind fun s =>
        match f.binding with
        | none => .next (s.custodyRefuse kindLaneBind .parameter)
        | some b =>
          if s.lanes[b.lane].run.isSome then .next (s.custodyRefuse kindLaneBind .laneBusy)
          else
            match s.slots[b.slot].transportRefusal with
            | some code => .next (s.custodyRefuse kindLaneBind code)
            | none =>
              let x := s.lanes[b.lane].bind b
              .next (((s.moveRefs s.lanes[b.lane].transport b.slot).setLane b.lane x).custodyOk kindLaneBind .none
                ([u8 b.lane.val, u8 b.slot.val] ++ checkBytes s.slots[b.slot].check ++ [b.cls.byte, x.epoch]))

/-- LANE_UNBIND (R99). -/
def execLaneUnbind (s : State) : Res :=
  s.takeCustody kindLaneUnbind fun body s =>
    s.readCustody kindLaneUnbind (readByte body) fun b s =>
      s.served kindLaneUnbind fun s =>
        match readLane b with
        | none => .next (s.custodyRefuse kindLaneUnbind .parameter)
        | some l =>
          let x := s.lanes[l]
          match x.transport with
          | none => .next (s.custodyRefuse kindLaneUnbind .notBound)
          | some i =>
            if x.run.isSome then .next (s.custodyRefuse kindLaneUnbind .laneBusy)
            else
              .next (((s.lowerRefs i).setLane l { x with transport := none }).custodyOk kindLaneUnbind .none
                ([u8 l.val, x.epoch] ++ be 4 x.position.toNat))

/-- RUN is taken from the lane's FIFO (R105, R106, R107). -/
def execRun (lane : LaneId) (s : State) : Res := s.takeLane lane fun k => k == kindRun

/-- LANE_STATUS is taken from the lane's FIFO (R115). -/
def execLaneStatus (lane : LaneId) (s : State) : Res := s.takeLane lane fun k => k == kindLaneStatus

/-- RUN_STOP is taken as its frame completes, in every state in which the receivers work (R112, R161). -/
def execRunStop (stop : Stop) (s : State) : Res := if s.mode.running then .next (s.takeStop stop) else .next s

/-- LANE_CLEAR is taken as its frame completes (R161). -/
def execLaneClear (lane : LaneId) (s : State) : Res :=
  if s.mode.running then .next (s.setLink (.lane lane) (s.link (.lane lane)).clear) else .next s

end Sys2Proof.Machine
end

