-- ==== Sys2Proof/WellFormed.lean ====
section
/-! DEFINITION. When a command's operands can be what its row says they are.
`exec` runs every command: one whose operands contradict its row has no effect (notes/assumptions/2.md). -/

namespace Sys2Proof

/-- The logic stop level of 2.50 V in millivolts (R150, 11 section 11.5). -/
def stopLevel : Nat := 2500

/-- A request transfer has a first byte, and that byte is not 0x00, which would make it a collect (R159). -/
def requestBytesOk (bytes : List Byte) : Bool :=
  match bytes with
  | [] => false
  | b :: _ => b != 0

/-- A filter change takes at least one sample (R30, R134). -/
def samplesOk {α : Type} (samples : List α) : Bool := !samples.isEmpty

/-- A RUN_STOP taken within a walk finds it past the warrant check of one of the run's entries, 1 to 16 (R76, R91). -/
def stopOk (stop : Machine.Stop) : Bool := stop.past.all fun n => 1 ≤ n && n ≤ 16

/-- A sweep that is cut off has made at most five of its six steps and is in the next (R154). -/
def Machine.SweepCut.ok (c : Machine.SweepCut) : Bool := c.steps ≤ 5

/-- The bytes of an erased collect that had gone out are among those clocked (R165). -/
def collectOk (clocked cut : Nat) : Bool := cut ≤ clocked

/-- A reference count as the record's one byte can show it (R171). -/
def refsOk (refs : Nat) : Bool := refs < 256

/-- The attributes fit their fields: the issuer tag is one byte of the record (R1, R2). -/
def Machine.Attributes.fieldsOk (a : Machine.Attributes) : Bool :=
  match a.kind with
  | .derivation _ issuer => issuer < 256
  | .transport => true

/-- What a faulty memory can leave in a record fits its fields: an issuer tag of one byte and a use count of four (R1, R9;
notes/assumptions/14.md). -/
def Machine.SlotBody.fieldsOk : Machine.SlotBody → Bool
  | .empty => true
  | .assembling a => a.fieldsOk
  | .active a c => a.fieldsOk && c.uses < 4294967296
  | .faulty a c => a.fieldsOk && c.uses < 4294967296

/-- The operands fit the command's row. -/
def Instr.wellFormed : Instr → Bool
  | .requestTransfer _ received => requestBytesOk received.bytes
  | .collectEnd _ clocked cut => collectOk clocked cut
  | .custodySwitchChange samples => samplesOk samples
  | .tamperInputEdge _ samples => samplesOk samples
  | .supplyAboveThreshold mv => stopLevel ≤ mv
  | .supplyBelowThreshold mv => stopLevel ≤ mv
  | .mainSupplyLoss mv cut => mv < stopLevel && cut.ok
  | .resetAssert cut => cut.ok
  | .mainSupplyRise mv => stopLevel < mv
  | .batteryBackedMemoryFault _ body refs _ => body.fieldsOk && refsOk refs
  | .runStop stop => stopOk stop
  | .collectBegin _ | .unknownRequest _ | .slotStatus | .slotErase | .assemble | .component
  | .componentCheckEnd | .finalCheckEnd | .assemblyCancel | .initialise | .initialisePatternEnd
  | .storageRoll | .storageRollPatternEnd | .tokenExport | .tokenExportOperationEnd | .tokenImport
  | .tokenImportOperationEnd | .warrantOpen | .warrantHold | .warrantRelease | .warrantExtend
  | .warrantClose | .warrantPurge | .warrantStatus _ | .warrantList | .laneBind | .laneUnbind
  | .setQuantum | .tamperSetup _ | .tamperAck | .deviceStatus | .linkClear | .run _ | .laneStatus _
  | .laneClear _ | .grant | .cardKeyDerivationEnd | .cardCheckValueEnd | .keystreamBlockEnd
  | .eraseComplete | .supplyTimerExpiry | .resetRelease | .validityCheck _
  | .batteryLossClearingEnd | .sweepEnd | .backupBatteryFailure _ => true

end Sys2Proof
end

