-- ==== Sys2Proof/Machine/Links.lean ====
section
/-! DEFINITION. The links: request transfers, collects, unknown requests, LINK_CLEAR and DEVICE_STATUS (R159 to R169). -/

namespace Sys2Proof.Machine

/-- The bytes a transfer has shifted out on a link. -/
def State.shiftOut (s : State) (k : Link) (bytes : List Byte) : State := s.setLink k { s.link k with sdo := bytes }

/-! ### Request transfers -/

/-- A frame error on a link (R160). -/
def State.frameError (s : State) (k : Link) : State := s.setLink k (s.link k).frameError

/-- The FIFO and the overrun flag of a link are cleared (R161). -/
def State.clearLink (s : State) (k : Link) : State := s.setLink k (s.link k).clear

/-- An immediate request is taken at the moment its frame completes (R161). -/
def State.immediate (s : State) (k : Link) (kind : Byte) : State :=
  match k with
  | .custody => s.clearLink .custody
  | .lane l => if kind = kindRunStop then s.runStop l else s.clearLink (.lane l)

/-- The largest length a request frame may declare (R160). -/
def maxBody : Nat := 1023

/-- What the receiver does with the complete bytes of a request transfer (R160, R161, R162). -/
def State.receive (s : State) (k : Link) (bytes : List Byte) : State :=
  match bytes with
  | kind :: l1 :: l0 :: body =>
    if ofBe [l1, l0] ≤ maxBody ∧ body.length = ofBe [l1, l0] then
      if (immediateKinds k).contains kind then
        if body = [] then s.immediate k kind else s.frameError k
      else s.setLink k ((s.link k).receive ⟨kind, body⟩)
    else s.frameError k
  | _ => s.frameError k

/-- What the receiver makes of a request transfer: one that ends inside a byte has a byte count that matches no frame, and
is a frame error, even where its complete bytes would make a frame (R159, R160, notes/assumptions/22.md). -/
def State.receiveTransfer (s : State) (k : Link) (x : Shifted) : State :=
  if x.bits = 0 then s.receive k x.bytes else s.frameError k

/-- REQUEST_TRANSFER: select rises after these complete bytes and bits of an unfinished one. Every byte shifted out meanwhile
was 0x00 (R159). A first byte 0x00 would have made the transfer a collect, and no complete byte makes it nothing. -/
def execRequestTransfer (link : Link) (received : Shifted) (s : State) : Res :=
  if s.mode.running && requestBytesOk received.bytes && (s.link link).collect.isNone then
    .next ((s.shiftOut link (List.replicate received.bytes.length 0)).receiveTransfer link received)
  else .next s

/-! ### Collects -/

/-- COLLECT_BEGIN: the reply to shift out is fixed (R165). -/
def execCollectBegin (link : Link) (s : State) : Res :=
  if s.mode.running && (s.link link).collect.isNone then
    .next (s.setLink link { s.link link with collect := some ⟨(s.link link).buffer, false⟩ })
  else .next s

/-- The bytes a collect shifts out: 0x00, then the frame it fixed, and 0x00 from its end or from the moment an erase
emptied the buffer (R159, R165). -/
def Collect.shifted (c : Collect) (clocked cut : Nat) : List Byte :=
  (0 : Byte) ::
    if c.cut then c.frame.take (min cut clocked) ++ List.replicate (clocked - (c.frame.take (min cut clocked)).length) 0
    else padded clocked c.frame

/-- The reply a collect consumes: the one it fixed, if every byte of it was shifted out and no erase cut it (R165,
R166). -/
def Collect.consumed (c : Collect) (clocked : Nat) : Option Reply :=
  match c.reply with
  | none => none
  | some r => if !c.cut && r.bytes.length ≤ clocked then some r else none

/-- What the consumption of a reply hands on (R166). -/
def State.handOn (s : State) (k : Link) (r : Reply) : State :=
  match k with
  | .custody =>
    match r with
    | .deviceStatus _ true => { s with batteryLossFlag := false }
    | _ => s
  | .lane l =>
    let s := match r with
      | .runResult _ => s.setLane l s.lanes[l].moveOn
      | _ => s
    s.considerHead l

/-- COLLECT_END: select rises; a reply shifted out whole is consumed (R166), judged by the complete bytes also where the
transfer ends inside a later byte (R159, notes/assumptions/22.md). `cut` says how many bytes had gone out
when an erase emptied the buffer (notes/assumptions/22.md). -/
def execCollectEnd (link : Link) (clocked cut : Nat) (s : State) : Res :=
  match (s.link link).collect with
  | none => .next s
  | some c =>
    let x := { s.link link with collect := none, sdo := c.shifted clocked cut }
    match c.consumed clocked with
    | none => .next (s.setLink link x)
    | some r => .next ((s.setLink link { x with buffer := none }).handOn link r)

/-! ### Unknown requests and LINK_CLEAR -/

/-- UNKNOWN_REQUEST: a request outside the link's catalogue is taken and refused (R163). -/
def execUnknownRequest (link : Link) (s : State) : Res :=
  match link with
  | .custody =>
    match s.custody.link.fifo with
    | [] => .next s
    | f :: _ =>
      if custodyKinds.contains f.kind then .next s
      else s.takeCustody f.kind fun _ s => .next (s.custodyRefuse f.kind .unknownRequest)
  | .lane l => s.takeLane l fun k => !laneKinds.contains k

/-- LINK_CLEAR is taken as its frame completes (R161). -/
def execLinkClear (s : State) : Res := if s.mode.running then .next (s.clearLink .custody) else .next s

/-! ### DEVICE_STATUS -/

/-- The engine state and its holder; holder 0 while IDLE (R132, R171). -/
def Engine.report : Engine → List Byte
  | .idle => [0, 0]
  | .lane g => [1, u8 g.lane.val]
  | .custody _ => [1, 4]

/-- A verification pattern; all zero where absent (R171). -/
def patternOf : Option StorageKey → List Byte
  | none => patternBytes 0
  | some k => patternBytes k.pattern

/-- Current and previous generation, then the patterns that go with them (R37). -/
def StorageUnit.report (u : StorageUnit) : List Byte :=
  (match u.current with | none => be 2 0 | some k => be 2 k.generation)
    ++ (match u.previous with | none => be 2 0 | some k => be 2 k.generation)
    ++ patternOf u.current ++ patternOf u.previous

/-- An input's settings, its filtered level, and whether it shows its active level (R149). -/
def TamperInput.report (t : TamperInput) : List Byte :=
  [t.detection.byte, t.filter.byte, t.response.byte, t.filtered.byte, flag t.showsActive]

/-- The tamper report (R149) with the battery-loss flag as its last field. -/
def State.tamperReport (s : State) : List Byte :=
  [causesByte s.tamper.causes, firstByte s.tamper.first, u8 s.tamper.events, flag s.tamper.erasePending]
    ++ s.tamper.inputs.toList.flatMap TamperInput.report
    ++ [u8 s.tamper.threshold.val, s.tamper.supplyResponse.byte, flag s.belowThreshold,
      flag (s.tamperOutput == some true), flag s.batteryLossFlag]

/-- A lane's overrun flag, frame error count and ATTN, as DEVICE_STATUS gives them (R169). -/
def Lane.linkReport (x : Lane) : List Byte := [flag x.link.overrun, u8 x.link.frameErrors, flag x.link.attn]

/-- The fields of DEVICE_STATUS in the order of R169. -/
def State.deviceReport (s : State) : List Byte :=
  [s.mode.byte, s.custody.position.byte] ++ s.engine.report ++ [s.requesters.setWidth 8, u8 s.quantum]
    ++ s.storage.report ++ s.tamperReport
    ++ [flag s.custody.link.overrun, u8 s.custody.link.frameErrors] ++ s.lanes.toList.flatMap Lane.linkReport

/-- DEVICE_STATUS: one reading of the part (R169). -/
def execDeviceStatus (s : State) : Res :=
  s.takeCustody kindDeviceStatus fun body s =>
    s.readCustody kindDeviceStatus (readNothing body) fun _ s =>
      .next (s.reply .custody (.deviceStatus s.deviceReport s.batteryLossFlag))

end Sys2Proof.Machine
end

