-- ==== Sys2Proof/Machine/Erase.lean ====
section
/-! DEFINITION. The taking of a tamper event and the start of an erase, as the commands that bring them about share them
(R137 to R141), and the writes of the overwrite passes (R142). -/

namespace Sys2Proof.Machine

/-! ### The start of an erase (R141) -/

/-- A live warrant becomes CLOSED with a reason; a CLOSED one keeps its own (R74, R75). -/
def Warrant.closeLive (w : Warrant) (reason : CloseReason) : Warrant :=
  if w.live then { w with state := .closed reason } else w

/-- A lane at the start of an erase: run, summary and binding gone, link emptied, chain fields kept (R118). -/
def Lane.erase (x : Lane) : Lane := { x with transport := none, run := none, last := none, link := x.link.erase }

/-- The one step in which an erase begins (R141), with the passes at their start; units an interrupted erase had overwritten
still hold what it wrote, and are overwritten again (R143). The filtered switch position and the pointers are not touched. -/
def State.eraseBegin (s : State) : State :=
  { s with
    tamper := { s.tamper with erasePending := true }
    mode := .erasing
    engine := .idle
    requesters := 0
    warrants := s.warrants.map fun w => w.closeLive .tamper
    lanes := Vector.ofFn fun l => s.lanes[l].erase
    custody := { s.custody with process := none, link := s.custody.link.erase }
    passes := { s.passes with written := 0 } }

/-! ### The overwrite passes (R142) -/

/-- The writes of one pass. -/
abbrev unitCount : Nat := 50

/-- What the pass writes that `written` writes lie before: the first zeros, the second ones, the third the next value of the
Random Source (R142). -/
def passFill (written draws : Nat) : Fill :=
  match written / unitCount with
  | 0 => .zeros
  | 1 => .ones
  | _ => .random draws

/-- A bit of a unit that holds this. -/
def Fill.bit : Fill → Nat → Bool
  | .zeros, _ => false
  | .ones, _ => true
  | .random n, k => Config.randomBit n k

/-- The values the third pass draws from the write after `written` on. -/
def drawsLeft (written : Nat) : Nat := min unitCount (3 * unitCount - written)

/-- The next write of the passes, over one unit: what it held is gone, key, assembly part and storage keys with it, and it
holds what the pass writes (R142). After the third pass nothing is left to write (notes/assumptions/13.md). -/
def State.overwriteNext (s : State) : State :=
  if s.passes.written < 3 * unitCount then
    let u := s.passes.written % unitCount
    { s with
      slots := if h : u < 48 then s.slots.set u (Slot.blank ⟨u, h⟩) else s.slots
      storage := if u = 48 then { current := none, previous := none } else s.storage
      passes :=
        { written := s.passes.written + 1
          units := s.passes.units.set u (some (passFill s.passes.written s.draws)) (Nat.mod_lt _ (by decide)) }
      draws := if 2 * unitCount ≤ s.passes.written then s.draws + 1 else s.draws }
  else s

/-- What the part does by itself while no command waits: in ERASING the passes make their next write (R142,
notes/assumptions/21.md). -/
def State.tick (s : State) : State := if s.mode = .erasing then s.overwriteNext else s

/-! ### Tamper events -/

/-- The tamper record takes an event (R138). -/
def Tamper.record (t : Tamper) (x : Source) : Tamper :=
  { t with
    first := if t.causes = 0 then some x else t.first
    causes := t.causes ||| x.bit
    events := saturate 255 t.events }

/-- The fields of a tamper notice (R139). -/
def State.noticeFields (s : State) : List Byte :=
  [causesByte s.tamper.causes, firstByte s.tamper.first, u8 s.tamper.events, s.mode.byte]

/-- The tamper notice of a RECORD-class event, where one is placed (R139). -/
def State.notice (s : State) : State :=
  if s.custodyReady then s.reply .custody (.tamperNotice s.noticeFields) else s

/-- What an event of ERASE response does, by device state (R140). -/
def State.orderErase (s : State) : State :=
  match s.mode with
  | .uninitialised => s.eraseBegin
  | .operational => s.eraseBegin
  | .locked => s.eraseBegin
  | .erasing => s
  | .starting _ => { s with tamper := { s.tamper with erasePending := true } }
  | .stopped => { s with tamper := { s.tamper with erasePending := true } }

/-- The Tamper Monitor takes an event: the record first, then the response (R138, R139, R140). -/
def State.tamperEvent (s : State) (x : Source) (response : Response) : State :=
  let s := { s with tamper := s.tamper.record x }
  match response with
  | .record => s.notice
  | .erase => s.orderErase

/-- The battery domain's tamper settings and record can be trusted: the marker is valid, or steps 1 and 2 of a clearing in
progress have been made (R137, R151). A clearing that was cut off leaves the marker wrong, and while the supply is then absent
or RESET held no event is taken until the next VALIDITY_CHECK, although its steps 1 and 2 had been made (R157): the model's
choice, notes/assumptions/19.md. -/
def State.watching (s : State) : Bool := s.markerValid || s.mode == .starting .clearing

end Sys2Proof.Machine
end

