-- ==== Sys2Proof/Machine/TamperMonitor.lean ====
section
/-! DEFINITION. The Tamper Monitor's commands and events: TAMPER_SETUP, TAMPER_ACK, TAMPER_INPUT_EDGE, ERASE_COMPLETE and
the supply monitor (R133 to R149). -/

namespace Sys2Proof.Machine

/-! ### TAMPER_SETUP (R146) -/

/-- The complete settings of a TAMPER_SETUP. -/
structure TamperSettings where
  inputs         : Vector InputSettings 6
  threshold      : Fin 8
  supplyResponse : Response
  deriving DecidableEq, Repr

/-- The settings of a 20-byte body whose every field is a listed value (R146, R171). -/
def readSettings (body : List Byte) : Option TamperSettings :=
  match readInputSettings body 0, readInputSettings body 1, readInputSettings body 2, readInputSettings body 3,
    readInputSettings body 4, readInputSettings body 5, readThreshold (body.getD 18 0), readResponse (body.getD 19 0) with
  | some a, some b, some c, some d, some e, some f, some t, some r => some ⟨#v[a, b, c, d, e, f], t, r⟩
  | _, _, _, _, _, _, _, _ => none

/-- An input's new settings: with detection or filter changed the filtered level is set to the raw level and the count to
0; the quiet level is set to the filtered level (R146). -/
def TamperInput.setUp (t : TamperInput) (n : InputSettings) (raw : Level) : TamperInput :=
  let fresh := t.detection != n.detection || t.filter != n.filter
  let filtered := if fresh then raw else t.filtered
  { detection := n.detection, filter := n.filter, response := n.response
    quiet := filtered, filtered := filtered, count := if fresh then 0 else t.count }

/-- The Tamper Monitor after a TAMPER_SETUP (R136, R146). -/
def Tamper.setUp (t : Tamper) (n : TamperSettings) (raw : BitVec 6) : Tamper :=
  { t with
    inputs := Vector.ofFn fun i => t.inputs[i].setUp n.inputs[i] (levelOf raw i)
    threshold := n.threshold
    supplyResponse := n.supplyResponse
    armed := t.armed && t.threshold == n.threshold
    timer := t.timer && t.threshold == n.threshold }

/-- An input's settings as TAMPER_SETUP carries and answers them. -/
def TamperInput.settingBytes (t : TamperInput) : List Byte := [t.detection.byte, t.filter.byte, t.response.byte]

/-- The fields of the OK reply to TAMPER_SETUP: the settings now in force and each input's filtered level (R146). -/
def Tamper.setupFields (t : Tamper) : List Byte :=
  t.inputs.toList.flatMap TamperInput.settingBytes ++ [u8 t.threshold.val, t.supplyResponse.byte]
    ++ t.inputs.toList.map fun x => x.filtered.byte

/-- TAMPER_SETUP (R146). -/
def execTamperSetup (raw : BitVec 6) (s : State) : Res :=
  s.takeCustody kindTamperSetup fun body s =>
    s.readCustody kindTamperSetup (readTamperSetup body) fun body s =>
      s.gated kindTamperSetup .tamperSetup fun s =>
        match readSettings body with
        | none => .next (s.custodyRefuse kindTamperSetup .parameter)
        | some n =>
          let t := s.tamper.setUp n raw
          .next ({ s with tamper := t }.custodyOk kindTamperSetup .none t.setupFields)

/-! ### TAMPER_ACK (R147) -/

/-- An ERASE-class input shows its active level, or the main supply is below the threshold (R147). -/
def State.unquiet (s : State) : Bool :=
  (s.tamper.inputs.toList.any fun t => t.eraseClass && t.showsActive) || s.belowThreshold

/-- The causes are cleared; the event count is kept (R147). -/
def Tamper.acknowledge (t : Tamper) : Tamper := { t with causes := 0, first := none }

/-- The fields of the OK reply to TAMPER_ACK: the causes that were cleared, and the event count (R147). -/
def Tamper.ackFields (t : Tamper) : List Byte := [causesByte t.causes, firstByte t.first, u8 t.events]

/-- TAMPER_ACK (R147). -/
def execTamperAck (s : State) : Res :=
  s.takeCustody kindTamperAck fun body s =>
    s.readCustody kindTamperAck (readNothing body) fun _ s =>
      s.gated kindTamperAck .tamperAck fun s =>
        if s.mode = .locked then
          if s.unquiet then .next (s.custodyRefuse kindTamperAck .quietRequired)
          else
            .next ({ s with tamper := s.tamper.acknowledge, mode := .uninitialised }.custodyOk kindTamperAck .none
              s.tamper.ackFields)
        else
          .next ({ s with tamper := s.tamper.acknowledge }.custodyOk kindTamperAck .none s.tamper.ackFields)

/-! ### TAMPER_INPUT_EDGE (R134, R135, R137) -/

/-- The number of differing samples that confirm an edge; a DIRECT input follows at once (R134). -/
def Filter.limit : Filter → Nat
  | .direct => 1
  | .samples3 => 3
  | .samples8 => 8

/-- One sample of an input, or one raw change of a DIRECT one, and whether it confirms an edge (R134). -/
def TamperInput.sample (t : TamperInput) (v : Level) : TamperInput × Bool :=
  if v = t.filtered then ({ t with count := 0 }, false)
  else if t.count + 1 < t.filter.limit then ({ t with count := t.count + 1 }, false)
  else ({ t with filtered := v, count := 0 }, true)

/-- One sample, with the event of an admitted edge (R134, R135). The sample clock is left out
(notes/assumptions/10.md). -/
def State.sampleInput (s : State) (i : InputId) (v : Level) : State :=
  match s.tamper.inputs[i].sample v with
  | (t, edge) =>
    let s := { s with tamper := { s.tamper with inputs := s.tamper.inputs.set i t } }
    if edge && t.admits v then s.tamperEvent (.input i) t.response else s

/-- TAMPER_INPUT_EDGE: the filter takes the raw levels, in order, with the main supply or on battery (R134, R137). -/
def execTamperInputEdge (input : InputId) (samples : List Level) (s : State) : Res :=
  if s.watching then .next (samples.foldl (fun s v => s.sampleInput input v) s) else .next s

/-! ### ERASE_COMPLETE (R142) -/

/-- ERASE_COMPLETE: the third overwrite pass ends, with all its writes made, and the records are those of an erased part
(R142). -/
def execEraseComplete (s : State) : Res :=
  if s.mode = .erasing then
    .next
      { s with
        slots := Vector.ofFn Slot.blank
        storage := { current := none, previous := none }
        tamper := { s.tamper with erasePending := false }
        passes := Passes.none
        draws := s.draws + drawsLeft s.passes.written
        mode := .locked }
  else .next s

/-! ### The supply monitor (R136) -/

/-- The main supply is present: the logic runs on it, or it stands above the stop level while RESET is held (R150,
R157). -/
def State.supplied (s : State) : Bool := s.mode.running || stopLevel < s.vmain

/-- The supply monitor works: the logic runs, on settings that can be trusted (R136, R137, notes/assumptions/19.md). -/
def State.monitoring (s : State) : Bool := s.mode.running && s.watching

/-- SUPPLY_ABOVE_THRESHOLD: the monitor is armed and a timer in progress stopped (R136). -/
def execSupplyAboveThreshold (mv : Nat) (s : State) : Res :=
  if s.supplied && thresholdMv s.tamper.threshold < mv then
    if s.monitoring then .next { s with vmain := mv, tamper := { s.tamper with armed := true, timer := false } }
    else .next { s with vmain := mv }
  else .next s

/-- SUPPLY_BELOW_THRESHOLD: with the monitor armed the timer starts; one in progress goes on (R136). -/
def execSupplyBelowThreshold (mv : Nat) (s : State) : Res :=
  if s.supplied && stopLevel ≤ mv && mv < thresholdMv s.tamper.threshold then
    if s.monitoring then
      .next { s with vmain := mv, tamper := { s.tamper with timer := s.tamper.timer || s.tamper.armed } }
    else .next { s with vmain := mv }
  else .next s

/-- SUPPLY_TIMER_EXPIRY: the monitor is disarmed and a SUPPLY event is raised (R136). -/
def execSupplyTimerExpiry (s : State) : Res :=
  if s.monitoring && s.tamper.timer then
    .next ({ s with tamper := { s.tamper with armed := false, timer := false } }.tamperEvent .supply
      s.tamper.supplyResponse)
  else .next s

end Sys2Proof.Machine
end

