-- ==== Sys2Proof/Machine/Startup.lean ====
section
/-! DEFINITION. Stopping and starting: MAIN_SUPPLY_LOSS, RESET, the entry to STARTING, the validity check, the battery-loss
clearing, the sweep, and the faults of the battery and its memory (R13, R150 to R158). -/

namespace Sys2Proof.Machine

/-! ### The sweep (R154) -/

/-- The slot is ACTIVE. -/
def Slot.isActive (sl : Slot) : Bool :=
  match sl.body with
  | .active _ _ => true
  | .empty => false
  | .assembling _ => false
  | .faulty _ _ => false

/-- Step 1 on one slot: ASSEMBLING becomes EMPTY (R18). -/
def Slot.sweepAssembly (sl : Slot) (i : SlotId) : Slot :=
  match sl.body with
  | .assembling _ => Slot.blank i
  | .empty => sl
  | .active _ _ => sl
  | .faulty _ _ => sl

/-- Step 2 on one slot: an ACTIVE one whose word fails becomes FAULTY, with a new word and its fields as found (R13). -/
def Slot.checkIntegrity (sl : Slot) (i : SlotId) : Slot :=
  match sl.body with
  | .active a c =>
    if sl.integrity = Config.integrityCode i sl.body then sl
    else { sl with body := .faulty a c, integrity := Config.integrityCode i (.faulty a c) }
  | .empty => sl
  | .assembling _ => sl
  | .faulty _ _ => sl

def State.sweepAssemblies (s : State) : State :=
  { s with slots := Vector.ofFn fun i => s.slots[i].sweepAssembly i }

def State.sweepIntegrity (s : State) : State :=
  { s with slots := Vector.ofFn fun i => s.slots[i].checkIntegrity i }

/-- Step 3: a live warrant whose master slot is not ACTIVE is closed with SLOT_FAULT (R74). -/
def State.sweepWarrants (s : State) : State :=
  { s with warrants := s.warrants.map fun w => if s.slots[w.master].isActive then w else w.closeLive .slotFault }

/-- Step 4 on one lane: a BOUND one whose slot is not ACTIVE becomes UNBOUND (R116). -/
def State.sweepLane (s : State) (x : Lane) : Lane :=
  match x.transport with
  | none => x
  | some i => if s.slots[i].isActive then x else { x with transport := none }

def State.sweepLanes (s : State) : State := { s with lanes := Vector.ofFn fun l => s.sweepLane s.lanes[l] }

/-- Step 5 on one slot: the reference count R10 gives; a changed one is a write with a new integrity word (R10, R12;
notes/assumptions/26.md). -/
def State.sweepReference (s : State) (i : SlotId) : Slot :=
  if s.slots[i].refs = s.countRefs i then s.slots[i]
  else { s.slots[i] with refs := s.countRefs i, integrity := Config.integrityCode i s.slots[i].body }

def State.sweepReferences (s : State) : State := { s with slots := Vector.ofFn s.sweepReference }

/-- Step 6 on one lane: the chain of a BOUND lane is reset (R116). -/
def Lane.resetChain (x : Lane) : Lane :=
  match x.transport with
  | none => x
  | some _ => { x with chain := x.initial, position := 0, epoch := x.epoch + 1 }

def State.resetChains (s : State) : State := { s with lanes := Vector.ofFn fun l => s.lanes[l].resetChain }

/-- The steps of the sweep, in order (R154). -/
def sweepSteps : List (State → State) :=
  [State.sweepAssemblies, State.sweepIntegrity, State.sweepWarrants, State.sweepLanes, State.sweepReferences,
    State.resetChains]

/-- The first `n` of them, each on the result of those before it. -/
def State.sweepFirst (s : State) (n : Nat) : State := (sweepSteps.take n).foldl (fun s f => f s) s

/-- The whole sweep. -/
def State.sweep (s : State) : State := s.sweepFirst 6

/-- Between `s` and `t`, what a step makes of it, with the records of a set written: slots and lanes by number, warrants by
id. -/
def State.partly (s t : State) (records : BitVec 256) : State :=
  { s with
    slots := Vector.ofFn fun i => if records.getLsbD i.val then t.slots[i] else s.slots[i]
    warrants := List.zipWith (fun w v => if records.getLsbD w.id then v else w) s.warrants t.warrants
    lanes := Vector.ofFn fun l => if records.getLsbD l.val then t.lanes[l] else s.lanes[l] }

/-- What a sweep that was cut off had done: whole steps, and the next one on some of its records, each record being written
as a whole (R12, R154); only a sweep in progress can be cut. -/
def State.cutSweep (s : State) (cut : SweepCut) : State :=
  if s.mode = .starting .sweep then (s.sweepFirst cut.steps).partly (s.sweepFirst (cut.steps + 1)) cut.records
  else s

/-! ### Volatile state (R150, R158) -/

/-- A lane with its volatile fields as at the entry to STARTING (R116, R150). -/
def Lane.start (x : Lane) : Lane := { x with run := none, last := none, link := LinkState.start }

/-- The volatile state as R150 gives it, with passes in progress broken off; the battery domain is kept, and what they
overwrote in it stays overwritten (R143). -/
def State.volatileStart (s : State) : State :=
  { s with
    engine := .idle, requesters := 0, highPointer := 3, lowPointer := 3
    lanes := Vector.ofFn fun l => s.lanes[l].start
    custody := Custody.start
    slots := Vector.ofFn fun i => { s.slots[i] with assembly := none }
    tamper := { s.tamper with armed := false, timer := false }
    passes := { written := 0, units := s.passes.units.set 49 none } }

/-- The logic stops: a sweep in progress is cut off, and the volatile state is lost (R158). -/
def State.stopLogic (s : State) (cut : SweepCut) : State :=
  { (s.cutSweep cut).volatileStart with mode := .stopped }

/-- STARTING is entered (R150). -/
def State.enterStarting (s : State) : State := { s.volatileStart with mode := .starting .check }

/-! ### Supply and RESET -/

/-- Without main supply and without a sound battery the battery domain is lost (R151, R158): the marker no
longer holds its fixed word, and the records keep their values until the clearing (notes/assumptions/13.md). -/
def State.keepDomain (s : State) : State :=
  if stopLevel ≤ s.vmain || s.battery then s else { s with marker := lostMarker }

/-- MAIN_SUPPLY_LOSS (R158). -/
def execMainSupplyLoss (mv : Nat) (cut : SweepCut) (s : State) : Res :=
  if stopLevel ≤ s.vmain && mv < stopLevel && cut.ok then
    let t := if s.mode.running then s.stopLogic cut else s
    .next { t with vmain := mv }.keepDomain
  else .next s

/-- RESET_ASSERT (R157). -/
def execResetAssert (cut : SweepCut) (s : State) : Res :=
  if !s.resetHeld && cut.ok then
    let t := if s.mode.running then s.stopLogic cut else s
    .next { t with resetHeld := true }
  else .next s

/-- MAIN_SUPPLY_RISE: above the stop level, STARTING is entered unless RESET is held (R150). -/
def execMainSupplyRise (mv : Nat) (s : State) : Res :=
  if s.mode = .stopped ∧ s.vmain ≤ stopLevel ∧ stopLevel < mv then
    let t := { s with vmain := mv }
    .next (if s.resetHeld then t else t.enterStarting)
  else .next s

/-- RESET_RELEASE: with the main supply above the stop level STARTING is entered (R150, R157). -/
def execResetRelease (s : State) : Res :=
  if s.resetHeld then
    let t := { s with resetHeld := false }
    .next (if stopLevel < s.vmain then t.enterStarting else t)
  else .next s

/-! ### STARTING -/

/-- VALIDITY_CHECK: the marker is read; steps 1 and 2 of a clearing take effect here (R151, R153,
notes/assumptions/19.md). -/
def execValidityCheck (raw : BitVec 6) (s : State) : Res :=
  if s.mode = .starting .check then
    if !s.markerValid then .next { s with mode := .starting .clearing, tamper := Tamper.default (levelOf raw) }
    else if s.tamper.erasePending then .next s.eraseBegin
    else .next { s with mode := .starting .sweep }
  else .next s

/-- A lane context after battery loss; the frames its link has received since STARTING was entered stay (R117, R150,
notes/assumptions/25.md). -/
def Lane.clearBinding (x : Lane) : Lane := { Lane.cleared with link := x.link }

/-- Steps 3 to 9 of the clearing (R151). -/
def State.clearDomain (s : State) : State :=
  { s with
    slots := Vector.ofFn Slot.blank
    storage := { current := none, previous := none }
    warrants := []
    lanes := Vector.ofFn fun l => s.lanes[l].clearBinding
    quantum := 12
    batteryLossFlag := true
    marker := Config.marker
    passes := Passes.none }

/-- BATTERY_LOSS_CLEARING_END (R151, R155). -/
def execBatteryLossClearingEnd (s : State) : Res :=
  if s.mode = .starting .clearing then
    if s.tamper.erasePending then .next s.clearDomain.eraseBegin
    else .next { s.clearDomain with mode := .uninitialised }
  else .next s

/-- The device state after a sweep (R155). -/
def State.afterSweep (s : State) : State :=
  if s.tamper.erasePending then s.eraseBegin
  else if s.storage.current.isSome then { s with mode := .operational }
  else if s.tamper.causes = 0 then { s with mode := .uninitialised }
  else { s with mode := .locked }

/-- SWEEP_END (R154, R155). -/
def execSweepEnd (s : State) : Res :=
  if s.mode = .starting .sweep then .next s.sweep.afterSweep else .next s

/-! ### Failures -/

/-- BACKUP_BATTERY_FAILURE: with the main supply absent the battery domain is lost; with it present nothing is until the
supply also goes (R158). -/
def execBackupBatteryFailure (refitted : Bool) (s : State) : Res :=
  .next { { s with battery := false }.keepDomain with battery := refitted }

/-- BATTERY_BACKED_MEMORY_FAULT: a record changes other than by a table write, to any that fits its fields; the volatile
assembly part is not in that memory (R13, notes/assumptions/14.md). -/
def execBatteryBackedMemoryFault (slot : SlotId) (body : SlotBody) (refs : Nat) (integrity : BitVec 32) (s : State) :
    Res :=
  if body.fieldsOk && refsOk refs then
    .next
      { s with
        slots := s.slots.set slot ⟨body, refs, integrity, s.slots[slot].assembly⟩
        passes := { s.passes with units := s.passes.units.set slot.val none } }
  else .next s

end Sys2Proof.Machine
end

