-- ==== Sys2Proof/Machine/Storage.lean ====
section
/-! DEFINITION. Storage keys and key tokens: INITIALISE, STORAGE_ROLL, TOKEN_EXPORT, TOKEN_IMPORT and the ends of their
block operations (R37 to R52). -/

namespace Sys2Proof.Machine

/-- The largest storage generation (R37, R39). -/
def maxGeneration : Nat := 65535

/-- The generation a report gives; 0 where absent (R171). -/
def generationOf : Option StorageKey → Nat
  | none => 0
  | some k => k.generation

/-- The Random Source draws a storage key when a request is taken (R40); which one is free, and no draw repeats a place
in the sequence (notes/assumptions/6.md). -/
def State.draw (s : State) : BitVec 256 × State := (Config.drawnKey s.draws, { s with draws := s.draws + 1 })

/-- The key a draw and the pattern operation make (R38, R41, R42). -/
def storageKey (drawn : BitVec 256) (generation : Nat) (result : Block) : StorageKey :=
  { key := drawn, generation := generation, pattern := firstEight result }

/-! ### INITIALISE -/

/-- INITIALISE (R41). -/
def execInitialise (s : State) : Res :=
  s.takeCustody kindInitialise fun body s =>
    s.readCustody kindInitialise (readNothing body) fun _ s =>
      s.gated kindInitialise .initialise fun s =>
        let (key, s) := s.draw
        .next (s.startProcess (.initialise key))

/-- INITIALISE_PATTERN_END: the record is written and the device becomes OPERATIONAL (R41). -/
def execInitialisePatternEnd (s : State) : Res :=
  match s.engine, s.custody.process with
  | .custody g, some (.initialise drawn) =>
    match g.op with
    | none => .fault .keyWithheld
    | some op =>
      let k := storageKey drawn 1 op.result
      .next ({ s with storage := ⟨some k, none⟩, mode := .operational }.endProcess
        (.ok kindInitialise .none (be 2 k.generation ++ patternBytes k.pattern)))
  | _, _ => .next s

/-! ### STORAGE_ROLL -/

/-- STORAGE_ROLL (R42). -/
def execStorageRoll (s : State) : Res :=
  s.takeCustody kindStorageRoll fun body s =>
    s.readCustody kindStorageRoll (readNothing body) fun _ s =>
      s.gated kindStorageRoll .keyChange fun s =>
        match s.storage.current with
        | none => .fault .noStorageKey
        | some k =>
          if maxGeneration ≤ k.generation then .next (s.custodyRefuse kindStorageRoll .generationLimit)
          else
            let (key, s) := s.draw
            .next (s.startProcess (.storageRoll key))

/-- STORAGE_ROLL_PATTERN_END: the current key becomes the previous one, and the drawn key the current one (R42). -/
def execStorageRollPatternEnd (s : State) : Res :=
  match s.engine, s.custody.process with
  | .custody g, some (.storageRoll drawn) =>
    match g.op, s.storage.current with
    | none, _ => .fault .keyWithheld
    | some _, none => .fault .noStorageKey
    | some op, some old =>
      let k := storageKey drawn (old.generation + 1) op.result
      .next ({ s with storage := ⟨some k, some old⟩ }.endProcess
        (.ok kindStorageRoll .none (be 2 k.generation ++ patternBytes k.pattern ++ be 2 old.generation)))
  | _, _ => .next s

/-! ### TOKEN_EXPORT -/

/-- Attributes and check value of an ACTIVE slot (R46). -/
def Slot.exportable (sl : Slot) : Option (Attributes × CheckValue) :=
  match sl.body with
  | .active a c => some (a, c.check)
  | .empty => none
  | .assembling _ => none
  | .faulty _ _ => none

/-- TOKEN_EXPORT: forms the header and waits for the engine (R46). The slot cannot change while the export is in process
(R46), but for a memory fault: the attributes in the header and the check value are those found here, whatever such a fault
leaves later, and each key block is read when its operation begins (State.custodyOp). That is the model's choice:
notes/assumptions/33.md. -/
def execTokenExport (s : State) : Res :=
  s.takeCustody kindTokenExport fun body s =>
    s.readCustody kindTokenExport (readByte body) fun slot s =>
      s.gatedSlot kindTokenExport .tokenExport slot fun i s =>
        match s.slots[i].exportable, s.storage.current with
        | none, _ => .next (s.custodyRefuse kindTokenExport .slotState)
        | some _, none => .fault .noStorageKey
        | some (a, check), some k =>
          .next (s.startProcess (.tokenExport i a (tokenHeader a k.generation k.pattern) check none))

/-- The OK reply that carries a token (R46). -/
def exportReply (i : SlotId) (header w1 : Block) (w2 : Option Block) (check : CheckValue) : Reply :=
  .ok kindTokenExport .none (u8 i.val :: tokenBytes header w1 w2 check)

/-- TOKEN_EXPORT_OPERATION_END: W1 or W2 is formed; with the last of them the token is answered (R45, R46). -/
def execTokenExportOperationEnd (s : State) : Res :=
  match s.engine, s.custody.process with
  | .custody g, some (.tokenExport i a header check w1) =>
    match g.op with
    | none => .fault .keyWithheld
    | some op =>
      match w1, a.length with
      | none, .len16 => .next (s.endProcess (exportReply i header op.result none check))
      | none, .len32 => .next (s.nextOp g (.tokenExport i a header check (some op.result)))
      | some w, _ => .next (s.endProcess (exportReply i header w (some op.result) check))
  | _, _ => .next s

/-! ### TOKEN_IMPORT -/

/-- The stored key a token's pattern names: the current one first, then the previous one if present; `true` for the
previous key (R48). -/
def StorageUnit.matching (u : StorageUnit) (p : Pattern) : Option (Bool × StorageKey) :=
  match u.current, u.previous with
  | some c, some v => if c.pattern = p then some (false, c) else if v.pattern = p then some (true, v) else none
  | some c, none => if c.pattern = p then some (false, c) else none
  | none, some v => if v.pattern = p then some (true, v) else none
  | none, none => none

/-- TOKEN_IMPORT: the checks that cost nothing, and the pattern match (R47, R48, R49). -/
def execTokenImport (s : State) : Res :=
  s.takeCustody kindTokenImport fun body s =>
    s.readCustody kindTokenImport (readImport body) fun f s =>
      s.gatedSlot kindTokenImport .keyChange f.1 fun i s =>
        if s.slots[i].body ≠ .empty then .next (s.custodyRefuse kindTokenImport .slotState)
        else
          match readToken f.2 with
          | none => .next (s.custodyRefuse kindTokenImport .malformed)
          | some token =>
            match s.storage.matching token.pattern with
            | none =>
              .next (s.reply .custody (.refused kindTokenImport .staleToken
                (be 2 token.generation ++ be 2 (generationOf s.storage.current))))
            | some (fromPrevious, k) =>
              .next (s.startProcess (.tokenImport i token fromPrevious k.generation none none))

/-- The reply to an import that succeeded: OK, with OLD_GENERATION and both generations if the previous key unwrapped
(R50). -/
def importReply (i : SlotId) (token : Token) (fromPrevious : Bool) (generation current : Nat) : Reply :=
  let fields := [u8 i.val, token.attrs.kind.byte] ++ checkBytes token.check
  if fromPrevious then .ok kindTokenImport .oldGeneration (fields ++ be 2 generation ++ be 2 current)
  else .ok kindTokenImport .none fields

/-- The outcome of an import whose key is recovered and checked (R50). The slot stays EMPTY while the import is in process
(R50), but for a memory fault; the outcome does not look at what such a fault left: a match overwrites it, TOKEN_CORRUPT
leaves it as found. That is the model's choice: notes/assumptions/34.md. -/
def State.endImport (s : State) (i : SlotId) (token : Token) (fromPrevious : Bool) (generation : Nat) (key : KeyValue)
    (computed : CheckValue) : State :=
  if computed = token.check then
    (s.writeSlot i (.active token.attrs ⟨key, token.check, .imported, 0⟩) 0 none).endProcess
      (importReply i token fromPrevious generation (generationOf s.storage.current))
  else s.endProcess (.refused kindTokenImport .tokenCorrupt (be 2 generation))

/-- TOKEN_IMPORT_OPERATION_END: K1 or K2 is recovered, or the check value is computed and the outcome written (R45, R49,
R50). -/
def execTokenImportOperationEnd (s : State) : Res :=
  match s.engine, s.custody.process with
  | .custody g, some (.tokenImport i token fromPrevious generation k1 k2) =>
    match g.op with
    | none => .fault .keyWithheld
    | some op =>
      match k1, token.w2, k2 with
      | none, _, _ =>
        .next (s.nextOp g (.tokenImport i token fromPrevious generation (some (op.result ^^^ token.header)) none))
      | some a, some _, none =>
        .next (s.nextOp g (.tokenImport i token fromPrevious generation (some a) (some (op.result ^^^ token.w1))))
      | some a, some _, some b =>
        .next (s.endImport i token fromPrevious generation (.k32 (a ++ b)) (firstThree op.result))
      | some a, none, _ => .next (s.endImport i token fromPrevious generation (.k16 a) (firstThree op.result))
  | _, _ => .next s

end Sys2Proof.Machine
end

