-- ==== Sys2Proof/Machine/Warrants.lean ====
section
/-! DEFINITION. The warrant commands (R59 to R68). -/

namespace Sys2Proof.Machine

/-- The checks that every command naming a warrant makes first: device state, id, presence (R59). -/
def State.withWarrant (s : State) (kind : Byte) (id : Byte) (act : Warrant → State → Res) : Res :=
  s.served kind fun s =>
    if !warrantIdOk id.toNat then .next (s.custodyRefuse kind .parameter)
    else
      match s.warrant id.toNat with
      | none => .next (s.custodyRefuse kind .noSuchWarrant)
      | some w => act w s

/-! ### WARRANT_OPEN -/

/-- The table's room (R56). -/
def maxWarrants : Nat := 32

/-- A prefix of 4 to 10 digits, each 0 to 9, or none (R55, R60). -/
def prefixFormOk (digits : List Byte) : Bool :=
  digits.isEmpty || (4 ≤ digits.length && digits.length ≤ 10 && digits.all fun d => d.toNat ≤ 9)

/-- The record of a WARRANT_OPEN whose form is in range (R60 check 1, R61); its serial is given when it is added. -/
def WarrantForm.record (f : WarrantForm) (serial : Nat) : Option Warrant :=
  match readSlot f.master with
  | none => none
  | some master =>
    if warrantIdOk f.id.toNat && issuerOk f.issuer.toNat && 1 ≤ f.total && f.total ≤ maxTotal && prefixFormOk f.digits
        && f.lanes != 0 && f.lanes.toNat < 16 then
      some
        { serial := serial, id := f.id.toNat, issuer := f.issuer.toNat, master := master, total := f.total
          delivered := 0, digits := if f.digits.isEmpty then none else some f.digits
          lanes := f.lanes.setWidth 4, state := .opened }
    else none

/-- The lookup of a master slot for an issuer (R11, R60 checks 4 to 6). -/
def Slot.masterRefusal (sl : Slot) (issuer : Nat) : Option Code :=
  match sl.body with
  | .active a _ =>
    match a.kind with
    | .transport => some .slotKind
    | .derivation _ i => if i = issuer then none else some .issuerMismatch
  | .empty => some .slotState
  | .assembling _ => some .slotState
  | .faulty _ _ => some .slotState

/-- The checks of R60 after the form, in their order. -/
def State.openRefusal (s : State) (w : Warrant) : Option Code :=
  if (s.warrant w.id).isSome then some .idInUse
  else if maxWarrants ≤ s.warrants.length then some .tableFull
  else s.slots[w.master].masterRefusal w.issuer

/-- A record joins the table, and its master slot is counted once more (R61, R10). -/
def State.addWarrant (s : State) (w : Warrant) : State :=
  { s with warrants := insertWarrant w s.warrants, nextSerial := s.nextSerial + 1 }.raiseRefs w.master

/-- WARRANT_OPEN (R60, R61). -/
def execWarrantOpen (s : State) : Res :=
  s.takeCustody kindWarrantOpen fun body s =>
    s.readCustody kindWarrantOpen (readWarrantOpen body) fun f s =>
      s.served kindWarrantOpen fun s =>
        match f.record s.nextSerial with
        | none => .next (s.custodyRefuse kindWarrantOpen .parameter)
        | some w =>
          match s.openRefusal w with
          | some code => .next (s.custodyRefuse kindWarrantOpen code)
          | none =>
            let s := s.addWarrant w
            .next (s.custodyOk kindWarrantOpen .none ([u8 w.id] ++ be 4 w.total ++ [u8 s.warrants.length]))

/-! ### WARRANT_HOLD, WARRANT_RELEASE, WARRANT_EXTEND -/

/-- The fields of the OK replies to WARRANT_HOLD and WARRANT_RELEASE (R62, R63). -/
def Warrant.holdFields (w : Warrant) : List Byte :=
  [u8 w.id, w.state.byte] ++ be 4 w.total ++ be 4 w.delivered

/-- WARRANT_HOLD: OPEN to HELD (R62). -/
def execWarrantHold (s : State) : Res :=
  s.takeCustody kindWarrantHold fun body s =>
    s.readCustody kindWarrantHold (readByte body) fun id s =>
      s.withWarrant kindWarrantHold id fun w s =>
        if w.state ≠ .opened then .next (s.custodyRefuse kindWarrantHold .warrantState)
        else
          .next ((s.setWarrant w.id fun x => { x with state := .held }).custodyOk kindWarrantHold .none
            { w with state := .held }.holdFields)

/-- WARRANT_RELEASE: HELD to OPEN (R63). -/
def execWarrantRelease (s : State) : Res :=
  s.takeCustody kindWarrantRelease fun body s =>
    s.readCustody kindWarrantRelease (readByte body) fun id s =>
      s.withWarrant kindWarrantRelease id fun w s =>
        if w.state ≠ .held then .next (s.custodyRefuse kindWarrantRelease .warrantState)
        else
          .next ((s.setWarrant w.id fun x => { x with state := .opened }).custodyOk kindWarrantRelease .none
            { w with state := .opened }.holdFields)

/-- The total after an extend, at most 1,000,000 (R64). -/
def extendedTotal (total add : Nat) : Nat := min (total + add) maxTotal

/-- A record after an extend: an EXHAUSTED one with cards again becomes OPEN (R64). -/
def Warrant.extend (w : Warrant) (add : Nat) : Warrant :=
  let total := extendedTotal w.total add
  { w with
    total := total
    state := match w.state with
      | .exhausted => if w.delivered < total then .opened else .exhausted
      | .opened => .opened
      | .held => .held
      | .closed c => .closed c }

/-- The fields of the OK reply to WARRANT_EXTEND (R64). -/
def Warrant.extendFields (w : Warrant) : List Byte :=
  [u8 w.id, w.state.byte] ++ be 4 w.total ++ be 4 w.remaining

/-- WARRANT_EXTEND (R64). -/
def execWarrantExtend (s : State) : Res :=
  s.takeCustody kindWarrantExtend fun body s =>
    s.readCustody kindWarrantExtend (readWarrantExtend body) fun f s =>
      s.withWarrant kindWarrantExtend f.1 fun w s =>
        if f.2 < 1 ∨ maxTotal < f.2 then .next (s.custodyRefuse kindWarrantExtend .parameter)
        else if !w.live then .next (s.custodyRefuse kindWarrantExtend .warrantState)
        else
          .next ((s.setWarrant w.id fun x => x.extend f.2).custodyOk kindWarrantExtend
            (if maxTotal < w.total + f.2 then .clamped else .none) (w.extend f.2).extendFields)

/-! ### WARRANT_CLOSE, WARRANT_PURGE -/

/-- The fields of the OK reply to WARRANT_CLOSE (R65). -/
def Warrant.closeFields (w : Warrant) : List Byte :=
  [u8 w.id] ++ be 4 w.total ++ be 4 w.delivered ++ be 4 w.remaining

/-- WARRANT_CLOSE: the job ends and its master slot is counted once less (R65, R10). -/
def execWarrantClose (s : State) : Res :=
  s.takeCustody kindWarrantClose fun body s =>
    s.readCustody kindWarrantClose (readByte body) fun id s =>
      s.withWarrant kindWarrantClose id fun w s =>
        if !w.live then .next (s.custodyRefuse kindWarrantClose .warrantState)
        else
          .next (((s.setWarrant w.id fun x => { x with state := .closed .byCommand }).lowerRefs w.master).custodyOk
            kindWarrantClose .none w.closeFields)

/-- The record that carries an id leaves the table (R66). -/
def State.removeWarrant (s : State) (id : Nat) : State :=
  { s with warrants := s.warrants.filter fun w => w.id != id }

/-- WARRANT_PURGE: a CLOSED record leaves the table (R66). -/
def execWarrantPurge (s : State) : Res :=
  s.takeCustody kindWarrantPurge fun body s =>
    s.readCustody kindWarrantPurge (readByte body) fun id s =>
      s.withWarrant kindWarrantPurge id fun w s =>
        if w.live then .next (s.custodyRefuse kindWarrantPurge .warrantState)
        else
          .next ((s.removeWarrant w.id).custodyOk kindWarrantPurge .none
            ([u8 w.id, w.state.reasonByte] ++ be 4 w.delivered))

/-! ### WARRANT_STATUS, WARRANT_LIST -/

/-- The fields of the custody form of WARRANT_STATUS (R67). -/
def Warrant.report (w : Warrant) : List Byte :=
  [u8 w.id, w.state.byte, u8 w.issuer, u8 w.master.val, w.lanes.setWidth 8] ++ prefixBytes w.digits ++ be 4 w.total
    ++ be 4 w.delivered ++ be 4 w.remaining ++ [w.state.reasonByte]

/-- WARRANT_STATUS, in its custody form or its lane form (R67). -/
def execWarrantStatus (link : Link) (s : State) : Res :=
  match link with
  | .custody =>
    s.takeCustody kindWarrantStatus fun body s =>
      s.readCustody kindWarrantStatus (readByte body) fun id s =>
        s.withWarrant kindWarrantStatus id fun w s => .next (s.custodyOk kindWarrantStatus .none w.report)
  | .lane l => s.takeLane l fun k => k == kindWarrantStatus

/-- The fields WARRANT_LIST gives for each record (R68). -/
def Warrant.line (w : Warrant) : List Byte :=
  [u8 w.id, w.state.byte, u8 w.issuer, u8 w.master.val] ++ be 4 w.total ++ be 4 w.delivered ++ [w.state.reasonByte]

/-- WARRANT_LIST: the whole table in ascending id order, which is the order it is kept in (R56, R68). -/
def execWarrantList (s : State) : Res :=
  s.takeCustody kindWarrantList fun body s =>
    s.readCustody kindWarrantList (readNothing body) fun _ s =>
      s.served kindWarrantList fun s =>
        .next (s.custodyOk kindWarrantList .none (u8 s.warrants.length :: s.warrants.flatMap Warrant.line))

end Sys2Proof.Machine
end

