-- ==== Sys2Proof/Machine/Dispatch.lean ====
section
/-! DEFINITION. Which meaning each command has: one arm per row of spec/opcode_table.json. -/

namespace Sys2Proof.Machine

open Sys2Proof

def exec (i : Instr) (s : State) : Host.Outcome State Fault Refusal :=
  match i with
  | .requestTransfer link received => Sys2Proof.Machine.execRequestTransfer link received s
  | .collectBegin link => Sys2Proof.Machine.execCollectBegin link s
  | .collectEnd link clocked cut => Sys2Proof.Machine.execCollectEnd link clocked cut s
  | .unknownRequest link => Sys2Proof.Machine.execUnknownRequest link s
  | .slotStatus => Sys2Proof.Machine.execSlotStatus s
  | .slotErase => Sys2Proof.Machine.execSlotErase s
  | .assemble => Sys2Proof.Machine.execAssemble s
  | .component => Sys2Proof.Machine.execComponent s
  | .componentCheckEnd => Sys2Proof.Machine.execComponentCheckEnd s
  | .finalCheckEnd => Sys2Proof.Machine.execFinalCheckEnd s
  | .assemblyCancel => Sys2Proof.Machine.execAssemblyCancel s
  | .custodySwitchChange samples => Sys2Proof.Machine.execCustodySwitchChange samples s
  | .initialise => Sys2Proof.Machine.execInitialise s
  | .initialisePatternEnd => Sys2Proof.Machine.execInitialisePatternEnd s
  | .storageRoll => Sys2Proof.Machine.execStorageRoll s
  | .storageRollPatternEnd => Sys2Proof.Machine.execStorageRollPatternEnd s
  | .tokenExport => Sys2Proof.Machine.execTokenExport s
  | .tokenExportOperationEnd => Sys2Proof.Machine.execTokenExportOperationEnd s
  | .tokenImport => Sys2Proof.Machine.execTokenImport s
  | .tokenImportOperationEnd => Sys2Proof.Machine.execTokenImportOperationEnd s
  | .warrantOpen => Sys2Proof.Machine.execWarrantOpen s
  | .warrantHold => Sys2Proof.Machine.execWarrantHold s
  | .warrantRelease => Sys2Proof.Machine.execWarrantRelease s
  | .warrantExtend => Sys2Proof.Machine.execWarrantExtend s
  | .warrantClose => Sys2Proof.Machine.execWarrantClose s
  | .warrantPurge => Sys2Proof.Machine.execWarrantPurge s
  | .warrantStatus link => Sys2Proof.Machine.execWarrantStatus link s
  | .warrantList => Sys2Proof.Machine.execWarrantList s
  | .laneBind => Sys2Proof.Machine.execLaneBind s
  | .laneUnbind => Sys2Proof.Machine.execLaneUnbind s
  | .setQuantum => Sys2Proof.Machine.execSetQuantum s
  | .tamperSetup raw => Sys2Proof.Machine.execTamperSetup raw s
  | .tamperAck => Sys2Proof.Machine.execTamperAck s
  | .deviceStatus => Sys2Proof.Machine.execDeviceStatus s
  | .linkClear => Sys2Proof.Machine.execLinkClear s
  | .run lane => Sys2Proof.Machine.execRun lane s
  | .laneStatus lane => Sys2Proof.Machine.execLaneStatus lane s
  | .runStop stop => Sys2Proof.Machine.execRunStop stop s
  | .laneClear lane => Sys2Proof.Machine.execLaneClear lane s
  | .grant => Sys2Proof.Machine.execGrant s
  | .cardKeyDerivationEnd => Sys2Proof.Machine.execCardKeyDerivationEnd s
  | .cardCheckValueEnd => Sys2Proof.Machine.execCardCheckValueEnd s
  | .keystreamBlockEnd => Sys2Proof.Machine.execKeystreamBlockEnd s
  | .tamperInputEdge input samples => Sys2Proof.Machine.execTamperInputEdge input samples s
  | .eraseComplete => Sys2Proof.Machine.execEraseComplete s
  | .supplyAboveThreshold mv => Sys2Proof.Machine.execSupplyAboveThreshold mv s
  | .supplyBelowThreshold mv => Sys2Proof.Machine.execSupplyBelowThreshold mv s
  | .supplyTimerExpiry => Sys2Proof.Machine.execSupplyTimerExpiry s
  | .mainSupplyLoss mv cut => Sys2Proof.Machine.execMainSupplyLoss mv cut s
  | .resetAssert cut => Sys2Proof.Machine.execResetAssert cut s
  | .mainSupplyRise mv => Sys2Proof.Machine.execMainSupplyRise mv s
  | .resetRelease => Sys2Proof.Machine.execResetRelease s
  | .validityCheck raw => Sys2Proof.Machine.execValidityCheck raw s
  | .batteryLossClearingEnd => Sys2Proof.Machine.execBatteryLossClearingEnd s
  | .sweepEnd => Sys2Proof.Machine.execSweepEnd s
  | .backupBatteryFailure refitted => Sys2Proof.Machine.execBackupBatteryFailure refitted s
  | .batteryBackedMemoryFault slot body refs integrity => Sys2Proof.Machine.execBatteryBackedMemoryFault slot body refs integrity s

end Sys2Proof.Machine
end

