-- ==== Sys2Proof/Safety.lean ====
section
/-! DEFINITION. What a safe run of the part keeps: the laws the manual states over all its records at once, as predicates
on a state, and the terms the statements are written in. A law is for states; that every command keeps it is a statement
(Certificates/Slice0/Obligations.lean). -/

namespace Sys2Proof.Machine

/-! ### Slots, warrants and lanes (R10, R58, R96) -/

/-- The slot that the outcome of the custody command in process is written to as a new ACTIVE record. -/
def Process.target : Process → Option SlotId
  | .finalCheck i => some i
  | .tokenImport i _ _ _ _ _ => some i
  | .componentCheck _ _ _ _ _ _ => none
  | .initialise _ => none
  | .storageRoll _ => none
  | .tokenExport _ _ _ _ _ => none

/-- The law of R10 with what keeps it: in service every reference count is the number R10 gives; every live warrant names
an ACTIVE DERIVATION slot of its issuer (R58) and every BOUND lane an ACTIVE TRANSPORT slot (R96). -/
structure RefsLaw (s : State) : Prop where
  /-- No two records carry one id, and they are kept in ascending order (R56). -/
  ids : s.warrants.Pairwise fun a b => a.id < b.id
  /-- The law of R10. -/
  counts : s.mode.inService = true → ∀ i : SlotId, s.slots[i].refs = s.countRefs i
  /-- A live warrant's slot is ACTIVE (R58). -/
  masters : s.mode.inService = true → ∀ w ∈ s.warrants, w.live = true → s.slots[w.master].isActive = true
  /-- It is a DERIVATION slot of the warrant's issuer (R58). -/
  issuers : ∀ w ∈ s.warrants, w.live = true → s.slots[w.master].isActive = true →
    s.slots[w.master].masterRefusal w.issuer = none
  /-- A BOUND lane's slot is ACTIVE (R96). -/
  transports : s.mode.inService = true → ∀ (l : LaneId) (i : SlotId), s.lanes[l].transport = some i →
    s.slots[i].isActive = true
  /-- It is a TRANSPORT slot (R96). -/
  kinds : ∀ (l : LaneId) (i : SlotId), s.lanes[l].transport = some i → s.slots[i].isActive = true →
    s.slots[i].transportRefusal = none
  /-- During an erase nothing names a slot (R141). -/
  released : s.mode = .erasing → (∀ w ∈ s.warrants, w.live = false) ∧ ∀ l : LaneId, s.lanes[l].transport = none
  /-- A custody command is in process in service only (R164). -/
  process : s.custody.process.isSome = true → s.mode.inService = true
  /-- The slot a new record is to be written to is not ACTIVE (R5, R20). -/
  target : ∀ (p : Process) (i : SlotId), s.custody.process = some p → p.target = some i →
    s.slots[i].isActive = false

/-! ### Warrants (R55, R56, R57) -/

/-- The law of R57 on one record. -/
structure Warrant.Lawful (w : Warrant) : Prop where
  total : 1 ≤ w.total ∧ w.total ≤ maxTotal
  delivered : w.delivered ≤ w.total
  unspent : w.state = .opened ∨ w.state = .held → w.delivered < w.total
  spent : w.state = .exhausted → w.delivered = w.total

/-- An entry is between its warrant check and its debit (R71). -/
def Stage.inEntry : Stage → Bool
  | .opening => false
  | .withheld => false
  | .deriving _ _ => true
  | .checking _ _ _ => true
  | .keystream _ _ _ _ => true

/-- The laws of R56 and R57 over the table, with what keeps them through a debit (R69). -/
structure WarrantLaw (s : State) : Prop where
  records : ∀ w ∈ s.warrants, w.Lawful
  /-- The table has room for 32 records (R56). -/
  room : s.warrants.length ≤ 32
  ids : s.warrants.Pairwise fun a b => a.id < b.id
  serials : s.warrants.Pairwise fun a b => a.serial ≠ b.serial
  fresh : ∀ w ∈ s.warrants, w.serial < s.nextSerial
  /-- While an entry is in progress, its warrant has a card left for it (R69). -/
  entry : ∀ (g : RunGrant) (r : Run), s.engine = .lane g → g.stage.inEntry = true → s.lanes[g.lane].run = some r →
    ∀ w ∈ s.warrants, w.serial = r.tie → w.delivered < w.total

/-! ### The quantum and the grant (R93, R119) -/

/-- A quantum is a multiple of 3 from 3 to 48 (R93). -/
def quantumOk (q : Nat) : Bool := q % 3 == 0 && 3 ≤ q && q ≤ 48

/-- The operations of the entry in progress that have ended, where its stage tells; none at a stage that was withheld its
key. -/
def Stage.ended : Stage → Option Nat
  | .opening => some 0
  | .deriving _ _ => some 0
  | .checking _ _ _ => some 1
  | .keystream _ _ _ _ => some 2
  | .withheld => none

/-- A lane grant within its budget (R89, R119). -/
structure RunGrant.Lawful (g : RunGrant) : Prop where
  budget : quantumOk g.budget = true
  used : g.used % 3 = 0 ∧ g.used ≤ g.budget
  /-- An entry begins only if its three operations fit (R89). -/
  fits : g.stage.inEntry = true → g.used + 3 ≤ g.budget
  performed : ∀ n, g.stage.ended = some n → g.performed = g.used + n
  /-- No grant performs more than G block operations (R89, R119). -/
  bound : g.performed ≤ g.budget

/-- The law of R93 and of R119 for lane grants. -/
structure BudgetLaw (s : State) : Prop where
  quantum : quantumOk s.quantum = true
  grant : ∀ g : RunGrant, s.engine = .lane g → g.Lawful

/-! ### Links, lanes and the arbiter (R104, R108, R109, R123, R124, R164, R165) -/

/-- A collect that no erase has cut holds the reply that is still in the buffer (R165, R174). -/
def LinkState.CollectHolds (k : LinkState) : Prop :=
  ∀ (c : Collect) (r : Reply), k.collect = some c → c.cut = false → c.reply = some r → k.buffer = some r

/-- A run that waits in DRAINING for its reply to be collected (R104). -/
def Run.draining (r : Run) : Bool := r.state == .drainingMore || r.state == .drainingFinal

/-- Who waits for the engine, who holds it, and which buffers are full: the laws of R108, R109, R123, R124 and R164. -/
structure ServiceLaw (s : State) : Prop where
  /-- The engine is IDLE with a requester pending only inside a step (R124). -/
  idle : s.engine = .idle → s.requesters = 0
  /-- A lane is in the pending set exactly while its run is QUEUED and its reply buffer empty (R108). -/
  waiting : ∀ l : LaneId, s.waits (.lane l) = true ↔
    (∃ r, s.lanes[l].run = some r ∧ r.state = .queued) ∧ s.lanes[l].link.buffer = none
  /-- Custody is in it exactly while a command in process waits for the engine (R122, R123). -/
  custody : s.waits .custody = true ↔ s.custody.process.isSome = true ∧ ∀ g, s.engine ≠ .custody g
  /-- A custody grant serves a command in process (R122). -/
  custodyHolds : ∀ g, s.engine = .custody g → s.custody.process.isSome = true
  /-- A lane grant serves an ACTIVE run, with the lane's buffer empty (R109). -/
  laneHolds : ∀ g, s.engine = .lane g →
    (∃ r, s.lanes[g.lane].run = some r ∧ r.state = .active) ∧ s.lanes[g.lane].link.buffer = none
  /-- An ACTIVE run holds the engine (R104). -/
  active : ∀ (l : LaneId) (r : Run), s.lanes[l].run = some r → r.state = .active → ∃ g, s.engine = .lane g ∧ g.lane = l
  /-- A DRAINING run's RUN_RESULT is in the buffer (R104, R109). -/
  draining : ∀ (l : LaneId) (r : Run), s.lanes[l].run = some r → r.draining = true →
    ∃ x, s.lanes[l].link.buffer = some (.runResult x)
  /-- A run that ended FINAL has an end reason (R103). -/
  ended : ∀ (l : LaneId) (r : Run), s.lanes[l].run = some r → r.state = .drainingFinal → r.endReason.isSome = true
  /-- While a custody command is in process its reply buffer is empty (R164). -/
  empty : s.custody.process.isSome = true → s.custody.link.buffer = none
  /-- A collect shifts out the reply that is in the buffer (R165). -/
  collects : ∀ k : Link, (s.link k).CollectHolds
  /-- Only an OPERATIONAL part has runs (R106, R129). -/
  runs : s.mode ≠ .operational → ∀ l : LaneId, s.lanes[l].run = none
  /-- Only in service is a custody command in process (R164). -/
  inService : s.custody.process.isSome = true → s.mode.inService = true

/-! ### Counters (R136, R138, R160, R162) -/

/-- Every counter and queue within the bounds the manual gives it. -/
structure CounterLaw (s : State) : Prop where
  /-- A request FIFO holds 0 to 2 frames (R162). -/
  fifos : ∀ k : Link, (s.link k).fifo.length ≤ 2
  /-- A frame error count stays at 255 (R160). -/
  errors : ∀ k : Link, (s.link k).frameErrors ≤ 255
  /-- The tamper event count never exceeds 255 (R138). -/
  events : s.tamper.events ≤ 255
  /-- The custody switch filter's count is below 8 between samples (R30). -/
  switch : s.custody.count < 8
  /-- An input filter's count is below its setting between samples, while its settings can be trusted (R134). -/
  filters : ∀ i : InputId, s.tamper.inputs[i].count < s.tamper.inputs[i].filter.limit
  /-- The three passes write each unit of the key store once (R142). -/
  passes : s.passes.written ≤ 3 * unitCount
  /-- A timer runs only while the monitor is armed (R136). -/
  timer : s.tamper.timer = true → s.tamper.armed = true
  /-- The first cause is in the cause set, and there is one exactly while the set is not empty (R138). -/
  first : (s.tamper.first = none ↔ s.tamper.causes = 0) ∧
    ∀ x, s.tamper.first = some x → s.tamper.causes &&& x.bit = x.bit

/-! ### Ceremonies (R20) -/

/-- The law of R20 on one assembly part. -/
structure Assembly.Lawful (p : Assembly) : Prop where
  required : p.required = 2 ∨ p.required = 3
  distinct : p.custodians.Nodup
  range : ∀ c ∈ p.custodians, 1 ≤ c ∧ c ≤ 8
  /-- Fewer than the required count except while the final check is in flight, then exactly it (R20). -/
  checking : if p.checking then p.custodians.length = p.required else p.custodians.length < p.required

/-- The law of R20, with what a COMPONENT in process has been checked for (R22). -/
structure AssemblyLaw (s : State) : Prop where
  parts : ∀ (i : SlotId) (p : Assembly), s.slots[i].assembly = some p → p.Lawful
  component : ∀ (i : SlotId) (c : Nat) (v : KeyValue) (k : CheckValue) (last ended : Bool),
    s.custody.process = some (.componentCheck i c v k last ended) → 1 ≤ c ∧ c ≤ 8 ∧
      ∀ p, s.slots[i].assembly = some p → c ∉ p.custodians ∧ p.checking = false

/-! ### Storage keys and check values (R4, R38, R39) -/

/-- A stored key with the pattern of R38 and a generation in range (R37). -/
structure StorageKey.Lawful (k : StorageKey) : Prop where
  pattern : k.pattern = verificationPattern k.key
  generation : 1 ≤ k.generation ∧ k.generation ≤ maxGeneration

/-- The laws of R38 and R39, with the operations in flight that keep them. -/
structure StorageLaw (s : State) : Prop where
  current : ∀ k, s.storage.current = some k → k.Lawful
  /-- A previous key belongs to the generation one below the current (R39). -/
  previous : ∀ v, s.storage.previous = some v →
    v.Lawful ∧ ∃ k, s.storage.current = some k ∧ k.generation = v.generation + 1
  /-- Without a previous key the generation is the one INITIALISE set (R39). -/
  first : ∀ k, s.storage.current = some k → s.storage.previous = none → k.generation = 1
  /-- A roll in process is one R42 admits. -/
  roll : ∀ d, s.custody.process = some (.storageRoll d) → ∀ k, s.storage.current = some k →
    k.generation < maxGeneration
  /-- A custody grant serves a command in process (R122). -/
  holder : ∀ g, s.engine = .custody g → s.custody.process.isSome = true
  /-- The pattern operation of INITIALISE is on the drawn key (R41). -/
  initialiseOp : ∀ d g, s.custody.process = some (.initialise d) → s.engine = .custody g →
    g.op = some (.encipher (.k32 d) patternBlock)
  /-- So is that of STORAGE_ROLL (R42). -/
  rollOp : ∀ d g, s.custody.process = some (.storageRoll d) → s.engine = .custody g →
    g.op = some (.encipher (.k32 d) patternBlock)

/-- The key an import has recovered, once it has (R49). -/
def recovered (token : Token) (k1 k2 : Option Block) : Option KeyValue :=
  match k1, token.w2, k2 with
  | some a, none, _ => some (.k16 a)
  | some a, some _, some b => some (.k32 (a ++ b))
  | some _, some _, none => none
  | none, _, _ => none

/-- The law of R4: an ACTIVE or FAULTY slot holds the check value of its key; with the operations in flight that keep
it (R25, R49). -/
structure CheckLaw (s : State) : Prop where
  slots : ∀ (i : SlotId) (a : Attributes) (c : Contents),
    s.slots[i].body = .active a c ∨ s.slots[i].body = .faulty a c → c.check = checkValue c.key
  /-- A custody grant serves a command in process (R122). -/
  holder : ∀ g, s.engine = .custody g → s.custody.process.isSome = true
  finalOp : ∀ i g a p, s.custody.process = some (.finalCheck i) → s.engine = .custody g →
    s.slots[i].assemblyOf = some (a, p) → g.op = some (.encipher p.accumulator 0)
  checking : ∀ i, s.custody.process = some (.finalCheck i) → ∀ a p, s.slots[i].assemblyOf = some (a, p) →
    p.checking = true
  importOp : ∀ i t b n k1 k2 g k, s.custody.process = some (.tokenImport i t b n k1 k2) → s.engine = .custody g →
    recovered t k1 k2 = some k → g.op = some (.encipher k 0)

/-! ### Device states (R37, R54, R155) -/

/-- Every slot is EMPTY. -/
def State.AllEmpty (s : State) : Prop := ∀ i : SlotId, s.slots[i].body = .empty

/-- The Storage Unit holds no key. -/
def StorageUnit.Clear (u : StorageUnit) : Prop := u.current = none ∧ u.previous = none

/-- A storage key is absent exactly in UNINITIALISED and LOCKED, and there every slot is EMPTY (R37, R54); with what keeps it:
the main supply is there while the logic runs (R158), the marker is valid but before and in a clearing (R151), and only a
pending erase leaves a unit of the key store overwritten (R142, R143). -/
structure ModeLaw (s : State) : Prop where
  operational : s.mode = .operational → s.storage.current.isSome = true
  clear : s.mode = .uninitialised ∨ s.mode = .locked → s.storage.Clear ∧ s.AllEmpty
  /-- What a part comes up with when no erase is pending: keys only with a storage key (R155). -/
  kept : s.mode = .stopped ∨ s.mode = .starting .check ∨ s.mode = .starting .sweep → s.marker = Config.marker →
    s.tamper.erasePending = false → s.storage.current = none → s.storage.Clear ∧ s.AllEmpty
  /-- The erase is pending until it completes (R138, R141). -/
  erasing : s.mode = .erasing → s.tamper.erasePending = true
  /-- In service no erase is pending (R149). -/
  service : s.mode.inService = true → s.tamper.erasePending = false
  /-- A sweep runs on a valid domain (R153). -/
  sweep : s.mode = .starting .sweep → s.marker = Config.marker
  /-- So does everything that follows it, or the clearing that wrote the marker (R155). -/
  valid : s.mode.inService = true ∨ s.mode = .erasing → s.marker = Config.marker
  /-- The logic runs on the main supply (R150, R158). -/
  supply : s.mode.running = true → stopLevel ≤ s.vmain
  /-- A clearing runs on an invalid domain (R151). -/
  clearing : s.mode = .starting .clearing → s.marker ≠ Config.marker
  /-- With no erase pending in a valid domain, every unit of the key store holds its record (R142, R143). -/
  records : s.marker = Config.marker → s.tamper.erasePending = false → s.passes.units = Vector.replicate 50 none
  /-- Passes are in progress in ERASING only (R142). -/
  passes : s.mode ≠ .erasing → s.passes.written = 0
  /-- A command in process is one the device state admits: INITIALISE in UNINITIALISED, the others in OPERATIONAL
  (R14). -/
  process : ∀ p, s.custody.process = some p →
    match p with
    | .initialise _ => s.mode = .uninitialised
    | .componentCheck _ _ _ _ _ _ | .finalCheck _ | .storageRoll _ | .tokenExport _ _ _ _ _
    | .tokenImport _ _ _ _ _ _ => s.mode = .operational

/-! ### Chains (R101) -/

/-- The chaining value after `n` keystream blocks under a key (R84, R101). -/
def chainAfter (key : KeyValue) (initial : Block) : Nat → Block
  | 0 => initial
  | n + 1 => encipher key (chainAfter key initial n)

/-- The law of R101: the position counts, modulo 2^32, the blocks taken since the last reset, and the chaining value is the
initial value enciphered that many times under the transport key; with the keystream operation in flight. -/
structure ChainLaw (s : State) : Prop where
  chains : ∀ (l : LaneId) (i : SlotId) (key : KeyValue), s.lanes[l].transport = some i →
    s.slots[i].activeKey = some key →
    ∃ n : Nat, s.lanes[l].position = BitVec.ofNat 32 n ∧ s.lanes[l].chain = chainAfter key s.lanes[l].initial n
  /-- The keystream operation in flight is on the lane's chain, under the key of its slot (R84). -/
  operation : ∀ (g : RunGrant) (w : Work) (ck : Block) (c : CheckValue) (op : BlockOp), s.engine = .lane g →
    g.stage = .keystream w ck c op → ∃ key, s.transportKey g.lane = some key ∧
      op = .encipher key s.lanes[g.lane].chain

/-! ### Terms of the statements -/

/-- Custody takes a request of this kind and body: it is at the FIFO's head, the buffer is empty, no command is in process
and the device is in service (R164). -/
structure CustodyTakes (s : State) (kind : Byte) (body : List Byte) : Prop where
  service : s.mode.inService = true
  empty : s.custody.link.buffer = none
  free : s.custody.process = none
  head : s.custody.link.fifo.head? = some ⟨kind, body⟩

/-- The request at the custody FIFO's head is taken off; nothing else changes. -/
def State.afterTaking (s : State) : State :=
  { s with custody := { s.custody with link := { s.custody.link with fifo := s.custody.link.fifo.tail } } }

/-- The request is taken off and this reply stands in the custody buffer; nothing else changes. -/
def State.afterReply (s : State) (r : Reply) : State :=
  { s with custody := { s.custody with link := { s.custody.link with fifo := s.custody.link.fifo.tail, buffer := some r } } }

/-- The request is taken off and refused without detail; nothing else changes. -/
def State.afterRefusal (s : State) (kind : Byte) (code : Code) : State := s.afterReply (.refused kind code [])

/-- The command waits for the engine, or is granted it at once with the engine IDLE (R123, R124): custody stands in bit 4
of the pending set. -/
def State.afterJoin (s : State) (p : Process) (planned : Nat) (op : BlockOp) : State :=
  match s.engine with
  | .idle =>
    { s with
      custody := { s.custody with process := some p }
      engine := .custody { planned := planned, performed := 0, op := some op }
      requesters := s.requesters &&& 15 }
  | .custody _ => { s with custody := { s.custody with process := some p }, requesters := s.requesters ||| 16 }
  | .lane _ => { s with custody := { s.custody with process := some p }, requesters := s.requesters ||| 16 }

/-- The command in process answers this and its grant ends with the arbiter's next choice (R122). -/
def State.afterGrant (s : State) (r : Reply) : State :=
  State.release
    { s with custody := { s.custody with process := none, link := { s.custody.link with buffer := some r } } }

/-- A lane takes a request of this kind and body (R105). -/
structure LaneTakes (s : State) (l : LaneId) (kind : Byte) (body : List Byte) : Prop where
  service : s.mode.inService = true
  empty : s.lanes[l].link.buffer = none
  head : s.lanes[l].link.fifo.head? = some ⟨kind, body⟩
  run : s.lanes[l].run = none ∨ (kind ≠ kindRun ∧ ∃ r, s.lanes[l].run = some r ∧ r.state = .queued)

/-- The lane's request is taken off and this reply stands in its buffer; a lane that waited leaves the pending set (R108);
nothing else changes. -/
def State.afterLaneReply (s : State) (l : LaneId) (r : Reply) : State :=
  { s with
    lanes := s.lanes.set l
      { s.lanes[l] with link := { s.lanes[l].link with fifo := s.lanes[l].link.fifo.tail, buffer := some r } }
    requesters := s.requesters &&& ~~~(BitVec.twoPow 5 l.val) }

/-- A lane's run becomes or stays QUEUED and waits for the engine, or is granted it at once with the engine IDLE and nobody
else waiting (R108, R121, R124 to R126). -/
def State.afterLaneJoin (s : State) (l : LaneId) (r : Run) : State :=
  match s.engine with
  | .idle =>
    { s with
      lanes := s.lanes.set l { s.lanes[l] with run := some { r with state := .active } }
      engine := .lane
        { lane := l, budget := s.quantum, used := 0, performed := 0, index := r.next, results := []
          master := (s.tied r.tie).map fun w => w.master, stage := .opening, stopAt := none }
      highPointer := if s.lanes[l].cls = .high then l else s.highPointer
      lowPointer := if s.lanes[l].cls = .low then l else s.lowPointer }
  | .custody _ =>
    { s with
      lanes := s.lanes.set l { s.lanes[l] with run := some { r with state := .queued } }
      requesters := s.requesters ||| BitVec.twoPow 5 l.val }
  | .lane _ =>
    { s with
      lanes := s.lanes.set l { s.lanes[l] with run := some { r with state := .queued } }
      requesters := s.requesters ||| BitVec.twoPow 5 l.val }

/-- The command that takes a request of this kind from a lane's FIFO (R170). -/
def laneCommand (l : LaneId) (kind : Byte) : Instr :=
  if kind = kindRun then .run l
  else if kind = kindLaneStatus then .laneStatus l
  else if kind = kindWarrantStatus then .warrantStatus (.lane l)
  else .unknownRequest (.lane l)

/-- The reply is a RUN_RESULT. -/
def Reply.isResult : Reply → Bool
  | .runResult _ => true
  | .ok _ _ _ | .refused _ _ _ | .laneStatus _ | .deviceStatus _ _ | .tamperNotice _ => false

/-- A lane's reply is consumed: the transfer ends with these bytes shifted out, the buffer is empty, and if the reply was a
RUN_RESULT the run moves on by the table of R111; nothing else changes. -/
def State.afterCollect (s : State) (l : LaneId) (r : Reply) (sdo : List Byte) : State :=
  let x : Lane := { s.lanes[l] with link := { s.lanes[l].link with buffer := none, collect := none, sdo := sdo } }
  let moved : Lane :=
    match x.run with
    | none => x
    | some run =>
      match run.state, run.stopMark, run.endReason with
      | .drainingMore, false, _ => { x with run := some { run with state := .queued } }
      | .drainingMore, true, _ => { x with run := none, last := some ⟨run.tag, run.next, .stopped⟩ }
      | .drainingFinal, _, some reason => { x with run := none, last := some ⟨run.tag, run.next, reason⟩ }
      | .drainingFinal, _, none => x
      | .queued, _, _ => x
      | .active, _, _ => x
  { s with lanes := s.lanes.set l (if r.isResult then moved else x) }

/-- The commands that take a request from the custody FIFO, with the kind of each (R170). -/
def custodyCommands (raw : BitVec 6) : List (Byte × Instr) :=
  [(0x20, .initialise), (0x21, .storageRoll), (0x22, .tokenExport), (0x23, .tokenImport), (0x30, .assemble),
    (0x31, .component), (0x32, .assemblyCancel), (0x38, .slotStatus), (0x39, .slotErase), (0x40, .warrantOpen),
    (0x41, .warrantHold), (0x42, .warrantRelease), (0x43, .warrantExtend), (0x44, .warrantClose),
    (0x45, .warrantPurge), (0x46, .warrantStatus .custody), (0x47, .warrantList), (0x50, .laneBind),
    (0x51, .laneUnbind), (0x58, .setQuantum), (0x60, .tamperSetup raw), (0x61, .tamperAck), (0x70, .deviceStatus)]

/-- The length of a custody body fits its kind's form (R171); for WARRANT_OPEN it depends on the prefix count. -/
def bodyFits (kind : Byte) (body : List Byte) : Bool :=
  if [0x20, 0x21, 0x47, 0x61, 0x70].contains kind then body.length == 0
  else if [0x22, 0x32, 0x38, 0x39, 0x41, 0x42, 0x44, 0x45, 0x46, 0x51, 0x58].contains kind then body.length == 1
  else if kind = 0x23 then 1 ≤ body.length
  else if kind = 0x30 then body.length == 10
  else if kind = 0x31 then [18, 21, 34, 37].contains body.length
  else if kind = 0x40 then 9 ≤ body.length && body.length == 9 + (body.getD 7 0).toNat
  else if kind = 0x43 then body.length == 5
  else if kind = 0x50 then body.length == 23
  else if kind = 0x60 then body.length == 20
  else true

/-- The table of R14: a command's kind, its entries for UNINITIALISED, OPERATIONAL and LOCKED (none: taken), and whether it
needs the CUSTODY position. -/
def gateTable (raw : BitVec 6) : List (Instr × Byte × Option Code × Option Code × Option Code × Bool) :=
  [(.assemble, 0x30, some .uninitialised, none, some .locked, true),
    (.component, 0x31, some .uninitialised, none, some .locked, true),
    (.assemblyCancel, 0x32, some .uninitialised, none, some .locked, true),
    (.slotErase, 0x39, some .uninitialised, none, some .locked, true),
    (.tokenImport, 0x23, some .uninitialised, none, some .locked, true),
    (.storageRoll, 0x21, some .uninitialised, none, some .locked, true),
    (.initialise, 0x20, none, some .alreadyInitialised, some .locked, true),
    (.tamperSetup raw, 0x60, none, none, some .locked, true),
    (.tamperAck, 0x61, none, none, none, true),
    (.tokenExport, 0x22, some .uninitialised, none, some .locked, false),
    (.slotStatus, 0x38, none, none, some .locked, false)]

/-- The entry of a row of R14's table for a device state. -/
def gateEntry (uninitialised operational locked : Option Code) : Mode → Option Code
  | .uninitialised => uninitialised
  | .operational => operational
  | .locked => locked
  | .stopped => none
  | .starting _ => none
  | .erasing => none

/-- The slot a gated command names: the first byte of its body, for the commands that name one (R14). -/
def namedSlot (kind : Byte) (body : List Byte) : Option Byte :=
  if [0x30, 0x31, 0x32, 0x39, 0x23, 0x22, 0x38].contains kind then body.head? else none

/-- A kind whose issuer tag is in range (R1). -/
def KeyKind.Valid : KeyKind → Prop
  | .derivation _ issuer => 1 ≤ issuer ∧ issuer ≤ 30
  | .transport => True

/-- The bytes of a key or component value (R171). -/
def KeyValue.bytes : KeyValue → List Byte
  | .k16 k => be 16 k.toNat
  | .k32 k => be 32 k.toNat

/-- The body of a COMPONENT (R171). -/
def componentBody (i : SlotId) (custodian : Byte) (value : KeyValue) (check : Option CheckValue) : List Byte :=
  u8 i.val :: custodian :: value.bytes ++ (match check with | none => [] | some c => checkBytes c)

/-- An assembly part with one more component in it (R24); the checking flag is set with the list full (R25). -/
def Assembly.joined (p : Assembly) (custodian : Nat) (value : KeyValue) : Assembly :=
  { required := p.required, custodians := p.custodians ++ [custodian], accumulator := p.accumulator.xor value
    expected := p.expected, checking := decide (p.custodians.length + 1 = p.required) }

/-- A slot that holds this body, with nothing counted against it, no assembly part and a word of its own (R5, R12). -/
def Slot.fresh (i : SlotId) (body : SlotBody) : Slot :=
  { body := body, refs := 0, integrity := Config.integrityCode i body, assembly := none }

/-- ASSEMBLING with its checking flag clear: what a change to RUN empties (R32). -/
def Slot.unchecked (sl : Slot) : Bool :=
  match sl.body, sl.assembly with
  | .assembling _, some p => !p.checking
  | _, _ => false

/-- The warrant commands that name a warrant (R59). -/
def namingCommands : List (Byte × Instr) :=
  [(0x41, .warrantHold), (0x42, .warrantRelease), (0x43, .warrantExtend), (0x44, .warrantClose), (0x45, .warrantPurge),
    (0x46, .warrantStatus .custody)]

/-- A prefix as a field: its count byte and its digits; count 0 where absent (R171). -/
def digitField : Option (List Byte) → List Byte
  | none => [0]
  | some p => u8 p.length :: p

/-- The records with the one that carries an id changed. -/
def changed (ws : List Warrant) (id : Nat) (f : Warrant → Warrant) : List Warrant :=
  ws.map fun w => if w.id = id then f w else w

/-- A slot's reference count replaced, with a new integrity word (R10, R12). -/
def State.withRefs (s : State) (i : SlotId) (refs : Nat) : State :=
  { s with
    slots := s.slots.set i
      { s.slots[i] with refs := refs, integrity := Config.integrityCode i s.slots[i].body } }

/-- A slot's record replaced; nothing else changes. -/
def State.withSlot (s : State) (i : SlotId) (x : Slot) : State := { s with slots := s.slots.set i x }

/-! ### The engine, the walk and the tamper record -/

/-- How far a lane is behind a pointer in the order of R125: the lane after the pointer first, the one it names last. -/
def turn (pointer l : LaneId) : Nat := (l - pointer - 1).val

/-- A walk ends (R90, R109, R121): the run moves to DRAINING, its RUN_RESULT stands in the lane's buffer, and the engine is
released for the arbiter's next choice. -/
def State.afterWalk (s : State) (g : RunGrant) (r : Run) (results : List EntryResult) (next : Nat)
    (reason : Option EndReason) : State :=
  let x := s.lanes[g.lane]
  let result : RunResult :=
    { tag := r.tag, endReason := reason
      remaining := match s.warrants.find? fun w => w.serial == r.tie with | none => 0 | some w => w.total - w.delivered
      epoch := x.epoch, position := x.position, results := results }
  State.release
    { s with
      lanes := s.lanes.set g.lane
        { x with
          run := some
            { r with
              next := next, endReason := reason
              state := match reason with | none => .drainingMore | some _ => .drainingFinal }
          link := { x.link with buffer := some (.runResult result) } } }

/-- A record after one delivered card (R69). -/
def Warrant.debited (w : Warrant) : Warrant :=
  { w with
    delivered := w.delivered + 1
    state := if (w.state = .opened ∨ w.state = .held) ∧ w.delivered + 1 = w.total then .exhausted else w.state }

/-- An ACTIVE slot with one more use (R9), written with a new integrity word (R12). -/
def Slot.used (sl : Slot) (i : SlotId) (a : Attributes) (c : Contents) : Slot :=
  let body := SlotBody.active a { c with uses := min 4294967295 (c.uses + 1) }
  { body := body, refs := sl.refs, integrity := Config.integrityCode i body, assembly := sl.assembly }

/-- The tamper record with an event taken (R138). -/
def Tamper.noted (t : Tamper) (x : Source) : Tamper :=
  { t with
    first := if t.causes = 0 then some x else t.first
    causes := t.causes ||| x.bit
    events := min 255 (t.events + 1) }

/-- The settings of an input as TAMPER_SETUP carries them (R146). -/
def InputSettings.bytes (n : InputSettings) : List Byte := [n.detection.byte, n.filter.byte, n.response.byte]

/-- A lane with its volatile fields as R150 gives them. -/
def Lane.fresh (x : Lane) : Lane :=
  { x with
    run := none, last := none
    link := { fifo := [], overrun := false, frameErrors := 0, buffer := none, collect := none, sdo := [] } }

/-- The volatile state as R150 gives it; the battery domain is kept (R158). -/
def State.afterStop (s : State) : State :=
  { s with
    engine := .idle, requesters := 0, highPointer := 3, lowPointer := 3
    lanes := Vector.ofFn fun l : LaneId => s.lanes[l].fresh
    custody :=
      { link := { fifo := [], overrun := false, frameErrors := 0, buffer := none, collect := none, sdo := [] }
        position := .run, count := 0, process := none }
    slots := Vector.ofFn fun i : SlotId => { s.slots[i] with assembly := none }
    tamper := { s.tamper with armed := false, timer := false }
    passes := { written := 0, units := s.passes.units.set 49 none } }

/-- A link whose contents an erase flushes; the frame error count is kept (R118, R141, R165). -/
def LinkState.flushed (k : LinkState) : LinkState :=
  { k with
    fifo := [], overrun := false, buffer := none
    collect := match k.collect with | none => none | some c => some { c with cut := true } }

/-- The start of an erase (R141). -/
def State.afterErase (s : State) : State :=
  { s with
    mode := .erasing, engine := .idle, requesters := 0
    tamper := { s.tamper with erasePending := true }
    warrants := s.warrants.map fun (w : Warrant) =>
      match w.state with
      | .closed _ => w
      | .opened | .held | .exhausted => { w with state := .closed .tamper }
    lanes := Vector.ofFn fun l : LaneId =>
      { s.lanes[l] with transport := none, run := none, last := none, link := s.lanes[l].link.flushed }
    custody := { s.custody with process := none, link := s.custody.link.flushed }
    passes := { s.passes with written := 0 } }

/-- The state after `n` steps in which no command waits, stopping at the first that gives no next state. -/
def unattended : Nat → State → Res
  | 0, s => .next s
  | n + 1, s =>
    match step s with
    | .next t => unattended n t
    | .fault r => .fault r
    | .refused r => .refused r

/-- Commands run one after another, stopping at the first that gives no next state. -/
def runCommands : List Instr → State → Res
  | [], s => .next s
  | c :: cs, s =>
    match exec c s with
    | .next t => runCommands cs t
    | .fault r => .fault r
    | .refused r => .refused r

/-- The command at the front of the queue is no fault of the battery-backed memory: the laws over slot records hold as
long as the records change by table writes only (R13). -/
def MemorySound (s : State) : Prop :=
  ∀ (i : SlotId) (b : SlotBody) (n : Nat) (w : BitVec 32), s.pending.head? ≠ some (.batteryBackedMemoryFault i b n w)

/-! ### What reports must not show (R3) -/

/-- A key value of the same length with its bytes at 0. -/
def KeyValue.hide (k : KeyValue) : KeyValue := KeyValue.zero k.length

/-- A record without its key value. -/
def SlotBody.hide : SlotBody → SlotBody
  | .empty => .empty
  | .assembling a => .assembling a
  | .active a c => .active a { c with key := c.key.hide }
  | .faulty a c => .faulty a { c with key := c.key.hide }

/-- A slot without its key value, its accumulator and its integrity word (R16). -/
def Slot.hide (sl : Slot) : Slot :=
  { body := sl.body.hide, refs := sl.refs, integrity := 0
    assembly := sl.assembly.map fun p => { p with accumulator := p.accumulator.hide } }

/-- A stored key without its key value. -/
def StorageKey.hide (k : StorageKey) : StorageKey := { k with key := 0 }

/-- The part without the key values of the Key Table and the Storage Unit. Two states with one such view differ in
nothing else. -/
def State.hide (s : State) : State :=
  { s with
    slots := Vector.ofFn fun i => s.slots[i].hide
    storage := { current := s.storage.current.map StorageKey.hide, previous := s.storage.previous.map StorageKey.hide } }

/-! ### Forms as bytes (R172) -/

/-- One entry of a RUN body: digit count, digits, sequence number. -/
def Entry.bytes (e : Entry) : List Byte := u8 e.digits.length :: e.digits ++ be 2 e.sequence.toNat

/-- A RUN body. -/
def RunForm.bytes (f : RunForm) : List Byte :=
  [f.tag, f.warrant, u8 f.entries.length] ++ f.entries.flatMap Entry.bytes

/-- The value of a digit in a position counted from the right, the last digit in position 1 (R78). -/
def luhnValue (position d : Nat) : Nat :=
  if position % 2 = 0 then (if 2 * d > 9 then 2 * d - 9 else 2 * d) else d

/-- The sum of R78: digit `i` from the right, counted from 0, is in position `i + 1`. -/
def luhnSum (digits : List Byte) : Nat :=
  ((List.range digits.length).map fun i => luhnValue (i + 1) (digits.reverse.getD i 0).toNat).sum

end Sys2Proof.Machine
end

