-- ==== Sys2Proof/Certificates/Slice0/Obligations.lean ====
section
/-! DEFINITION. The statements for the provers, in the order of OBLIGATIONS.json. Each says what a command does to the whole
state, what every command keeps, or how values travel. A statement that gives a command's next state gives all of it, so
what it does not name is unchanged. -/

open Sys2Proof Sys2Proof.Machine

/-! ### The step, reset and the links -/

/-- A step runs the command at the front of the queue on the state with the queue's rest. An empty queue idles but in ERASING,
where the overwrite passes go on (PassesOverwriteTheKeyStore): the model's choice, notes/assumptions/21.md. -/
def Obligations.StepRunsTheFrontCommand : Prop :=
  (∀ (s : State) (c : Instr) (cs : List Instr), step (s.withPending (c :: cs)) = exec c (s.withPending cs)) ∧
    ∀ s : State, s.pending = [] → s.mode ≠ .erasing → step s = .next s

/-- Right after reset the part is in STARTING with the volatile state of R150, drives TAMPER, no command waits, and the laws
of Safety.lean hold. The battery domain it finds is the model's choice, notes/assumptions/9.md. -/
def Obligations.ResetBeginsStartingLawfully : Prop :=
  (State.reset.mode = .starting .check ∧ State.reset.engine = .idle ∧ State.reset.requesters = 0 ∧
    State.reset.highPointer = 3 ∧ State.reset.lowPointer = 3 ∧ State.reset.custody.position = .run ∧
    State.reset.custody.process = none ∧
    (∀ k : Link, State.reset.link k =
      { fifo := [], overrun := false, frameErrors := 0, buffer := none, collect := none, sdo := [] }) ∧
    (∀ l : LaneId, State.reset.lanes[l].run = none ∧ State.reset.lanes[l].last = none) ∧
    (∀ i : SlotId, State.reset.slots[i].assembly = none) ∧
    State.reset.tamper.armed = false ∧ State.reset.tamper.timer = false ∧
    State.reset.tamperOutput = some true ∧ State.reset.pending = []) ∧
  (RefsLaw State.reset ∧ WarrantLaw State.reset ∧ BudgetLaw State.reset ∧ ServiceLaw State.reset ∧
    CounterLaw State.reset ∧ AssemblyLaw State.reset ∧ StorageLaw State.reset ∧ CheckLaw State.reset ∧
    ModeLaw State.reset ∧ ChainLaw State.reset)

/-- A request transfer with at least one byte, the first not 0x00, shifts out bytes of 0x00 and is judged when select rises
(R159, R160, R162): bytes that are no frame of length up to 1023 are a frame error, and so are a frame of an immediate kind
with a body and any transfer that ends inside a byte; a complete frame of another kind joins a FIFO with room, sets overrun at
a full one, and is discarded while overrun is set. That a transfer ending inside a byte is one even where the complete bytes
would make a frame is notes/assumptions/22.md. -/
def Obligations.RequestFramesAreJudged : Prop :=
  ∀ (s : State) (k : Link) (bytes : List Byte), s.mode.running = true → (s.link k).collect = none →
    bytes ≠ [] → bytes.head? ≠ some 0 →
    let x : LinkState := { s.link k with sdo := List.replicate bytes.length 0 }
    let frameError : Res := .next (s.setLink k { x with frameErrors := min 255 (x.frameErrors + 1) })
    (∀ bits : Fin 8, bits ≠ 0 → exec (.requestTransfer k ⟨bytes, bits⟩) s = frameError) ∧
      ((∀ (kind : Byte) (body : List Byte), body.length ≤ 1023 → bytes ≠ frameBytes kind body) →
        exec (.requestTransfer k ⟨bytes, 0⟩) s = frameError) ∧
      ∀ (kind : Byte) (body : List Byte), body.length ≤ 1023 → bytes = frameBytes kind body →
        if (immediateKinds k).contains kind then body ≠ [] → exec (.requestTransfer k ⟨bytes, 0⟩) s = frameError
        else
          exec (.requestTransfer k ⟨bytes, 0⟩) s = .next (s.setLink k (
            if x.overrun then x
            else if x.fifo.length < 2 then { x with fifo := x.fifo ++ [⟨kind, body⟩] }
            else { x with overrun := true }))

/-- LANE_CLEAR and LINK_CLEAR empty their FIFO unanswered and clear overrun, and nothing else; a complete frame of an
immediate kind with length 0 is taken as it completes (R161). -/
def Obligations.ImmediateRequestsActAtOnce : Prop :=
  ∀ s : State, s.mode.running = true →
    exec .linkClear s = .next (s.setLink .custody { s.link .custody with fifo := [], overrun := false }) ∧
    (∀ l : LaneId,
      exec (.laneClear l) s = .next (s.setLink (.lane l) { s.link (.lane l) with fifo := [], overrun := false })) ∧
    ((s.link .custody).collect = none →
      exec (.requestTransfer .custody ⟨frameBytes kindLinkClear [], 0⟩) s =
        exec .linkClear (s.setLink .custody { s.link .custody with sdo := [0, 0, 0] })) ∧
    ∀ l : LaneId, (s.link (.lane l)).collect = none →
      exec (.requestTransfer (.lane l) ⟨frameBytes kindLaneClear [], 0⟩) s =
          exec (.laneClear l) (s.setLink (.lane l) { s.link (.lane l) with sdo := [0, 0, 0] }) ∧
        exec (.requestTransfer (.lane l) ⟨frameBytes kindRunStop [], 0⟩) s =
          exec (.runStop ⟨l, none⟩) (s.setLink (.lane l) { s.link (.lane l) with sdo := [0, 0, 0] })

/-- A collect fixes the reply at its first byte and changes nothing else; broken off, cut by an erase, or with nothing to
consume, it ends with the bytes it shifted out and leaves the buffer and all else as before (R165, R166). A custody reply
shifted out whole is consumed: the buffer is empty, and a DEVICE_STATUS reply that showed the battery-loss flag clears it
(R152, R166). -/
def Obligations.CollectsShiftOutReplies : Prop :=
  (∀ (s : State) (k : Link),
    (s.mode.running = true → (s.link k).collect = none →
      exec (.collectBegin k) s =
        .next (s.setLink k { s.link k with collect := some { reply := (s.link k).buffer, cut := false } })) ∧
    ∀ (c : Collect) (clocked cut : Nat), (s.link k).collect = some c → cut ≤ clocked →
      let frame : List Byte := match c.reply with | none => [0, 0, 0] | some r => r.bytes
      let out := if c.cut then frame.take cut else frame.take clocked
      (c.cut = true ∨ c.reply = none ∨ clocked < frame.length) →
        exec (.collectEnd k clocked cut) s =
          .next (s.setLink k
            { s.link k with collect := none, sdo := 0 :: out ++ List.replicate (clocked - out.length) 0 })) ∧
  (∀ (s : State) (c : Collect) (r : Reply) (clocked cut : Nat), s.custody.link.collect = some c → c.cut = false →
    c.reply = some r → r.bytes.length ≤ clocked →
    exec (.collectEnd .custody clocked cut) s =
      .next
        { s with
          custody :=
            { s.custody with
              link :=
                { s.custody.link with
                  buffer := none, collect := none
                  sdo := 0 :: r.bytes ++ List.replicate (clocked - r.bytes.length) 0 } }
          batteryLossFlag := match r with | .deviceStatus _ true => false | _ => s.batteryLossFlag })

/-- A lane reply shifted out whole is consumed and the run moves on (R111, R166). Then a request at the FIFO head that may be
taken is taken in the same step; else a run that is QUEUED waits for the engine, or is granted it with the engine IDLE (R108).
That the head is considered in this step is notes/assumptions/3.md. -/
def Obligations.LanesConsumeReplies : Prop :=
  ∀ (s : State) (l : LaneId) (c : Collect) (r : Reply) (clocked cut : Nat),
    s.lanes[l].link.collect = some c → c.cut = false → c.reply = some r → r.bytes.length ≤ clocked →
    (s.engine = .idle → s.requesters = 0) →
    let t := s.afterCollect l r (0 :: r.bytes ++ List.replicate (clocked - r.bytes.length) 0)
    (∀ (kind : Byte) (body : List Byte), LaneTakes t l kind body →
      exec (.collectEnd (.lane l) clocked cut) s = exec (laneCommand l kind) t) ∧
    ((∀ (kind : Byte) (body : List Byte), ¬ LaneTakes t l kind body) →
      exec (.collectEnd (.lane l) clocked cut) s =
        .next (match t.lanes[l].run with
          | some run => if run.state = .queued then t.afterLaneJoin l run else t
          | none => t))

/-- A kind outside the link's catalogue is answered REFUSED with UNKNOWN_REQUEST in every state in which requests are taken,
and a body whose length fits no arrangement of its kind's fields is refused with MALFORMED before any other check; neither
changes anything else (R163, R171). -/
def Obligations.UnservableRequestsAreRefused : Prop :=
  ((∀ (s : State) (kind : Byte) (body : List Byte), CustodyTakes s kind body → kind ≠ 0x00 → kind ≠ kindLinkClear →
      (∀ raw, ∀ p ∈ custodyCommands raw, p.1 ≠ kind) →
      exec (.unknownRequest .custody) s = .next (s.afterRefusal kind .unknownRequest)) ∧
    ∀ (s : State) (l : LaneId) (kind : Byte) (body : List Byte), LaneTakes s l kind body →
      kind ∉ [0x00, 0x10, 0x11, 0x46, 0x1E, 0x1F] →
      exec (.unknownRequest (.lane l)) s = .next (s.afterLaneReply l (.refused kind .unknownRequest []))) ∧
  ((∀ (s : State) (raw : BitVec 6) (kind : Byte) (c : Instr) (body : List Byte), (kind, c) ∈ custodyCommands raw →
      CustodyTakes s kind body → bodyFits kind body = false →
      exec c s = .next (s.afterRefusal kind .malformed)) ∧
    ∀ (s : State) (l : LaneId) (body : List Byte),
      (LaneTakes s l kindLaneStatus body → body ≠ [] →
        exec (.laneStatus l) s = .next (s.afterLaneReply l (.refused kindLaneStatus .malformed []))) ∧
      (LaneTakes s l kindWarrantStatus body → body.length ≠ 1 →
        exec (.warrantStatus (.lane l)) s = .next (s.afterLaneReply l (.refused kindWarrantStatus .malformed []))))

/-- The gate of R14 on a readable body: the device state's code, then NOT_IN_CUSTODY, then PARAMETER for a slot above 47; a
refused command changes nothing but its reply. -/
def Obligations.CustodyGateRefuses : Prop :=
  ∀ (s : State) (raw : BitVec 6) (c : Instr) (kind : Byte) (u o k : Option Code) (needs : Bool) (body : List Byte),
    (c, kind, u, o, k, needs) ∈ gateTable raw → CustodyTakes s kind body → bodyFits kind body = true →
    (∀ code, gateEntry u o k s.mode = some code → exec c s = .next (s.afterRefusal kind code)) ∧
    (gateEntry u o k s.mode = none → needs = true → s.custody.position = .run →
      exec c s = .next (s.afterRefusal kind .notInCustody)) ∧
    (∀ b, gateEntry u o k s.mode = none → (needs = true → s.custody.position = .custody) →
      namedSlot kind body = some b → 47 < b.toNat → exec c s = .next (s.afterRefusal kind .parameter))

/-! ### The Key Table and ceremonies -/

/-- SLOT_STATUS reports one slot, by its state, without key value, accumulator or integrity word, and changes nothing but its
reply (R16). Two points are the model's choice: an assembly part that a memory fault left absent is sent as 0
(notes/assumptions/18.md), and a reference count above 255, for which R171 has one byte, as its low byte
(notes/assumptions/29.md). -/
def Obligations.SlotStatusReportsTheRecord : Prop :=
  ∀ (s : State) (i : SlotId), CustodyTakes s kindSlotStatus [u8 i.val] → s.mode ≠ .locked →
    let attributes (a : Attributes) : List Byte :=
      [a.kind.byte, a.kind.purposeByte, a.kind.issuerByte, a.version, a.length.byte]
    let contents (c : Contents) : List Byte :=
      checkBytes c.check ++ [c.origin.byte] ++ be 4 c.uses ++ [u8 s.slots[i].refs]
    exec .slotStatus s = .next (s.afterReply (.ok kindSlotStatus .none (u8 i.val ::
      match s.slots[i].body, s.slots[i].assembly with
      | .empty, _ => [0]
      | .assembling a, some p =>
        [1] ++ attributes a ++ [u8 p.required, u8 p.custodians.length] ++ p.custodians.map u8 ++ checkBytes p.expected
          ++ [if p.checking then 1 else 0]
      | .assembling a, none => [1] ++ attributes a ++ [0, 0, 0, 0, 0, 0]
      | .active a c, _ => [2] ++ attributes a ++ contents c
      | .faulty a c, _ => [3] ++ attributes a ++ contents c)))

/-- SLOT_ERASE past the gate (R17): SLOT_STATE for an EMPTY or ASSEMBLING slot, IN_USE for one that is counted or named by the
lane grant in flight, else the slot becomes EMPTY (R5) and the reply gives the check value it held. -/
def Obligations.SlotEraseEmptiesAnUnusedSlot : Prop :=
  ∀ (s : State) (i : SlotId), CustodyTakes s kindSlotErase [u8 i.val] → s.mode = .operational →
    s.custody.position = .custody →
    (s.slots[i].body = .empty ∨ (∃ a, s.slots[i].body = .assembling a) →
      exec .slotErase s = .next (s.afterRefusal kindSlotErase .slotState)) ∧
    ∀ (a : Attributes) (c : Contents), s.slots[i].body = .active a c ∨ s.slots[i].body = .faulty a c →
      let named := ∃ g, s.engine = .lane g ∧ (g.master = some i ∨ s.lanes[g.lane].transport = some i)
      (0 < s.slots[i].refs ∨ named → exec .slotErase s = .next (s.afterRefusal kindSlotErase .inUse)) ∧
      (s.slots[i].refs = 0 ∧ ¬ named →
        exec .slotErase s =
          .next ((s.withSlot i (Slot.fresh i .empty)).afterReply
            (.ok kindSlotErase .none (u8 i.val :: checkBytes c.check))))

/-- ASSEMBLE past the gate (R21): SLOT_STATE for a slot that is not EMPTY, PARAMETER for a field out of range or a purpose or
issuer tag that does not fit the kind, else the slot is ASSEMBLING with an empty list and a zero accumulator. -/
def Obligations.AssembleReservesAnEmptySlot : Prop :=
  ∀ (s : State) (i : SlotId) (kind purpose issuer version length required e0 e1 e2 : Byte),
    CustodyTakes s kindAssemble [u8 i.val, kind, purpose, issuer, version, length, required, e0, e1, e2] →
    s.mode = .operational → s.custody.position = .custody →
    let fits (k : KeyKind) (l : KeyLength) : Prop :=
      k.Valid ∧ k.byte = kind ∧ k.purposeByte = purpose ∧ k.issuerByte = issuer ∧ l.byte = length ∧
        (required = 2 ∨ required = 3)
    (s.slots[i].body ≠ .empty → exec .assemble s = .next (s.afterRefusal kindAssemble .slotState)) ∧
    (s.slots[i].body = .empty → (∀ k l, ¬ fits k l) →
      exec .assemble s = .next (s.afterRefusal kindAssemble .parameter)) ∧
    (s.slots[i].body = .empty → ∀ k l, fits k l →
      exec .assemble s =
        .next ((s.withSlot i
            { Slot.fresh i (.assembling { kind := k, version := version, length := l }) with
              assembly := some
                { required := required.toNat, custodians := [], accumulator := KeyValue.zero l
                  expected := readCheck [e0, e1, e2], checking := false } }).afterReply
          (.ok kindAssemble .none [u8 i.val, required])))

/-- COMPONENT past the gate makes the checks of R22 in order, and a refused one changes nothing but its reply. An accepted one
with a check value waits for its component check, one planned operation or two (R23, R25); one without is combined at once
(R24), and with the list full sets the checking flag and waits for the final check (R25). That a slot ASSEMBLING without an
assembly part is refused is the model's choice, notes/assumptions/28.md. So is what becomes of an accumulator of another
length than the component, which only a memory fault leaves: that the component is accepted, the sum, and the key size of the
final check, notes/assumptions/30.md. -/
def Obligations.ComponentIsCheckedAndCombined : Prop :=
  (∀ (s : State) (i : SlotId) (custodian : Byte) (value : KeyValue) (check : Option CheckValue),
    CustodyTakes s kindComponent (componentBody i custodian value check) → s.mode = .operational →
    s.custody.position = .custody →
    ((∀ a p, ¬ (s.slots[i].body = .assembling a ∧ s.slots[i].assembly = some p)) →
      exec .component s = .next (s.afterRefusal kindComponent .slotState)) ∧
    ∀ (a : Attributes) (p : Assembly), s.slots[i].body = .assembling a → s.slots[i].assembly = some p →
      (p.checking = true → exec .component s = .next (s.afterRefusal kindComponent .slotState)) ∧
      (p.checking = false → custodian.toNat ∈ p.custodians →
        exec .component s = .next (s.afterRefusal kindComponent .duplicateCustodian)) ∧
      (p.checking = false → custodian.toNat ∉ p.custodians →
        (custodian.toNat < 1 ∨ 8 < custodian.toNat ∨ value.length ≠ a.length) →
        exec .component s = .next (s.afterRefusal kindComponent .parameter))) ∧
  (∀ (s : State) (i : SlotId) (custodian : Byte) (value : KeyValue) (check : Option CheckValue) (a : Attributes)
    (p : Assembly), CustodyTakes s kindComponent (componentBody i custodian value check) → s.mode = .operational →
    s.custody.position = .custody → s.slots[i].body = .assembling a → s.slots[i].assembly = some p →
    p.checking = false → custodian.toNat ∉ p.custodians → 1 ≤ custodian.toNat → custodian.toNat ≤ 8 →
    value.length = a.length →
    let final := decide (p.custodians.length + 1 = p.required)
    let p' := p.joined custodian.toNat value
    let t := s.withSlot i { s.slots[i] with assembly := some p' }
    exec .component s =
      .next (match check with
        | some c =>
          s.afterTaking.afterJoin (.componentCheck i custodian.toNat value c final false) (if final then 2 else 1)
            (.encipher value 0)
        | none =>
          if final then t.afterTaking.afterJoin (.finalCheck i) 1 (.encipher p'.accumulator 0)
          else
            t.afterReply (.ok kindComponent .none
              [u8 i.val, custodian, u8 (p.custodians.length + 1), u8 p.required])))

/-- COMPONENT_CHECK_END: a mismatch changes nothing and reports the 3 bytes computed (R23); a match combines the component,
and with the list full the final check follows in the same grant (R24, R25); a slot that a change to RUN emptied answers
NOT_IN_CUSTODY (R33). For an accumulator of another length than the component, which only a memory fault leaves, that it is
combined, the sum, and the key size of the final check are the model's choice, notes/assumptions/30.md. -/
def Obligations.ComponentCheckEnds : Prop :=
  ∀ (s : State) (g : CustodyGrant) (op : BlockOp) (i : SlotId) (custodian : Nat) (value : KeyValue) (check : CheckValue)
    (last ended : Bool), s.engine = .custody g → g.op = some op →
    s.custody.process = some (.componentCheck i custodian value check last ended) →
    (ended = true →
      exec .componentCheckEnd s = .next (s.afterGrant (.refused kindComponent .notInCustody []))) ∧
    (ended = false → firstThree op.result ≠ check →
      exec .componentCheckEnd s =
        .next (s.afterGrant
          (.refused kindComponent .componentMismatch (u8 custodian :: checkBytes (firstThree op.result))))) ∧
    ∀ (a : Attributes) (p : Assembly), ended = false → firstThree op.result = check →
      s.slots[i].body = .assembling a → s.slots[i].assembly = some p →
      let p' := p.joined custodian value
      let t := s.withSlot i { s.slots[i] with assembly := some p' }
      exec .componentCheckEnd s =
        .next (if p.custodians.length + 1 = p.required then
            { t with
              custody := { t.custody with process := some (.finalCheck i) }
              engine :=
                .custody
                  { planned := g.planned, performed := g.performed + 1, op := some (.encipher p'.accumulator 0) } }
          else
            t.afterGrant (.ok kindComponent .none
              [u8 i.val, u8 custodian, u8 (p.custodians.length + 1), u8 p.required]))

/-- FINAL_CHECK_END writes the outcome of the final check, whatever the filtered position (R26). -/
def Obligations.FinalCheckEnds : Prop :=
  ∀ (s : State) (g : CustodyGrant) (op : BlockOp) (i : SlotId) (a : Attributes) (p : Assembly),
    s.engine = .custody g → g.op = some op → s.custody.process = some (.finalCheck i) →
    s.slots[i].body = .assembling a → s.slots[i].assembly = some p →
    let computed := firstThree op.result
    (computed = p.expected →
      exec .finalCheckEnd s =
        .next ((s.withSlot i (Slot.fresh i
            (.active a { key := p.accumulator, check := computed, origin := .assembled, uses := 0 }))).afterGrant
          (.ok kindComponent .none ([u8 i.val, 2] ++ checkBytes computed)))) ∧
    (computed ≠ p.expected →
      exec .finalCheckEnd s =
        .next ((s.withSlot i (Slot.fresh i .empty)).afterGrant
          (.refused kindComponent .checkMismatch (checkBytes p.expected ++ checkBytes computed))))

/-- ASSEMBLY_CANCEL past the gate abandons an assembly whose checking flag is clear and refuses every other slot with
SLOT_STATE; SLOT_ERASE refuses an ASSEMBLING slot (R28). That a slot ASSEMBLING without an assembly part is refused is the
model's choice, notes/assumptions/28.md. -/
def Obligations.AssemblyCancelAbandonsAnAssembly : Prop :=
  (∀ (s : State) (i : SlotId), CustodyTakes s kindAssemblyCancel [u8 i.val] → s.mode = .operational →
    s.custody.position = .custody →
    ((∀ a p, ¬ (s.slots[i].body = .assembling a ∧ s.slots[i].assembly = some p)) →
      exec .assemblyCancel s = .next (s.afterRefusal kindAssemblyCancel .slotState)) ∧
    ∀ (a : Attributes) (p : Assembly), s.slots[i].body = .assembling a → s.slots[i].assembly = some p →
      exec .assemblyCancel s =
        .next (if p.checking then s.afterRefusal kindAssemblyCancel .slotState
          else
            (s.withSlot i (Slot.fresh i .empty)).afterReply
              (.ok kindAssemblyCancel .none [u8 i.val, u8 p.custodians.length]))) ∧
  ∀ (s : State) (i : SlotId) (a : Attributes), CustodyTakes s kindSlotErase [u8 i.val] → s.mode = .operational →
    s.custody.position = .custody → s.slots[i].body = .assembling a →
    exec .slotErase s = .next (s.afterRefusal kindSlotErase .slotState)

/-- The custody switch filter (R30): the raw contact reads CUSTODY while the CSW pin is low and RUN while it is high; a sample
equal to the filtered position sets the count to 0, one that differs raises it, and the eighth in a row confirms the change. A
change to CUSTODY does nothing more; a change to RUN empties every ASSEMBLING slot whose checking flag is clear (R32) and ends
a COMPONENT in process for such a slot (R33). One without an assembly part has no flag and is left: the model's choice,
notes/assumptions/28.md. -/
def Obligations.CustodySwitchIsFiltered : Prop :=
  (∀ (s : State) (v : Level) (vs : List Level),
    exec (.custodySwitchChange (v :: vs)) s = runCommands [.custodySwitchChange [v], .custodySwitchChange vs] s) ∧
  ∀ (s : State) (v : Level), s.mode.running = true →
    let x : SwitchPosition := match v with | .low => .custody | .high => .run
    let moved (position : SwitchPosition) (count : Nat) : State :=
      { s with custody := { s.custody with position := position, count := count } }
    (x = s.custody.position → exec (.custodySwitchChange [v]) s = .next (moved x 0)) ∧
    (x ≠ s.custody.position → s.custody.count + 1 < 8 →
      exec (.custodySwitchChange [v]) s = .next (moved s.custody.position (s.custody.count + 1))) ∧
    (x ≠ s.custody.position → 8 ≤ s.custody.count + 1 → x = .custody →
      exec (.custodySwitchChange [v]) s = .next (moved .custody 0)) ∧
    (x ≠ s.custody.position → 8 ≤ s.custody.count + 1 → x = .run →
      let emptied : Vector Slot 48 := Vector.ofFn fun i : SlotId => if s.slots[i].unchecked then Slot.fresh i .empty else s.slots[i]
      let c := s.custody
      exec (.custodySwitchChange [v]) s =
        .next (match c.process, s.engine with
          | some (.componentCheck i n v k last ended), .custody _ =>
            { s with
              slots := emptied
              custody :=
                { c with
                  position := .run, count := 0
                  process := some (.componentCheck i n v k last (ended || s.slots[i].unchecked)) } }
          | some (.componentCheck i _ _ _ _ _), _ =>
            if s.slots[i].unchecked then
              { s with
                slots := emptied
                requesters := s.requesters &&& 15
                custody :=
                  { c with
                    position := .run, count := 0, process := none
                    link := { c.link with buffer := some (.refused kindComponent .notInCustody []) } } }
            else { s with slots := emptied, custody := { c with position := .run, count := 0 } }
          | _, _ => { s with slots := emptied, custody := { c with position := .run, count := 0 } }))

/-! ### Storage keys and tokens -/

/-- INITIALISE past the gate draws a storage key and waits for one block operation, the encipherment of sixteen 0xA5 bytes
under it (R38, R40, R41); its end writes the record, with generation 1 and no previous part, and the device is OPERATIONAL.
STORAGE_ROLL past the gate is refused with GENERATION_LIMIT at generation 65535; else it draws a key and waits for its pattern
in the same way, and its end makes the current key the previous one and the drawn key the current one, one generation up
(R42). The drawn key is a free value: notes/assumptions/6.md. -/
def Obligations.StorageKeysAreDrawnAndWritten : Prop :=
  ((∀ s : State, CustodyTakes s kindInitialise [] → s.mode = .uninitialised → s.custody.position = .custody →
    let drawn := Config.drawnKey s.draws
    exec .initialise s =
      .next ({ s.afterTaking with draws := s.draws + 1 }.afterJoin (.initialise drawn) 1
        (.encipher (.k32 drawn) 0xA5A5A5A5A5A5A5A5A5A5A5A5A5A5A5A5))) ∧
  ∀ (s : State) (g : CustodyGrant) (op : BlockOp) (drawn : BitVec 256), s.engine = .custody g → g.op = some op →
    s.custody.process = some (.initialise drawn) →
    exec .initialisePatternEnd s =
      .next ({ s with
          storage :=
            { current := some { key := drawn, generation := 1, pattern := firstEight op.result }, previous := none }
          mode := .operational }.afterGrant
        (.ok kindInitialise .none (be 2 1 ++ patternBytes (firstEight op.result))))) ∧
  ((∀ (s : State) (k : StorageKey), CustodyTakes s kindStorageRoll [] → s.mode = .operational →
    s.custody.position = .custody → s.storage.current = some k →
    let drawn := Config.drawnKey s.draws
    (65535 ≤ k.generation → exec .storageRoll s = .next (s.afterRefusal kindStorageRoll .generationLimit)) ∧
    (k.generation < 65535 →
      exec .storageRoll s =
        .next ({ s.afterTaking with draws := s.draws + 1 }.afterJoin (.storageRoll drawn) 1
          (.encipher (.k32 drawn) 0xA5A5A5A5A5A5A5A5A5A5A5A5A5A5A5A5)))) ∧
  ∀ (s : State) (g : CustodyGrant) (op : BlockOp) (drawn : BitVec 256) (old : StorageKey), s.engine = .custody g →
    g.op = some op → s.custody.process = some (.storageRoll drawn) → s.storage.current = some old →
    exec .storageRollPatternEnd s =
      .next ({ s with
          storage :=
            { current := some { key := drawn, generation := old.generation + 1, pattern := firstEight op.result }
              previous := some old } }.afterGrant
        (.ok kindStorageRoll .none
          (be 2 (old.generation + 1) ++ patternBytes (firstEight op.result) ++ be 2 old.generation))))

/-- TOKEN_EXPORT past the gate refuses a slot that is not ACTIVE with SLOT_STATE, and forms the header and waits for the
operation of W1 otherwise (R44, R46); the operations' ends form W1 and, for a 32-byte key, W2, and the last answers the token
(R45). K2 of a key value that a memory fault left too short is a free value: notes/assumptions/30.md. The token keeps the
attributes and the check value found at taking, though a memory fault rewrites the record meanwhile: the model's choice,
notes/assumptions/33.md. -/
def Obligations.TokenExportWrapsTheKey : Prop :=
  (∀ (s : State) (i : SlotId), CustodyTakes s kindTokenExport [u8 i.val] → s.mode = .operational →
    (s.slots[i].isActive = false →
      exec .tokenExport s = .next (s.afterRefusal kindTokenExport .slotState)) ∧
    ∀ (a : Attributes) (c : Contents) (k : StorageKey), s.slots[i].body = .active a c → s.storage.current = some k →
      let header := tokenHeader a k.generation k.pattern
      exec .tokenExport s =
        .next (s.afterTaking.afterJoin (.tokenExport i a header c.check none)
          (match a.length with | .len16 => 1 | .len32 => 2)
          (.encipher (.k32 k.key) (c.key.firstBlock ^^^ header)))) ∧
  ∀ (s : State) (g : CustodyGrant) (op : BlockOp) (i : SlotId) (a : Attributes) (header : Block) (check : CheckValue),
    s.engine = .custody g → g.op = some op →
    (s.custody.process = some (.tokenExport i a header check none) → a.length = .len16 →
      exec .tokenExportOperationEnd s =
        .next (s.afterGrant
          (.ok kindTokenExport .none (u8 i.val :: tokenBytes header op.result none check)))) ∧
    (∀ (k : StorageKey) (a' : Attributes) (c : Contents),
      s.custody.process = some (.tokenExport i a header check none) → a.length = .len32 →
      s.storage.current = some k → s.slots[i].body = .active a' c →
      exec .tokenExportOperationEnd s =
        .next
          { s with
            custody := { s.custody with process := some (.tokenExport i a header check (some op.result)) }
            engine :=
              .custody
                { planned := g.planned, performed := g.performed + 1
                  op := some (.encipher (.k32 k.key) (c.key.secondBlock ^^^ op.result)) } }) ∧
    ∀ w1 : Block, s.custody.process = some (.tokenExport i a header check (some w1)) →
      exec .tokenExportOperationEnd s =
        .next (s.afterGrant
          (.ok kindTokenExport .none (u8 i.val :: tokenBytes header w1 (some op.result) check)))

/-- TOKEN_IMPORT past the gate: SLOT_STATE for a slot that is not EMPTY, MALFORMED for bytes that are no token (R44, R47),
then the match by pattern, current first: a matched token waits to be unwrapped under the key that matched, an unmatched one
is STALE_TOKEN (R48). Its operations (R45, R49): K1 from W1, K2 from W2 for a 32-byte key, each under the key that matched,
and the check value of the recovered key; the last writes the outcome, the slot ACTIVE or TOKEN_CORRUPT (R50). That the last
does so whatever a memory fault left in the slot meanwhile is the model's choice: notes/assumptions/34.md. -/
def Obligations.TokenImportMatchesAndUnwraps : Prop :=
  (∀ (s : State) (i : SlotId) (t : List Byte) (k : StorageKey), CustodyTakes s kindTokenImport (u8 i.val :: t) →
    s.mode = .operational → s.custody.position = .custody → s.storage.current = some k →
    let isToken (a : Attributes) (generation : Nat) (pattern : Pattern) (w1 : Block) (w2 : Option Block)
        (check : CheckValue) : Prop :=
      a.kind.Valid ∧ 1 ≤ generation ∧ generation ≤ 65535 ∧ (w2.isSome = true ↔ a.length = .len32) ∧
        t = tokenBytes (tokenHeader a generation pattern) w1 w2 check
    (s.slots[i].body ≠ .empty → exec .tokenImport s = .next (s.afterRefusal kindTokenImport .slotState)) ∧
    (s.slots[i].body = .empty → (∀ a generation pattern w1 w2 check, ¬ isToken a generation pattern w1 w2 check) →
      exec .tokenImport s = .next (s.afterRefusal kindTokenImport .malformed)) ∧
    (s.slots[i].body = .empty → ∀ a generation pattern w1 w2 check, isToken a generation pattern w1 w2 check →
      let token : Token :=
        { header := tokenHeader a generation pattern, attrs := a, generation := generation, pattern := pattern
          w1 := w1, w2 := w2, check := check }
      let planned := match a.length with | .len16 => 2 | .len32 => 3
      (k.pattern = pattern →
        exec .tokenImport s =
          .next (s.afterTaking.afterJoin (.tokenImport i token false k.generation none none) planned
            (.decipher (.k32 k.key) w1))) ∧
      (∀ v, k.pattern ≠ pattern → s.storage.previous = some v → v.pattern = pattern →
        exec .tokenImport s =
          .next (s.afterTaking.afterJoin (.tokenImport i token true v.generation none none) planned
            (.decipher (.k32 v.key) w1))) ∧
      (k.pattern ≠ pattern → (∀ v, s.storage.previous = some v → v.pattern ≠ pattern) →
        exec .tokenImport s =
          .next (s.afterReply (.refused kindTokenImport .staleToken (be 2 generation ++ be 2 k.generation)))))) ∧
  (∀ (s : State) (g : CustodyGrant) (op : BlockOp) (i : SlotId) (token : Token) (old : Bool) (n : Nat),
    s.engine = .custody g → g.op = some op →
    let goesOn (k1 k2 : Option Block) (next : BlockOp) : State :=
      { s with
        custody := { s.custody with process := some (.tokenImport i token old n k1 k2) }
        engine := .custody { planned := g.planned, performed := g.performed + 1, op := some next } }
    let ended (key : KeyValue) : State :=
      if firstThree op.result = token.check then
        (s.withSlot i (Slot.fresh i
            (.active token.attrs { key := key, check := token.check, origin := .imported, uses := 0 }))).afterGrant
          (if old then
            .ok kindTokenImport .oldGeneration
              ([u8 i.val, token.attrs.kind.byte] ++ checkBytes token.check ++ be 2 n
                ++ be 2 (match s.storage.current with | none => 0 | some k => k.generation))
          else .ok kindTokenImport .none ([u8 i.val, token.attrs.kind.byte] ++ checkBytes token.check))
      else s.afterGrant (.refused kindTokenImport .tokenCorrupt (be 2 n))
    (s.custody.process = some (.tokenImport i token old n none none) → token.w2 = none →
      exec .tokenImportOperationEnd s =
        .next (goesOn (some (op.result ^^^ token.header)) none (.encipher (.k16 (op.result ^^^ token.header)) 0))) ∧
    (∀ (w2 : Block) (k : StorageKey), s.custody.process = some (.tokenImport i token old n none none) →
      token.w2 = some w2 → (if old then s.storage.previous else s.storage.current) = some k →
      exec .tokenImportOperationEnd s =
        .next (goesOn (some (op.result ^^^ token.header)) none (.decipher (.k32 k.key) w2))) ∧
    (∀ w2 a : Block, s.custody.process = some (.tokenImport i token old n (some a) none) → token.w2 = some w2 →
      exec .tokenImportOperationEnd s =
        .next (goesOn (some a) (some (op.result ^^^ token.w1))
          (.encipher (.k32 (a ++ (op.result ^^^ token.w1))) 0))) ∧
    (∀ a : Block, s.custody.process = some (.tokenImport i token old n (some a) none) → token.w2 = none →
      exec .tokenImportOperationEnd s = .next (ended (.k16 a))) ∧
    ∀ w2 a b : Block, s.custody.process = some (.tokenImport i token old n (some a) (some b)) →
      token.w2 = some w2 → exec .tokenImportOperationEnd s = .next (ended (.k32 (a ++ b))))

/-! ### Warrants -/

/-- The first checks of the warrant commands (R59): the device state for all eight, then PARAMETER for id 0 and
NO_SUCH_WARRANT for an id no record carries, for those that name a warrant. -/
def Obligations.WarrantCommandsAreChecked : Prop :=
  (∀ (s : State) (kind : Byte) (c : Instr) (body : List Byte),
    (kind, c) ∈ (0x40, .warrantOpen) :: (0x47, .warrantList) :: namingCommands → CustodyTakes s kind body →
    bodyFits kind body = true →
    (s.mode = .uninitialised → exec c s = .next (s.afterRefusal kind .uninitialised)) ∧
    (s.mode = .locked → exec c s = .next (s.afterRefusal kind .locked))) ∧
  ∀ (s : State) (kind : Byte) (c : Instr) (id : Byte) (rest : List Byte), (kind, c) ∈ namingCommands →
    CustodyTakes s kind (id :: rest) → bodyFits kind (id :: rest) = true → s.mode = .operational →
    (id = 0 → exec c s = .next (s.afterRefusal kind .parameter)) ∧
    (id ≠ 0 → (∀ w ∈ s.warrants, w.id ≠ id.toNat) → exec c s = .next (s.afterRefusal kind .noSuchWarrant))

/-- WARRANT_OPEN in OPERATIONAL makes the checks of R60 in order and then adds the record and counts its master slot once more
(R61). The serial number is the model's own: notes/assumptions/16.md. A count that a memory fault has changed:
notes/assumptions/29.md. -/
def Obligations.WarrantOpenAddsARecord : Prop :=
  ∀ (s : State) (id issuer master lanes : Byte) (total : Nat) (digits : List Byte), total < 4294967296 →
    digits.length < 256 →
    CustodyTakes s kindWarrantOpen
      ([id, issuer, master] ++ be 4 total ++ u8 digits.length :: digits ++ [lanes]) → s.mode = .operational →
    let inRange : Bool :=
      1 ≤ id.toNat && 1 ≤ issuer.toNat && issuer.toNat ≤ 30 && 1 ≤ total && total ≤ 1000000
        && (digits.isEmpty || (4 ≤ digits.length && digits.length ≤ 10 && digits.all fun d => d.toNat ≤ 9))
        && 1 ≤ lanes.toNat && lanes.toNat ≤ 15
    (47 < master.toNat → exec .warrantOpen s = .next (s.afterRefusal kindWarrantOpen .parameter)) ∧
    ∀ m : SlotId, master = u8 m.val →
      let w : Warrant :=
        { serial := s.nextSerial, id := id.toNat, issuer := issuer.toNat, master := m, total := total, delivered := 0
          digits := if digits = [] then none else some digits, lanes := lanes.setWidth 4, state := .opened }
      exec .warrantOpen s =
        .next (
          if inRange = false then s.afterRefusal kindWarrantOpen .parameter
          else if s.warrants.any (fun x => x.id == id.toNat) then s.afterRefusal kindWarrantOpen .idInUse
          else if 32 ≤ s.warrants.length then s.afterRefusal kindWarrantOpen .tableFull
          else
            match s.slots[m].body with
            | .active a _ =>
              match a.kind with
              | .transport => s.afterRefusal kindWarrantOpen .slotKind
              | .derivation _ i =>
                if i ≠ issuer.toNat then s.afterRefusal kindWarrantOpen .issuerMismatch
                else
                  { s.withRefs m (s.slots[m].refs + 1) with
                    warrants := insertWarrant w s.warrants, nextSerial := s.nextSerial + 1 }.afterReply
                    (.ok kindWarrantOpen .none ([id] ++ be 4 total ++ [u8 (s.warrants.length + 1)]))
            | _ => s.afterRefusal kindWarrantOpen .slotState)

/-- WARRANT_HOLD moves an OPEN warrant to HELD and refuses the others with WARRANT_STATE (R62). WARRANT_EXTEND: PARAMETER for
an add outside 1 to 1,000,000, WARRANT_STATE for a CLOSED warrant, else the total is raised, capped at 1,000,000 with CLAMPED,
and an EXHAUSTED warrant with cards again is OPEN (R64). WARRANT_CLOSE closes a live warrant BY_COMMAND, counts its master
slot once less, and refuses a CLOSED one with WARRANT_STATE (R65). That a count which a memory fault left at 0 stays at 0 is
the model's choice: notes/assumptions/29.md. -/
def Obligations.WarrantsAreHeldExtendedAndClosed : Prop :=
  (∀ (s : State) (id : Byte) (w : Warrant), CustodyTakes s kindWarrantHold [id] → s.mode = .operational → id ≠ 0 →
    s.warrant id.toNat = some w →
    (w.state = .opened →
      exec .warrantHold s =
        .next ({ s with warrants := changed s.warrants w.id fun (x : Warrant) => { x with state := .held } }.afterReply
          (.ok kindWarrantHold .none ([id, 2] ++ be 4 w.total ++ be 4 w.delivered)))) ∧
    (w.state ≠ .opened → exec .warrantHold s = .next (s.afterRefusal kindWarrantHold .warrantState))) ∧
  (∀ (s : State) (id : Byte) (add : Nat) (w : Warrant), add < 4294967296 →
    CustodyTakes s kindWarrantExtend (id :: be 4 add) → s.mode = .operational → id ≠ 0 →
    s.warrant id.toNat = some w →
    (add < 1 ∨ 1000000 < add → exec .warrantExtend s = .next (s.afterRefusal kindWarrantExtend .parameter)) ∧
    (1 ≤ add → add ≤ 1000000 → (∃ r, w.state = .closed r) →
      exec .warrantExtend s = .next (s.afterRefusal kindWarrantExtend .warrantState)) ∧
    (1 ≤ add → add ≤ 1000000 → (∀ r, w.state ≠ .closed r) →
      let total := min (w.total + add) 1000000
      let state : WarrantState := if w.state = WarrantState.exhausted ∧ w.delivered < total then .opened else w.state
      exec .warrantExtend s =
        .next ({ s with
            warrants := changed s.warrants w.id fun (x : Warrant) =>
              { x with
                total := min (x.total + add) 1000000
                state :=
                  if x.state = WarrantState.exhausted ∧ x.delivered < min (x.total + add) 1000000 then WarrantState.opened else x.state } }.afterReply
          (.ok kindWarrantExtend (if total < w.total + add then .clamped else .none)
            ([id, state.byte] ++ be 4 total ++ be 4 (total - w.delivered)))))) ∧
  (∀ (s : State) (id : Byte) (w : Warrant), CustodyTakes s kindWarrantClose [id] → s.mode = .operational → id ≠ 0 →
    s.warrant id.toNat = some w →
    ((∃ r, w.state = .closed r) → exec .warrantClose s = .next (s.afterRefusal kindWarrantClose .warrantState)) ∧
    ((∀ r, w.state ≠ .closed r) →
      exec .warrantClose s =
        .next ({ s.withRefs w.master (s.slots[w.master].refs - 1) with
            warrants := changed s.warrants w.id fun (x : Warrant) => { x with state := .closed .byCommand } }.afterReply
          (.ok kindWarrantClose .none
            ([id] ++ be 4 w.total ++ be 4 w.delivered ++ be 4 (w.total - w.delivered))))))

/-- WARRANT_RELEASE moves a HELD warrant back to OPEN and refuses the others with WARRANT_STATE (R63). -/
def Obligations.WarrantReleaseResumesAJob : Prop :=
  ∀ (s : State) (id : Byte) (w : Warrant), CustodyTakes s kindWarrantRelease [id] → s.mode = .operational → id ≠ 0 →
    s.warrant id.toNat = some w →
    (w.state = .held →
      exec .warrantRelease s =
        .next ({ s with warrants := changed s.warrants w.id fun (x : Warrant) => { x with state := .opened } }.afterReply
          (.ok kindWarrantRelease .none ([id, 1] ++ be 4 w.total ++ be 4 w.delivered)))) ∧
    (w.state ≠ .held → exec .warrantRelease s = .next (s.afterRefusal kindWarrantRelease .warrantState))

/-- WARRANT_PURGE removes a CLOSED record with all its fields and refuses a live one with WARRANT_STATE (R66). -/
def Obligations.WarrantPurgeRemovesARecord : Prop :=
  ∀ (s : State) (id : Byte) (w : Warrant), CustodyTakes s kindWarrantPurge [id] → s.mode = .operational → id ≠ 0 →
    s.warrant id.toNat = some w →
    ((∀ r, w.state ≠ .closed r) → exec .warrantPurge s = .next (s.afterRefusal kindWarrantPurge .warrantState)) ∧
    ∀ r : CloseReason, w.state = .closed r →
      exec .warrantPurge s =
        .next ({ s with warrants := s.warrants.filter fun x => x.id != w.id }.afterReply
          (.ok kindWarrantPurge .none ([id, r.byte] ++ be 4 w.delivered)))

/-- WARRANT_STATUS in both forms (R67) and WARRANT_LIST (R68): what each reports, in OPERATIONAL; a lane is told neither
master slot nor lane set, and a warrant that does not admit it is as one that does not exist. -/
def Obligations.WarrantReports : Prop :=
  (∀ (s : State) (id : Byte) (w : Warrant), CustodyTakes s kindWarrantStatus [id] → s.mode = .operational → id ≠ 0 →
    s.warrant id.toNat = some w →
    exec (.warrantStatus .custody) s =
      .next (s.afterReply (.ok kindWarrantStatus .none
        ([id, w.state.byte, u8 w.issuer, u8 w.master.val, w.lanes.setWidth 8] ++ digitField w.digits ++ be 4 w.total
          ++ be 4 w.delivered ++ be 4 (w.total - w.delivered) ++ [w.state.reasonByte])))) ∧
  (∀ (s : State) (l : LaneId) (id : Byte), LaneTakes s l kindWarrantStatus [id] →
    let refusal (c : Code) : Res := .next (s.afterLaneReply l (.refused kindWarrantStatus c []))
    (s.mode = .uninitialised → exec (.warrantStatus (.lane l)) s = refusal .uninitialised) ∧
    (s.mode = .locked → exec (.warrantStatus (.lane l)) s = refusal .locked) ∧
    (s.mode = .operational → id = 0 → exec (.warrantStatus (.lane l)) s = refusal .parameter) ∧
    (s.mode = .operational → id ≠ 0 → (∀ w, s.warrant id.toNat = some w → inLaneSet w.lanes l = false) →
      exec (.warrantStatus (.lane l)) s = refusal .noSuchWarrant) ∧
    ∀ w : Warrant, s.mode = .operational → id ≠ 0 → s.warrant id.toNat = some w → inLaneSet w.lanes l = true →
      exec (.warrantStatus (.lane l)) s =
        .next (s.afterLaneReply l (.ok kindWarrantStatus .none
          ([id, w.state.byte, u8 w.issuer] ++ digitField w.digits ++ be 4 w.total ++ be 4 w.delivered
            ++ be 4 (w.total - w.delivered) ++ [w.state.reasonByte])))) ∧
  ∀ s : State, CustodyTakes s kindWarrantList [] → s.mode = .operational →
    exec .warrantList s =
      .next (s.afterReply (.ok kindWarrantList .none
        (u8 s.warrants.length :: s.warrants.flatMap fun w =>
          [u8 w.id, w.state.byte, u8 w.issuer, u8 w.master.val] ++ be 4 w.total ++ be 4 w.delivered
            ++ [w.state.reasonByte])))

/-! ### Lanes and runs -/

/-- LANE_BIND makes the checks of R97 in order; one that passes moves the references, replaces the binding and resets the
chain, all in one step (R98). That a count which a memory fault left at 0 is not lowered is the model's choice:
notes/assumptions/29.md. -/
def Obligations.LaneBindReplacesTheBinding : Prop :=
  ∀ (s : State) (lane slot cls : Byte) (issuers : IssuerSet) (initial : Block),
    CustodyTakes s kindLaneBind ([lane, slot, cls] ++ be 4 issuers.toNat ++ blockBytes initial) →
    (s.mode = .uninitialised → exec .laneBind s = .next (s.afterRefusal kindLaneBind .uninitialised)) ∧
    (s.mode = .locked → exec .laneBind s = .next (s.afterRefusal kindLaneBind .locked)) ∧
    (s.mode = .operational →
      (3 < lane.toNat ∨ 47 < slot.toNat ∨ (cls ≠ 1 ∧ cls ≠ 2) ∨ issuers = 0 ∨ issuers.getLsbD 0 = true ∨
        issuers.getLsbD 31 = true) →
      exec .laneBind s = .next (s.afterRefusal kindLaneBind .parameter)) ∧
    ∀ (l : LaneId) (i : SlotId) (c : Priority), s.mode = .operational → lane = u8 l.val → slot = u8 i.val →
      cls = c.byte → issuers ≠ 0 → issuers.getLsbD 0 = false → issuers.getLsbD 31 = false →
      (s.lanes[l].run.isSome = true → exec .laneBind s = .next (s.afterRefusal kindLaneBind .laneBusy)) ∧
      (s.lanes[l].run = none → s.slots[i].isActive = false →
        exec .laneBind s = .next (s.afterRefusal kindLaneBind .slotState)) ∧
      ∀ (a : Attributes) (x : Contents), s.lanes[l].run = none → s.slots[i].body = .active a x →
        (a.kind ≠ .transport → exec .laneBind s = .next (s.afterRefusal kindLaneBind .slotKind)) ∧
        (a.kind = .transport →
          let lowered : State :=
            match s.lanes[l].transport with
            | none => s
            | some j => s.withRefs j (s.slots[j].refs - 1)
          let moved : State :=
            if s.lanes[l].transport = some i then s else lowered.withRefs i (lowered.slots[i].refs + 1)
          exec .laneBind s =
            .next ({ moved with
                lanes := s.lanes.set l
                  { s.lanes[l] with
                    transport := some i, cls := c, issuers := issuers, initial := initial, chain := initial
                    epoch := s.lanes[l].epoch + 1, position := 0 } }.afterReply
              (.ok kindLaneBind .none
                ([lane, slot] ++ checkBytes x.check ++ [cls, s.lanes[l].epoch + 1]))))

/-- LANE_UNBIND makes its checks in order; one that passes counts the transport slot once less and leaves the lane UNBOUND
with its other fields kept, and a RUN taken after it is refused with NOT_BOUND (R99). That a count which a memory fault left
at 0 stays at 0 is the model's choice: notes/assumptions/29.md. -/
def Obligations.LaneUnbindFreesTheLane : Prop :=
  (∀ (s : State) (lane : Byte), CustodyTakes s kindLaneUnbind [lane] →
    (s.mode = .uninitialised → exec .laneUnbind s = .next (s.afterRefusal kindLaneUnbind .uninitialised)) ∧
    (s.mode = .locked → exec .laneUnbind s = .next (s.afterRefusal kindLaneUnbind .locked)) ∧
    (s.mode = .operational → 3 < lane.toNat →
      exec .laneUnbind s = .next (s.afterRefusal kindLaneUnbind .parameter)) ∧
    ∀ l : LaneId, s.mode = .operational → lane = u8 l.val →
      (s.lanes[l].transport = none → exec .laneUnbind s = .next (s.afterRefusal kindLaneUnbind .notBound)) ∧
      ∀ i : SlotId, s.lanes[l].transport = some i →
        (s.lanes[l].run.isSome = true →
          exec .laneUnbind s = .next (s.afterRefusal kindLaneUnbind .laneBusy)) ∧
        (s.lanes[l].run = none →
          exec .laneUnbind s =
            .next ({ s.withRefs i (s.slots[i].refs - 1) with
                lanes := s.lanes.set l { s.lanes[l] with transport := none } }.afterReply
              (.ok kindLaneUnbind .none ([lane, s.lanes[l].epoch] ++ be 4 s.lanes[l].position.toNat))))) ∧
  ∀ (s : State) (l : LaneId) (body : List Byte), LaneTakes s l kindRun body → s.mode = .operational →
    s.lanes[l].transport = none →
    exec (.run l) s = .next (s.afterLaneReply l (.refused kindRun .notBound [body.headD 0]))

/-- SET_QUANTUM is refused with LOCKED in LOCKED; else the value is rounded down to a multiple of 3 and brought into 3 to 48,
and the reply gives the quantum before and now, with CLAMPED if it differs from the value sent (R94). A grant in flight keeps
its budget. -/
def Obligations.SetQuantumRoundsAndClamps : Prop :=
  ∀ (s : State) (v : Byte), CustodyTakes s kindSetQuantum [v] →
    let down := v.toNat - v.toNat % 3
    let q := if down < 3 then 3 else if 48 < down then 48 else down
    (s.mode = .locked → exec .setQuantum s = .next (s.afterRefusal kindSetQuantum .locked)) ∧
    (s.mode = .operational ∨ s.mode = .uninitialised →
      exec .setQuantum s =
        .next ({ s with quantum := q }.afterReply
          (.ok kindSetQuantum (if q = v.toNat then .none else .clamped) [u8 s.quantum, u8 q])))

/-- RUN makes the acceptance checks of R106 in order, a refusal carrying the run tag; an accepted run is recorded from its
first entry, QUEUED and tied to the record found, and waits for the engine, with no reply (R107, R108). -/
def Obligations.RunIsAcceptedOrRefused : Prop :=
  ∀ (s : State) (l : LaneId) (body : List Byte), LaneTakes s l kindRun body →
    (s.engine = .idle → s.requesters = 0) →
    let refusal (c : Code) : Res := .next (s.afterLaneReply l (.refused kindRun c [body.headD 0]))
    (s.mode = .uninitialised → exec (.run l) s = refusal .uninitialised) ∧
    (s.mode = .locked → exec (.run l) s = refusal .locked) ∧
    (s.mode = .operational → s.lanes[l].transport = none → exec (.run l) s = refusal .notBound) ∧
    (s.mode = .operational → s.lanes[l].transport.isSome = true →
      (∀ f : RunForm, 1 ≤ f.entries.length → f.entries.length ≤ 16 → (∀ e ∈ f.entries, e.digits.length ≤ 19) →
        body ≠ f.bytes) →
      exec (.run l) s = refusal .malformed) ∧
    ∀ f : RunForm, s.mode = .operational → s.lanes[l].transport.isSome = true → 1 ≤ f.entries.length →
      f.entries.length ≤ 16 → (∀ e ∈ f.entries, e.digits.length ≤ 19) → body = f.bytes →
      (s.warrant f.warrant.toNat = none → exec (.run l) s = refusal .noSuchWarrant) ∧
      ∀ w : Warrant, s.warrant f.warrant.toNat = some w →
        exec (.run l) s =
          (if inLaneSet w.lanes l = false then refusal .laneNotPermitted
          else if inIssuerSet s.lanes[l].issuers w.issuer = false then refusal .issuerNotPermitted
          else if w.state ≠ .opened then refusal .warrantNotOpen
          else
            let x := s.lanes[l]
            .next ({ s with lanes := s.lanes.set l { x with link := { x.link with fifo := x.link.fifo.tail } } }.afterLaneJoin
              l
              { tag := f.tag, tie := w.serial, entries := f.entries, next := 1, state := .queued, stopMark := false
                endReason := none }))

/-- LANE_STATUS reports one reading of the lane context, without transport slot, issuer set or chaining values, and changes no
field; a lane that waited leaves the pending set for the reply (R108, R115). -/
def Obligations.LaneStatusReportsTheLane : Prop :=
  ∀ (s : State) (l : LaneId), LaneTakes s l kindLaneStatus [] →
    let x := s.lanes[l]
    exec (.laneStatus l) s =
      .next (s.afterLaneReply l (.laneStatus (
        [s.mode.byte, if x.transport.isSome then 1 else 0, if x.transport.isSome then x.cls.byte else 0, x.epoch]
          ++ be 4 x.position.toNat
          ++ (match x.run with
            | none => [0, 0, 0, 0]
            | some r => [r.state.byte, r.tag, u8 r.next, if r.stopMark then 1 else 0])
          ++ (match x.last with
            | none => [0, 0, 0]
            | some y => [y.tag, u8 y.next, y.reason.byte])
          ++ [if x.link.overrun then 1 else 0, u8 x.link.frameErrors])))

/-- RUN_STOP acts on the lane's run as it stands, and one taken while the stop mark is set does nothing more (R112). One taken
within the walk of the lane's grant, past the warrant check of an entry that is still to come (R91, R113), is kept for that
moment, the earlier of two standing (notes/assumptions/31.md); what the walk makes of it is WalkTakesOneEntryAtATime. One
whose moment has passed, or with no grant of the lane, acts as ever. -/
def Obligations.RunStopActsOnTheRun : Prop :=
  ∀ (s : State) (l : LaneId), s.mode.running = true →
    (s.lanes[l].run = none → exec (.runStop ⟨l, none⟩) s = .next s) ∧
    (∀ n : Nat,
      let next (g : RunGrant) : Nat := if g.stage = .opening then g.index else g.index + 1
      (∀ g : RunGrant, s.engine = .lane g → g.lane = l → next g ≤ n →
        exec (.runStop ⟨l, some n⟩) s =
          .next { s with engine := .lane { g with stopAt := some (match g.stopAt with | none => n | some m => min m n) } }) ∧
      ((∀ g : RunGrant, s.engine = .lane g → g.lane = l → n < next g) →
        exec (.runStop ⟨l, some n⟩) s = exec (.runStop ⟨l, none⟩) s)) ∧
    ∀ r : Run, s.lanes[l].run = some r →
      let withLane (x : Lane) : State := { s with lanes := s.lanes.set l x }
      (r.state = .queued →
        exec (.runStop ⟨l, none⟩) s =
          .next { withLane { s.lanes[l] with run := none, last := some ⟨r.tag, r.next, .stopped⟩ } with
            requesters := s.requesters &&& ~~~(BitVec.twoPow 5 l.val) }) ∧
      (r.state = .active →
        exec (.runStop ⟨l, none⟩) s = .next (withLane { s.lanes[l] with run := some { r with stopMark := true } })) ∧
      (r.state = .drainingMore → r.stopMark = false →
        exec (.runStop ⟨l, none⟩) s =
          .next (withLane
            { s.lanes[l] with run := some { r with stopMark := true, endReason := some .stopped } })) ∧
      (r.state = .drainingMore → r.stopMark = true → exec (.runStop ⟨l, none⟩) s = .next s) ∧
      (r.state = .drainingFinal → exec (.runStop ⟨l, none⟩) s = .next s)

/-! ### The engine and card keys -/

/-- The arbiter's choice as a grant ends, whoever held it (R124, R125): custody, else the HIGH lane whose turn is first, else
the LOW lane; the chosen one leaves the pending set, and a lane moves its class's pointer (R126), becomes ACTIVE and takes the
quantum as its budget (R87); with nobody pending the engine is IDLE. `State.release` is the end of every grant: the statements
on custody operations and on the walk end in it, through `State.afterGrant` and `State.afterWalk`. GRANT leaves a custody
grant as it is, and at an IDLE engine makes the same choice; a lane's walk begins in that step (notes/assumptions/4.md). -/
def Obligations.EngineIsGrantedInOrder : Prop :=
  (∀ s : State,
    (∀ p : Process, s.waits .custody = true → s.custody.process = some p →
      s.release =
        { s with
          requesters := s.requesters &&& 15
          engine := .custody { planned := p.planned, performed := 0, op := s.custodyOp p } }) ∧
    (∀ (cls : Priority) (l : LaneId) (r : Run), s.waits .custody = false → s.waits (.lane l) = true →
      s.lanes[l].cls = cls → s.lanes[l].run = some r →
      (cls = .low → ∀ m : LaneId, s.waits (.lane m) = true → s.lanes[m].cls = .low) →
      (∀ m : LaneId, s.waits (.lane m) = true → s.lanes[m].cls = cls →
        turn (match cls with | .high => s.highPointer | .low => s.lowPointer) l ≤
          turn (match cls with | .high => s.highPointer | .low => s.lowPointer) m) →
      s.release =
        { s with
          requesters := s.requesters &&& ~~~(BitVec.twoPow 5 l.val)
          highPointer := if cls = .high then l else s.highPointer
          lowPointer := if cls = .low then l else s.lowPointer
          lanes := s.lanes.set l { s.lanes[l] with run := some { r with state := .active } }
          engine := .lane
            { lane := l, budget := s.quantum, used := 0, performed := 0, index := r.next, results := []
              master := match s.warrants.find? (fun w => w.serial == r.tie) with
                | none => none
                | some w => some w.master
              stage := .opening, stopAt := none } }) ∧
    (s.requesters = 0 → s.release = { s with engine := .idle })) ∧
  ∀ s : State, s.mode.running = true →
    (s.engine = .idle → s.release.engine ≠ .idle → exec .grant s = exec .grant s.release) ∧
    (s.engine = .idle → s.requesters = 0 → exec .grant s = .next s) ∧
    ∀ g : CustodyGrant, s.engine = .custody g → exec .grant s = .next s

/-- One boundary of the metering walk: the end of the list, then the stop mark, the warrant check, validation and the budget
check, in that order (R88 to R91). A refused entry is recorded and the walk goes on at the next; an entry that passes and fits
begins its derivation under the master key (R82). A RUN_STOP that falls together with the walk (`stopAt`: past the warrant
check of which entry it is taken) sets the stop mark there: the next boundary sees it, and a budget stop carries it into
DRAINING-MORE; one whose moment has not come at a budget stop is taken in DRAINING-MORE (R91, R112, R113;
notes/assumptions/31.md). That the walk up to the next delivery or its end is one step is 95_what_each_step_holds.md and
notes/assumptions/4.md. -/
def Obligations.WalkTakesOneEntryAtATime : Prop :=
  ∀ (s : State) (g : RunGrant) (r : Run), s.mode.running = true → s.engine = .lane g → g.stage = .opening →
    s.lanes[g.lane].run = some r → 1 ≤ g.index →
    let rest (status : EntryStatus) : List EntryResult :=
      (List.range (r.entries.length + 1 - g.index)).map fun k => { index := g.index + k, status := status }
    let past := r.entries.length + 1
    let final (results : List EntryResult) (reason : EndReason) : Res :=
      .next (s.afterWalk g r (g.results ++ results) past (some reason))
    let marked : Run := { r with stopMark := decide (g.stopAt = some g.index) }
    let lanes : Vector Lane 4 := s.lanes.set g.lane { s.lanes[g.lane] with run := some marked }
    (g.index = past → exec .grant s = final [] .complete) ∧
    ∀ e : Entry, r.entries[g.index - 1]? = some e →
      (r.stopMark = true → exec .grant s = final (rest .notReached) .stopped) ∧
      (r.stopMark = false →
        ((∀ w ∈ s.warrants, w.serial ≠ r.tie) → exec .grant s = final (rest .notReached) .warrantClosed) ∧
        ∀ w : Warrant, s.warrants.find? (fun x => x.serial == r.tie) = some w →
          ((∃ c, w.state = .closed c) → exec .grant s = final (rest .notReached) .warrantClosed) ∧
          (w.state = .held → exec .grant s = final (rest .notReached) .warrantHeld) ∧
          (w.state = .exhausted → exec .grant s = final (rest .quotaSpent) .quotaReached) ∧
          (∀ status : EntryStatus, w.state = .opened → e.refusal w.digits = some status →
            exec .grant s =
              exec .grant
                { s with
                  lanes := lanes
                  engine := .lane
                    { g with
                      index := g.index + 1
                      results := g.results ++ [{ index := g.index, status := status }] } }) ∧
          (w.state = .opened → e.refusal w.digits = none → g.budget < g.used + 3 →
            let ended := s.afterWalk g marked g.results g.index none
            exec .grant s =
              if g.stopAt = none ∨ g.stopAt = some g.index then .next ended
              else exec (.runStop ⟨g.lane, none⟩) ended) ∧
          ∀ (a : Attributes) (c : Contents) (purpose : Purpose) (issuer : Nat) (key : KeyValue), w.state = .opened →
            e.refusal w.digits = none → g.used + 3 ≤ g.budget → s.slots[w.master].body = .active a c →
            a.kind = .derivation purpose issuer → s.transportKey g.lane = some key →
            let packed := packDigits e.digits
            let d := derivationBlock issuer a.version packed e.sequence purpose
            exec .grant s =
              .next { s with
                lanes := lanes
                engine := .lane
                  { g with stage := .deriving { packed := packed, derivation := d } (.encipher c.key d) } })

/-- Validation makes its five checks in order and gives the status of the first that fails (R77): the digit count, the digits,
the sequence number, the check-digit test over positions counted from the right (R78), and the warrant's prefix (R79). The
packed field holds 20 nibbles, the digits right-aligned and 0xF on the left, and two identifiers never pack alike (R80); the
derivation block holds issuer tag, version, packed field, sequence number, purpose and 0x00 (R81). -/
def Obligations.CardDataAreValidatedAndPacked : Prop :=
  (∀ (e : Entry) (leading : Option (List Byte)),
    e.refusal leading =
      if e.digits.length < 13 ∨ 19 < e.digits.length then some .badLength
      else if ∃ d ∈ e.digits, 9 < d.toNat then some .badDigit
      else if 9999 < e.sequence.toNat then some .badSequence
      else if luhnSum e.digits % 10 ≠ 0 then some .badCheckDigit
      else if ∃ p, leading = some p ∧ ¬ p <+: e.digits then some .outsidePrefix
      else none) ∧
  ((∀ (digits : List Byte) (k : Nat), digits.length ≤ 19 → (∀ d ∈ digits, d.toNat ≤ 9) → k < 20 →
    (packDigits digits).toNat / 16 ^ (19 - k) % 16 =
      if k + digits.length < 20 then 15 else (digits.getD (k + digits.length - 20) 0).toNat) ∧
  (∀ a b : List Byte, a.length ≤ 19 → b.length ≤ 19 → (∀ d ∈ a, d.toNat ≤ 9) → (∀ d ∈ b, d.toNat ≤ 9) →
    packDigits a = packDigits b → a = b) ∧
  ∀ (issuer version : Byte) (packed : BitVec 80) (sequence : BitVec 16) (purpose : Purpose),
    blockBytes (derivationBlock issuer.toNat version packed sequence purpose) =
      [issuer, version] ++ be 10 packed.toNat ++ be 2 sequence.toNat ++ [purpose.byte, 0])

/-- The three operations of a delivered entry (R82 to R85). The first gives the card key, and the second its check value; the
third gives the keystream block: the card key is wrapped with it, and in one write the warrant is debited, both slots are
counted once more, the chain advances and the result is listed. Then the walk goes on from the next boundary in the same step
(95_what_each_step_holds.md, notes/assumptions/4.md). -/
def Obligations.DeliveredEntryMakesTheCardKey : Prop :=
  ∀ (s : State) (g : RunGrant) (w : Work) (op : BlockOp), s.engine = .lane g →
    (g.stage = .deriving w op →
      exec .cardKeyDerivationEnd s =
        .next { s with
          engine := .lane
            { g with
              performed := g.performed + 1
              stage := .checking w op.result (.encipher (.k16 op.result) 0) } }) ∧
    (∀ (ck : Block) (i : SlotId) (a : Attributes) (c : Contents), g.stage = .checking w ck op →
      s.lanes[g.lane].transport = some i → s.slots[i].body = .active a c →
      exec .cardCheckValueEnd s =
        .next { s with
          engine := .lane
            { g with
              performed := g.performed + 1
              stage := .keystream w ck (firstThree op.result) (.encipher c.key s.lanes[g.lane].chain) } }) ∧
    ∀ (ck : Block) (check : CheckValue) (r : Run) (m t : SlotId) (a b : Attributes) (c d : Contents),
      g.stage = .keystream w ck check op → s.mode.running = true → s.lanes[g.lane].run = some r →
      g.master = some m → s.lanes[g.lane].transport = some t → m ≠ t → s.slots[m].body = .active a c →
      s.slots[t].body = .active b d →
      let completed : State :=
        { s with
          warrants := s.warrants.map fun (x : Warrant) => if x.serial = r.tie then x.debited else x
          slots := (s.slots.set m (s.slots[m].used m a c)).set t (s.slots[t].used t b d)
          lanes := s.lanes.set g.lane
            { s.lanes[g.lane] with chain := op.result, position := s.lanes[g.lane].position + 1 }
          engine := .lane
            { g with
              used := g.used + 3, performed := g.performed + 1, index := g.index + 1
              results := g.results ++ [{ index := g.index, status := .delivered (ck ^^^ op.result) check }]
              stage := .opening } }
      exec .keystreamBlockEnd s = exec .grant completed ∧
        ∃ u : State, exec .keystreamBlockEnd s = .next u ∧ u.warrants = completed.warrants ∧ u.slots = completed.slots ∧
          u.lanes[g.lane].chain = op.result ∧ u.lanes[g.lane].position = s.lanes[g.lane].position + 1

/-! ### The Tamper Monitor and DEVICE_STATUS -/

/-- TAMPER_SETUP past the gate replaces all settings at once, or is refused with PARAMETER for a value that is not listed
(R146): a changed detection or filter takes the raw level with count 0, every quiet level becomes the filtered level, and a
changed threshold stops the timer and disarms the monitor. The layout of the reply is notes/assumptions/18.md. -/
def Obligations.TamperSetupReplacesTheSettings : Prop :=
  ∀ (s : State) (raw : BitVec 6) (body : List Byte), CustodyTakes s kindTamperSetup body → body.length = 20 →
    s.mode = .uninitialised ∨ s.mode = .operational → s.custody.position = .custody →
    let spells (n : Vector InputSettings 6) (threshold : Fin 8) (response : Response) : Prop :=
      body = n.toList.flatMap InputSettings.bytes ++ [u8 threshold.val, response.byte]
    ((∀ n threshold response, ¬ spells n threshold response) →
      exec (.tamperSetup raw) s = .next (s.afterRefusal kindTamperSetup .parameter)) ∧
    ∀ (n : Vector InputSettings 6) (threshold : Fin 8) (response : Response), spells n threshold response →
      let setUp (i : InputId) : TamperInput :=
        let old := s.tamper.inputs[i]
        let level : Level := if raw.getLsbD i.val then .high else .low
        if old.detection = n[i].detection ∧ old.filter = n[i].filter then
          { detection := n[i].detection, filter := n[i].filter, response := n[i].response, quiet := old.filtered
            filtered := old.filtered, count := old.count }
        else
          { detection := n[i].detection, filter := n[i].filter, response := n[i].response, quiet := level
            filtered := level, count := 0 }
      let kept : Bool := decide (s.tamper.threshold = threshold)
      exec (.tamperSetup raw) s =
        .next ({ s with
            tamper :=
              { s.tamper with
                inputs := Vector.ofFn setUp, threshold := threshold, supplyResponse := response
                armed := s.tamper.armed && kept, timer := s.tamper.timer && kept } }.afterReply
          (.ok kindTamperSetup .none (body ++ (List.finRange 6).map fun i => (setUp i).filtered.byte)))

/-- TAMPER_ACK past the gate clears the causes and keeps the event count; in LOCKED it is refused with QUIET_REQUIRED while an
ERASE-class input shows its active level or the supply is below the threshold, and else leads to UNINITIALISED (R147). An OFF
input shows no active level: notes/assumptions/24.md. -/
def Obligations.TamperAckClearsTheCauses : Prop :=
  ∀ s : State, CustodyTakes s kindTamperAck [] → s.custody.position = .custody →
    let quiet : Prop :=
      (∀ i : InputId, s.tamper.inputs[i].response = .erase →
        match s.tamper.inputs[i].detection with
        | .off => True
        | .fall => s.tamper.inputs[i].filtered = .high
        | .rise => s.tamper.inputs[i].filtered = .low
        | .either => s.tamper.inputs[i].filtered = s.tamper.inputs[i].quiet) ∧
      thresholdMv s.tamper.threshold ≤ s.vmain
    let cleared (m : Mode) : Res :=
      .next ({ s with tamper := { s.tamper with causes := 0, first := none }, mode := m }.afterReply
        (.ok kindTamperAck .none [causesByte s.tamper.causes, firstByte s.tamper.first, u8 s.tamper.events]))
    (s.mode = .locked → ¬ quiet → exec .tamperAck s = .next (s.afterRefusal kindTamperAck .quietRequired)) ∧
    (s.mode = .locked → quiet → exec .tamperAck s = cleared .uninitialised) ∧
    (s.mode = .uninitialised ∨ s.mode = .operational → exec .tamperAck s = cleared s.mode)

/-- DEVICE_STATUS is one reading of the whole part and changes nothing but its reply (R132, R149, R169). The layout of the
fields the manual leaves without one is notes/assumptions/18.md, and that an OFF input is never shown active is the model's
choice, notes/assumptions/24.md. -/
def Obligations.DeviceStatusReportsThePart : Prop :=
  ∀ s : State, CustodyTakes s kindDeviceStatus [] →
    let generation (k : Option StorageKey) : List Byte := match k with | none => [0, 0] | some k => be 2 k.generation
    let pattern (k : Option StorageKey) : List Byte :=
      match k with | none => List.replicate 8 0 | some k => patternBytes k.pattern
    let input (t : TamperInput) : List Byte :=
      let active : Bool :=
        match t.detection with
        | .off => false
        | .fall => decide (t.filtered = .low)
        | .rise => decide (t.filtered = .high)
        | .either => decide (t.filtered ≠ t.quiet)
      [t.detection.byte, t.filter.byte, t.response.byte, t.filtered.byte, if active then 1 else 0]
    let lane (x : Lane) : List Byte :=
      [if x.link.overrun then 1 else 0, u8 x.link.frameErrors, if x.link.buffer.isSome then 1 else 0]
    exec .deviceStatus s =
      .next (s.afterReply (.deviceStatus
        ([s.mode.byte, s.custody.position.byte]
          ++ (match s.engine with | .idle => [0, 0] | .lane g => [1, u8 g.lane.val] | .custody _ => [1, 4])
          ++ [s.requesters.setWidth 8, u8 s.quantum] ++ generation s.storage.current ++ generation s.storage.previous
          ++ pattern s.storage.current ++ pattern s.storage.previous
          ++ [causesByte s.tamper.causes, firstByte s.tamper.first, u8 s.tamper.events,
            if s.tamper.erasePending then 1 else 0]
          ++ s.tamper.inputs.toList.flatMap input
          ++ [u8 s.tamper.threshold.val, s.tamper.supplyResponse.byte,
            if s.vmain < thresholdMv s.tamper.threshold then 1 else 0,
            if s.mode = .locked ∨ s.tamper.causes ≠ 0 then 1 else 0, if s.batteryLossFlag then 1 else 0,
            if s.custody.link.overrun then 1 else 0, u8 s.custody.link.frameErrors]
          ++ s.lanes.toList.flatMap lane)
        s.batteryLossFlag))

/-- The filter of a tamper input (R134): a sample at the filtered level sets the count to 0, one that differs raises it, and
the one that reaches the setting, or any change of a DIRECT input, is an edge. An edge the detection admits is an event with
the input's response (R135). Before a clearing has set the inputs up they are not watched: notes/assumptions/19.md. -/
def Obligations.TamperInputsAreFiltered : Prop :=
  (∀ (s : State) (i : InputId) (v : Level) (vs : List Level),
    exec (.tamperInputEdge i (v :: vs)) s = runCommands [.tamperInputEdge i [v], .tamperInputEdge i vs] s) ∧
  ∀ (s : State) (i : InputId) (v : Level), s.marker = Config.marker ∨ s.mode = .starting .clearing →
    let t := s.tamper.inputs[i]
    let limit := match t.filter with | .direct => 1 | .samples3 => 3 | .samples8 => 8
    let become (filtered : Level) (count : Nat) : State :=
      { s with
        tamper :=
          { s.tamper with inputs := s.tamper.inputs.set i { t with filtered := filtered, count := count } } }
    (v = t.filtered → exec (.tamperInputEdge i [v]) s = .next (become v 0)) ∧
    (v ≠ t.filtered → t.count + 1 < limit →
      exec (.tamperInputEdge i [v]) s = .next (become t.filtered (t.count + 1))) ∧
    (v ≠ t.filtered → limit ≤ t.count + 1 →
      exec (.tamperInputEdge i [v]) s =
        .next (
          if t.detection = .either ∨ (t.detection = .fall ∧ v = .low) ∨ (t.detection = .rise ∧ v = .high) then
            (become v 0).tamperEvent (.input i) t.response
          else become v 0))

/-- Taking a tamper event writes the record first (R138). A RECORD event then does no more than place a notice, where custody
is in service with its buffer empty and no command in process (R139). An ERASE event begins the erase at once in service,
leaves an erase in progress alone, and is kept pending elsewhere (R140, R141). ERASE_COMPLETE ends the third pass with all its
writes made: every slot and the Storage Unit are empty, erase-pending is clear and the device is LOCKED (R142; the draws of
the Random Source counted by units, notes/assumptions/13.md). The TAMPER output follows the record and the device state in
every state (R145): not driven while the logic is stopped, active before the validity check, in ERASING and in LOCKED, and
elsewhere active while the cause set is not empty. -/
def Obligations.TamperEventsAreRecorded : Prop :=
  (∀ (s : State) (x : Source),
    let t : State := { s with tamper := s.tamper.noted x }
    let notice : State :=
      { t with
        custody :=
          { s.custody with
            link :=
              { s.custody.link with
                buffer := some (.tamperNotice
                  [causesByte t.tamper.causes, firstByte t.tamper.first, u8 t.tamper.events, s.mode.byte]) } } }
    (s.tamperEvent x .record =
      if s.mode.inService = true ∧ s.custody.link.buffer = none ∧ s.custody.process = none then notice else t) ∧
    (s.mode.inService = true → s.tamperEvent x .erase = t.afterErase) ∧
    (s.mode = .erasing → s.tamperEvent x .erase = t) ∧
    (s.mode = .stopped ∨ (∃ p, s.mode = .starting p) →
      s.tamperEvent x .erase = { t with tamper := { t.tamper with erasePending := true } })) ∧
  (∀ s : State, s.mode = .erasing →
    exec .eraseComplete s =
      .next { s with
        slots := Vector.ofFn fun i => Slot.fresh i .empty
        storage := { current := none, previous := none }
        tamper := { s.tamper with erasePending := false }
        passes := { written := 0, units := Vector.replicate 50 none }
        draws := s.draws + min 50 (150 - s.passes.written)
        mode := .locked }) ∧
  ∀ s : State,
    (s.mode = .stopped → s.tamperOutput = none) ∧
    (s.mode = .starting .check ∨ s.mode = .erasing ∨ s.mode = .locked → s.tamperOutput = some true) ∧
    (s.mode = .starting .clearing ∨ s.mode = .starting .sweep ∨ s.mode = .uninitialised ∨ s.mode = .operational →
      s.tamperOutput = some (decide (s.tamper.causes ≠ 0)))

/-- The supply monitor while the logic runs on valid settings (R136): above the threshold it arms and stops a timer; below it,
armed, it starts one, and a timer in progress goes on; the timer's end disarms it and is a SUPPLY event. While RESET is held
it does not run (R157). Levels are operands: notes/assumptions/11.md. -/
def Obligations.SupplyMonitorTimesTheSupply : Prop :=
  (∀ (s : State) (mv : Nat), s.mode.running = true → s.marker = Config.marker ∨ s.mode = .starting .clearing →
    (thresholdMv s.tamper.threshold < mv →
      exec (.supplyAboveThreshold mv) s =
        .next { s with vmain := mv, tamper := { s.tamper with armed := true, timer := false } }) ∧
    (2500 ≤ mv → mv < thresholdMv s.tamper.threshold →
      exec (.supplyBelowThreshold mv) s =
        .next { s with vmain := mv, tamper := { s.tamper with timer := s.tamper.timer || s.tamper.armed } }) ∧
    exec .supplyTimerExpiry s =
      .next (
        if s.tamper.timer then
          { s with tamper := { s.tamper with armed := false, timer := false } }.tamperEvent .supply
            s.tamper.supplyResponse
        else s)) ∧
  (∀ (s : State) (mv : Nat), s.mode = .stopped → 2500 < s.vmain →
    (thresholdMv s.tamper.threshold < mv → exec (.supplyAboveThreshold mv) s = .next { s with vmain := mv }) ∧
    (2500 ≤ mv → mv < thresholdMv s.tamper.threshold →
      exec (.supplyBelowThreshold mv) s = .next { s with vmain := mv }) ∧
    exec .supplyTimerExpiry s = .next s) ∧
  (List.finRange 8).map thresholdMv = [2750, 2900, 3000, 3100, 3200, 3300, 3450, 3600]

/-! ### Stopping and starting -/

/-- A main-supply loss or RESET stops the logic: the volatile state is lost and the battery domain kept (R157, R158), except
that without a sound battery a supply loss loses the domain too (R151): its marker is no longer the fixed word (the word it
then holds is a free value, notes/assumptions/8.md), and its records keep their values until the clearing
(notes/assumptions/13.md). A sweep in progress is cut off after some of its steps and some records of the next (R154;
notes/assumptions/12.md), and with the logic stopped already only the level or the pin changes. STARTING is entered, with the
volatile state of R150, when the main supply rises above the stop level with RESET released, and when RESET is released with
the supply above it; not otherwise (R150, R157). -/
def Obligations.LogicStopsAndStarts : Prop :=
  (∀ (s : State) (cut : SweepCut), cut.steps ≤ 5 →
    let stopped : State := if s.mode = .stopped then s else { s.afterStop with mode := .stopped }
    (s.mode ≠ .starting .sweep →
      (∀ mv, mv < 2500 → 2500 ≤ s.vmain →
        exec (.mainSupplyLoss mv cut) s =
          .next { stopped with vmain := mv, marker := if s.battery then s.marker else lostMarker }) ∧
      (s.resetHeld = false → exec (.resetAssert cut) s = .next { stopped with resetHeld := true })) ∧
    (s.mode = .starting .sweep →
      let done : State := s.sweepFirst cut.steps
      let next : State := s.sweepFirst (cut.steps + 1)
      let swept : State :=
        { done with
          mode := .starting .check
          slots := Vector.ofFn fun i : SlotId => if cut.records.getLsbD i.val then next.slots[i] else done.slots[i]
          warrants :=
            List.zipWith (fun w v => if cut.records.getLsbD w.id then v else w) done.warrants next.warrants
          lanes := Vector.ofFn fun l : LaneId => if cut.records.getLsbD l.val then next.lanes[l] else done.lanes[l] }
      (∀ mv, exec (.mainSupplyLoss mv cut) s = if mv < 2500 ∧ 2500 ≤ s.vmain then exec (.mainSupplyLoss mv cut) swept
        else .next s) ∧
      (s.resetHeld = false → exec (.resetAssert cut) s = exec (.resetAssert cut) swept))) ∧
  (∀ (s : State) (mv : Nat), s.mode = .stopped → s.vmain ≤ 2500 → 2500 < mv →
    exec (.mainSupplyRise mv) s =
      .next { if s.resetHeld then s else { s.afterStop with mode := .starting .check } with vmain := mv }) ∧
  (∀ s : State, s.resetHeld = true →
    exec .resetRelease s =
      .next { if 2500 < s.vmain then { s.afterStop with mode := .starting .check } else s with resetHeld := false }) ∧
  lostMarker ≠ Config.marker

/-- The validity check (R151, R153): a wrong marker begins a battery-loss clearing with the tamper record cleared and the
default settings, a pending erase begins, and else the sweep does. The clearing's end leaves every slot EMPTY, no storage key,
no warrant, every lane UNBOUND, quantum 12, the battery-loss flag set and the marker written (R151, R155). That the clearing's
first two steps fall in the check is notes/assumptions/19.md, and that frames received meanwhile stay is
notes/assumptions/25.md. -/
def Obligations.StartingChecksTheMarker : Prop :=
  (∀ (s : State) (raw : BitVec 6), s.mode = .starting .check →
    let input (i : InputId) : TamperInput :=
      let level : Level := if raw.getLsbD i.val then .high else .low
      { detection := if i.val ≤ 3 then .either else .off, filter := .samples3
        response := if i.val ≤ 3 then .erase else .record, quiet := level, filtered := level, count := 0 }
    (s.marker ≠ Config.marker →
      exec (.validityCheck raw) s =
        .next { s with
          mode := .starting .clearing
          tamper :=
            { inputs := Vector.ofFn input, threshold := 2, supplyResponse := .erase, armed := false, timer := false
              causes := 0, first := none, events := 0, erasePending := false } }) ∧
    (s.marker = Config.marker → s.tamper.erasePending = true → exec (.validityCheck raw) s = .next s.afterErase) ∧
    (s.marker = Config.marker → s.tamper.erasePending = false →
      exec (.validityCheck raw) s = .next { s with mode := .starting .sweep })) ∧
  ∀ s : State, s.mode = .starting .clearing →
    let cleared : State :=
      { s with
        slots := Vector.ofFn fun i => Slot.fresh i .empty
        storage := { current := none, previous := none }
        warrants := []
        lanes := Vector.ofFn fun l : LaneId =>
          { transport := none, cls := .low, issuers := 0, initial := 0, chain := 0, epoch := 0, position := 0
            run := none, last := none, link := s.lanes[l].link }
        quantum := 12, batteryLossFlag := true, marker := Config.marker
        passes := { written := 0, units := Vector.replicate 50 none } }
    exec .batteryLossClearingEnd s =
      .next (if s.tamper.erasePending then cleared.afterErase else { cleared with mode := .uninitialised })

/-- The sweep makes its six steps, each on the result of those before it (R154), and STARTING ends in the state R155 gives; a
sweep that is cut off has made the first of them and some records of the next (LogicStopsAndStarts). That the fifth writes a
record only where its count differs is read from R12 and R154 by inference: notes/assumptions/26.md. -/
def Obligations.SweepRestoresTheTables : Prop :=
  ∀ s : State, s.mode = .starting .sweep →
    let s1 : State :=
      { s with slots := Vector.ofFn fun i : SlotId =>
          match s.slots[i].body with
          | .assembling _ => Slot.fresh i .empty
          | .empty | .active _ _ | .faulty _ _ => s.slots[i] }
    let s2 : State :=
      { s1 with slots := Vector.ofFn fun i : SlotId =>
          match s1.slots[i].body with
          | .active a c =>
            if s1.slots[i].integrity = Config.integrityCode i (.active a c) then s1.slots[i]
            else
              { body := .faulty a c, refs := s1.slots[i].refs, integrity := Config.integrityCode i (.faulty a c)
                assembly := s1.slots[i].assembly }
          | .empty | .assembling _ | .faulty _ _ => s1.slots[i] }
    let s3 : State :=
      { s2 with warrants := s.warrants.map fun (w : Warrant) =>
          match w.state, s2.slots[w.master].body with
          | .closed _, _ => w
          | _, .active _ _ => w
          | _, _ => { w with state := .closed .slotFault } }
    let s4 : State :=
      { s3 with lanes := Vector.ofFn fun l : LaneId =>
          match s.lanes[l].transport with
          | none => s.lanes[l]
          | some i =>
            match s3.slots[i].body with
            | .active _ _ => s.lanes[l]
            | .empty | .assembling _ | .faulty _ _ => { s.lanes[l] with transport := none } }
    let s5 : State :=
      { s4 with slots := Vector.ofFn fun i : SlotId =>
          if s4.slots[i].refs = s4.countRefs i then s4.slots[i]
          else
            { s4.slots[i] with
              refs := s4.countRefs i, integrity := Config.integrityCode i s4.slots[i].body } }
    let s6 : State :=
      { s5 with lanes := Vector.ofFn fun l : LaneId =>
          match s5.lanes[l].transport with
          | none => s5.lanes[l]
          | some _ =>
            { s5.lanes[l] with chain := s5.lanes[l].initial, position := 0, epoch := s5.lanes[l].epoch + 1 } }
    [0, 1, 2, 3, 4, 5, 6].map s.sweepFirst = [s, s1, s2, s3, s4, s5, s6] ∧
    exec .sweepEnd s =
      .next (
        if s.tamper.erasePending then s6.afterErase
        else
          { s6 with
            mode :=
              if s.storage.current.isSome then .operational
              else if s.tamper.causes = 0 then .uninitialised
              else .locked })

/-- A backup battery that fails loses the battery domain only with the main supply absent (R158), and a fault of the
battery-backed memory changes one record other than by a table write (R13). A lost domain's marker is no longer the fixed word
(notes/assumptions/8.md), and its records keep their values until the clearing (notes/assumptions/13.md). What stands in the
battery's place is an operand: notes/assumptions/15.md; which records a fault may leave, and that their fields keep their
widths (`fieldsOk`): notes/assumptions/14.md. A record it leaves where an erase had overwritten the slot is a record again. -/
def Obligations.BatteryAndMemoryFail : Prop :=
  (∀ (s : State) (refitted : Bool),
    exec (.backupBatteryFailure refitted) s =
      .next { s with
        battery := refitted
        marker := if s.vmain < 2500 then lostMarker else s.marker }) ∧
  ∀ (s : State) (i : SlotId) (body : SlotBody) (refs : Nat) (integrity : BitVec 32), refs ≤ 255 → body.fieldsOk = true →
    exec (.batteryBackedMemoryFault i body refs integrity) s =
      .next { s.withSlot i { body := body, refs := refs, integrity := integrity, assembly := s.slots[i].assembly } with
        passes := { s.passes with units := s.passes.units.set i.val none } }

/-! ### What every command keeps -/

/-- A command changes nothing of the queue it came from: what waits stays in its order. -/
def Obligations.CommandsLeaveTheQueue : Prop :=
  ∀ (c : Instr) (s t : State), exec c s = .next t → t.pending = s.pending

/-- Every step keeps the law of reference counts: in service each slot's count is what R10 gives, live warrants name ACTIVE
DERIVATION slots of their issuer and BOUND lanes ACTIVE TRANSPORT slots (R10, R58, R96). A fault of the battery-backed memory
is set aside: it changes a record other than by a write (R13). -/
def Obligations.RefsLawIsKept : Prop :=
  ∀ s t : State, RefsLaw s → MemorySound s → step s = .next t → RefsLaw t

/-- Every step keeps the law of warrants (R57), with the table's room for 32 records of distinct ids (R56), and with it what a
record holds (R55): as long as a record is in the table its terms stay, its total and delivered count never fall, a step
delivers at most one card under it, and CLOSED is final. -/
def Obligations.WarrantsKeepTheirTerms : Prop :=
  ∀ s t : State, WarrantLaw s → ServiceLaw s → step s = .next t →
    WarrantLaw t ∧
      ∀ v ∈ s.warrants, ∀ w ∈ t.warrants, w.serial = v.serial →
        w.id = v.id ∧ w.issuer = v.issuer ∧ w.master = v.master ∧ w.digits = v.digits ∧ w.lanes = v.lanes ∧
        v.total ≤ w.total ∧ v.delivered ≤ w.delivered ∧ w.delivered ≤ v.delivered + 1 ∧
        ∀ r : CloseReason, v.state = .closed r → w.state = .closed r

/-- Every step keeps the quantum and the grant budget in their ranges (R93, R119): no lane grant performs more block
operations than the quantum it read. -/
def Obligations.GrantsStayWithinTheirBudget : Prop :=
  ∀ s t : State, BudgetLaw s → step s = .next t → BudgetLaw t

/-- Every step keeps the laws of who waits for the engine, who holds it and which reply buffers are full (R104, R108, R109,
R123, R124, R164, R165). -/
def Obligations.ServiceLawIsKept : Prop :=
  ∀ s t : State, ServiceLaw s → step s = .next t → ServiceLaw t

/-- Every step keeps the counters, FIFOs, filters and overwrite passes within the bounds the manual gives them (R30, R134,
R136, R138, R142, R160, R162), and the law of assembly parts (R20, R22): two or three components, distinct custodians from 1
to 8, and the checking flag set exactly with the list full. -/
def Obligations.CountersAndAssembliesStayInRange : Prop :=
  (∀ s t : State, CounterLaw s → step s = .next t → CounterLaw t) ∧
  (∀ s t : State, AssemblyLaw s → step s = .next t → AssemblyLaw t)

/-- Every step keeps the law of storage keys: patterns as R38 gives them, generations from 1 to 65535 and one apart (R37, R38,
R39). Every step that is no fault of the battery-backed memory (R13) keeps the law of check values: an ACTIVE or FAULTY slot
holds the check value of its key (R4). -/
def Obligations.StoredKeysStayTrue : Prop :=
  (∀ s t : State, StorageLaw s → step s = .next t → StorageLaw t) ∧
  (∀ s t : State, CheckLaw s → MemorySound s → step s = .next t → CheckLaw t)

/-- Every step that is no fault of the battery-backed memory keeps the law of device states: in UNINITIALISED and LOCKED there
is no storage key and every slot is EMPTY, in OPERATIONAL there is one (R37, R54), an erase is pending until it completes
(R138, R141), and only a pending erase leaves a unit of the key store overwritten (R142, R143). The law holds with it that the
logic runs on the main supply and on a valid marker (R151, R158): a sweep whose supply is gone has stopped. -/
def Obligations.ModeLawIsKept : Prop :=
  ∀ s t : State, ModeLaw s → MemorySound s → step s = .next t → ModeLaw t

/-- Every step that is no fault of the battery-backed memory keeps the law of chains: a BOUND lane's chaining value is its
initial value enciphered once under the transport key for each block taken (R84, R101). -/
def Obligations.ChainLawIsKept : Prop :=
  ∀ s t : State, ChainLaw s → RefsLaw s → ServiceLaw s → MemorySound s → step s = .next t → ChainLaw t

/-- A reply stays in its buffer until a collect of its link ends, an erase begins, or the logic stops (R164, R166, R174). -/
def Obligations.RepliesStayUntilCollected : Prop :=
  ∀ (c : Instr) (s t : State) (k : Link) (r : Reply), ServiceLaw s → exec c s = .next t →
    (s.link k).buffer = some r → (t.link k).buffer = some r ∨ (∃ clocked cut, c = .collectEnd k clocked cut) ∨
      t.mode = .erasing ∨ t.mode = .stopped ∨ t.mode = .starting .check

/-- No report shows a key (R3, R16): two parts that differ only in the key values of the Key Table and the Storage Unit, the
accumulators and the integrity words answer every report and every transfer, collects on any link included, with the same
bytes. The law of service (ServiceLawIsKept) rules out that a collect starts a custody operation. -/
def Obligations.ReportsHideTheKeys : Prop :=
  ∀ (s s' : State) (c : Instr), s.hide = s'.hide → ServiceLaw s →
    (c ∈ [.slotStatus, .warrantList, .deviceStatus, .tamperAck] ∨ (∃ l, c = .laneStatus l) ∨ (∃ k, c = .warrantStatus k) ∨
      (∃ k x, c = .requestTransfer k x) ∨ (∃ k, c = .collectBegin k) ∨
      ∃ k clocked cut, c = .collectEnd k clocked cut) →
    ∃ t t' : State, exec c s = .next t ∧ exec c s' = .next t' ∧ t.hide = t'.hide

/-- By WARRANT_STATUS a lane learns nothing of warrants that do not admit it (R67): with two tables that agree on the warrants
whose lane set it is in, the request does the same. (A RUN does tell it that such a warrant exists, by LANE_NOT_PERMITTED:
R106, RunIsAcceptedOrRefused.) -/
def Obligations.WarrantStatusHidesOtherWarrants : Prop :=
  ∀ (s : State) (other : List Warrant) (l : LaneId),
    (s.warrants.Pairwise fun a b => a.id < b.id) → (other.Pairwise fun a b => a.id < b.id) →
    (s.warrants.filter fun w => inLaneSet w.lanes l) = (other.filter fun w => inLaneSet w.lanes l) →
    ∃ t : State, exec (.warrantStatus (.lane l)) s = .next t ∧
      exec (.warrantStatus (.lane l)) { s with warrants := other } = .next { t with warrants := other }

/-! ### Values as bytes -/

/-- Tokens, RUN bodies, blocks and check values are read as they are written (R44, R172), and nothing else is read as a token
or as a RUN body: what is read as a token has a kind, purpose and issuer tag in range, a generation of 1 to 65535 and a second
block exactly for a 32-byte key, and is written as those bytes (R47); what is read as a RUN body has 1 to 16 entries of at
most 19 digits, and is written as those bytes (R106). -/
def Obligations.FormsAreReadAsWritten : Prop :=
  (∀ (a : Attributes) (generation : Nat) (pattern : Pattern) (w1 : Block) (w2 : Option Block) (check : CheckValue),
    a.kind.Valid → 1 ≤ generation → generation ≤ 65535 → (w2.isSome = true ↔ a.length = .len32) →
    readToken (tokenBytes (tokenHeader a generation pattern) w1 w2 check) =
      some
        { header := tokenHeader a generation pattern, attrs := a, generation := generation, pattern := pattern
          w1 := w1, w2 := w2, check := check }) ∧
  (∀ (bytes : List Byte) (token : Token), readToken bytes = some token →
    bytes = tokenBytes token.header token.w1 token.w2 token.check ∧
      token.header = tokenHeader token.attrs token.generation token.pattern ∧
      token.attrs.kind.Valid ∧ 1 ≤ token.generation ∧ token.generation ≤ 65535 ∧
      (token.w2.isSome = true ↔ token.attrs.length = .len32)) ∧
  (∀ f : RunForm, 1 ≤ f.entries.length → f.entries.length ≤ 16 → (∀ e ∈ f.entries, e.digits.length ≤ 19) →
    readRun f.bytes = some f) ∧
  (∀ (body : List Byte) (f : RunForm), readRun body = some f →
    body = f.bytes ∧ 1 ≤ f.entries.length ∧ f.entries.length ≤ 16 ∧ ∀ e ∈ f.entries, e.digits.length ≤ 19) ∧
  (∀ b : Block, readBlock (blockBytes b) = b) ∧ ∀ c : CheckValue, readCheck (checkBytes c) = c

/-- A key exported and imported again is the key it was (R45, R46, R48, R50): the token that TOKEN_EXPORT answers for an
ACTIVE slot, imported into an EMPTY slot of a part that holds the storage key it was wrapped under, current or previous, makes
that slot ACTIVE with the same key, check value and attributes. -/
def Obligations.ImportRestoresTheExportedKey : Prop :=
  ∀ (s : State) (i : SlotId) (a : Attributes) (c : Contents) (k : StorageKey),
    CustodyTakes s kindTokenExport [u8 i.val] → s.mode = .operational → s.engine = .idle →
    s.slots[i].body = .active a c → a.kind.Valid → c.key.length = a.length → c.check = checkValue c.key →
    s.storage.current = some k → k.Lawful →
    let blocks := match a.length with | .len16 => 1 | .len32 => 2
    ∃ (u : State) (token : List Byte),
      runCommands (.tokenExport :: List.replicate blocks .tokenExportOperationEnd) s = .next u ∧
      u.custody.link.buffer = some (.ok kindTokenExport .none (u8 i.val :: token)) ∧
      ∀ (t : State) (j : SlotId), CustodyTakes t kindTokenImport (u8 j.val :: token) → t.mode = .operational →
        t.custody.position = .custody → t.engine = .idle → t.slots[j].body = .empty →
        (t.storage.current = some k ∨
          t.storage.previous = some k ∧ ∃ n, t.storage.current = some n ∧ n.pattern ≠ k.pattern) →
        ∃ v : State,
          runCommands (.tokenImport :: List.replicate (blocks + 1) .tokenImportOperationEnd) t = .next v ∧
          v.slots[j].body = .active a { key := c.key, check := c.check, origin := .imported, uses := 0 }

/-! ### The overwrite passes -/

/-- The overwrite passes (R142): from the start of an erase, with no command waiting, each step makes their next write, over
one unit of the key store after another, three times over: zeros, then ones, then a value of the Random Source each. A slot
written holds no record, key or assembly part any more, and with its own unit the Storage Unit holds neither storage key.
Nothing else changes, and after the third pass nothing more is written. The order of the units and that a step makes one write
are the model's choice, notes/assumptions/13.md; the values of the Random Source are free, notes/assumptions/6.md. -/
def Obligations.PassesOverwriteTheKeyStore : Prop :=
  (∀ (s : State) (n : Nat), s.mode = .erasing → s.pending = [] → s.passes.written = 0 → n ≤ 150 →
    unattended n s =
      .next { s with
        slots := Vector.ofFn fun i : SlotId => if i.val < n then Slot.fresh i .empty else s.slots[i]
        storage := if 48 < n then { current := none, previous := none } else s.storage
        passes :=
          { written := n
            units := Vector.ofFn fun u : Fin 50 =>
              if u.val + 100 < n then some (.random (s.draws + u.val))
              else if u.val + 50 < n then some .ones
              else if u.val < n then some .zeros
              else s.passes.units[u] }
        draws := s.draws + (n - 100) }) ∧
  (∀ s : State, s.mode = .erasing → s.pending = [] → 150 ≤ s.passes.written → step s = .next s) ∧
  ∀ n k : Nat, Fill.zeros.bit k = false ∧ Fill.ones.bit k = true ∧ (Fill.random n).bit k = Config.randomBit n k
end

