-- ==== Sys2Proof/Laws/State.lean ====
section
/-! SUPPORT. One lemma per field per named update of the state, true by unfolding, so that a proof about what an operation
leaves alone unfolds no record update. -/

namespace Sys2Proof.Machine


/-! ### `State.writeSlot` -/

@[simp] theorem State.writeSlot_mode (s : State) (i : SlotId) (b : SlotBody) (r : Nat) (a : Option Assembly) : (s.writeSlot i b r a).mode = s.mode := rfl
@[simp] theorem State.writeSlot_vmain (s : State) (i : SlotId) (b : SlotBody) (r : Nat) (a : Option Assembly) : (s.writeSlot i b r a).vmain = s.vmain := rfl
@[simp] theorem State.writeSlot_resetHeld (s : State) (i : SlotId) (b : SlotBody) (r : Nat) (a : Option Assembly) : (s.writeSlot i b r a).resetHeld = s.resetHeld := rfl
@[simp] theorem State.writeSlot_battery (s : State) (i : SlotId) (b : SlotBody) (r : Nat) (a : Option Assembly) : (s.writeSlot i b r a).battery = s.battery := rfl
@[simp] theorem State.writeSlot_marker (s : State) (i : SlotId) (b : SlotBody) (r : Nat) (a : Option Assembly) : (s.writeSlot i b r a).marker = s.marker := rfl
@[simp] theorem State.writeSlot_batteryLossFlag (s : State) (i : SlotId) (b : SlotBody) (r : Nat) (a : Option Assembly) : (s.writeSlot i b r a).batteryLossFlag = s.batteryLossFlag := rfl
@[simp] theorem State.writeSlot_quantum (s : State) (i : SlotId) (b : SlotBody) (r : Nat) (a : Option Assembly) : (s.writeSlot i b r a).quantum = s.quantum := rfl
@[simp] theorem State.writeSlot_storage (s : State) (i : SlotId) (b : SlotBody) (r : Nat) (a : Option Assembly) : (s.writeSlot i b r a).storage = s.storage := rfl
@[simp] theorem State.writeSlot_warrants (s : State) (i : SlotId) (b : SlotBody) (r : Nat) (a : Option Assembly) : (s.writeSlot i b r a).warrants = s.warrants := rfl
@[simp] theorem State.writeSlot_lanes (s : State) (i : SlotId) (b : SlotBody) (r : Nat) (a : Option Assembly) : (s.writeSlot i b r a).lanes = s.lanes := rfl
@[simp] theorem State.writeSlot_custody (s : State) (i : SlotId) (b : SlotBody) (r : Nat) (a : Option Assembly) : (s.writeSlot i b r a).custody = s.custody := rfl
@[simp] theorem State.writeSlot_engine (s : State) (i : SlotId) (b : SlotBody) (r : Nat) (a : Option Assembly) : (s.writeSlot i b r a).engine = s.engine := rfl
@[simp] theorem State.writeSlot_requesters (s : State) (i : SlotId) (b : SlotBody) (r : Nat) (a : Option Assembly) : (s.writeSlot i b r a).requesters = s.requesters := rfl
@[simp] theorem State.writeSlot_highPointer (s : State) (i : SlotId) (b : SlotBody) (r : Nat) (a : Option Assembly) : (s.writeSlot i b r a).highPointer = s.highPointer := rfl
@[simp] theorem State.writeSlot_lowPointer (s : State) (i : SlotId) (b : SlotBody) (r : Nat) (a : Option Assembly) : (s.writeSlot i b r a).lowPointer = s.lowPointer := rfl
@[simp] theorem State.writeSlot_tamper (s : State) (i : SlotId) (b : SlotBody) (r : Nat) (a : Option Assembly) : (s.writeSlot i b r a).tamper = s.tamper := rfl
@[simp] theorem State.writeSlot_passes (s : State) (i : SlotId) (b : SlotBody) (r : Nat) (a : Option Assembly) : (s.writeSlot i b r a).passes = s.passes := rfl
@[simp] theorem State.writeSlot_draws (s : State) (i : SlotId) (b : SlotBody) (r : Nat) (a : Option Assembly) : (s.writeSlot i b r a).draws = s.draws := rfl
@[simp] theorem State.writeSlot_nextSerial (s : State) (i : SlotId) (b : SlotBody) (r : Nat) (a : Option Assembly) : (s.writeSlot i b r a).nextSerial = s.nextSerial := rfl
@[simp] theorem State.writeSlot_pending (s : State) (i : SlotId) (b : SlotBody) (r : Nat) (a : Option Assembly) : (s.writeSlot i b r a).pending = s.pending := rfl

/-! ### `State.emptySlot` -/

@[simp] theorem State.emptySlot_mode (s : State) (i : SlotId) : (s.emptySlot i).mode = s.mode := rfl
@[simp] theorem State.emptySlot_vmain (s : State) (i : SlotId) : (s.emptySlot i).vmain = s.vmain := rfl
@[simp] theorem State.emptySlot_resetHeld (s : State) (i : SlotId) : (s.emptySlot i).resetHeld = s.resetHeld := rfl
@[simp] theorem State.emptySlot_battery (s : State) (i : SlotId) : (s.emptySlot i).battery = s.battery := rfl
@[simp] theorem State.emptySlot_marker (s : State) (i : SlotId) : (s.emptySlot i).marker = s.marker := rfl
@[simp] theorem State.emptySlot_batteryLossFlag (s : State) (i : SlotId) : (s.emptySlot i).batteryLossFlag = s.batteryLossFlag := rfl
@[simp] theorem State.emptySlot_quantum (s : State) (i : SlotId) : (s.emptySlot i).quantum = s.quantum := rfl
@[simp] theorem State.emptySlot_storage (s : State) (i : SlotId) : (s.emptySlot i).storage = s.storage := rfl
@[simp] theorem State.emptySlot_warrants (s : State) (i : SlotId) : (s.emptySlot i).warrants = s.warrants := rfl
@[simp] theorem State.emptySlot_lanes (s : State) (i : SlotId) : (s.emptySlot i).lanes = s.lanes := rfl
@[simp] theorem State.emptySlot_custody (s : State) (i : SlotId) : (s.emptySlot i).custody = s.custody := rfl
@[simp] theorem State.emptySlot_engine (s : State) (i : SlotId) : (s.emptySlot i).engine = s.engine := rfl
@[simp] theorem State.emptySlot_requesters (s : State) (i : SlotId) : (s.emptySlot i).requesters = s.requesters := rfl
@[simp] theorem State.emptySlot_highPointer (s : State) (i : SlotId) : (s.emptySlot i).highPointer = s.highPointer := rfl
@[simp] theorem State.emptySlot_lowPointer (s : State) (i : SlotId) : (s.emptySlot i).lowPointer = s.lowPointer := rfl
@[simp] theorem State.emptySlot_tamper (s : State) (i : SlotId) : (s.emptySlot i).tamper = s.tamper := rfl
@[simp] theorem State.emptySlot_passes (s : State) (i : SlotId) : (s.emptySlot i).passes = s.passes := rfl
@[simp] theorem State.emptySlot_draws (s : State) (i : SlotId) : (s.emptySlot i).draws = s.draws := rfl
@[simp] theorem State.emptySlot_nextSerial (s : State) (i : SlotId) : (s.emptySlot i).nextSerial = s.nextSerial := rfl
@[simp] theorem State.emptySlot_pending (s : State) (i : SlotId) : (s.emptySlot i).pending = s.pending := rfl

/-! ### `State.setRefs` -/

@[simp] theorem State.setRefs_mode (s : State) (i : SlotId) (r : Nat) : (s.setRefs i r).mode = s.mode := rfl
@[simp] theorem State.setRefs_vmain (s : State) (i : SlotId) (r : Nat) : (s.setRefs i r).vmain = s.vmain := rfl
@[simp] theorem State.setRefs_resetHeld (s : State) (i : SlotId) (r : Nat) : (s.setRefs i r).resetHeld = s.resetHeld := rfl
@[simp] theorem State.setRefs_battery (s : State) (i : SlotId) (r : Nat) : (s.setRefs i r).battery = s.battery := rfl
@[simp] theorem State.setRefs_marker (s : State) (i : SlotId) (r : Nat) : (s.setRefs i r).marker = s.marker := rfl
@[simp] theorem State.setRefs_batteryLossFlag (s : State) (i : SlotId) (r : Nat) : (s.setRefs i r).batteryLossFlag = s.batteryLossFlag := rfl
@[simp] theorem State.setRefs_quantum (s : State) (i : SlotId) (r : Nat) : (s.setRefs i r).quantum = s.quantum := rfl
@[simp] theorem State.setRefs_storage (s : State) (i : SlotId) (r : Nat) : (s.setRefs i r).storage = s.storage := rfl
@[simp] theorem State.setRefs_warrants (s : State) (i : SlotId) (r : Nat) : (s.setRefs i r).warrants = s.warrants := rfl
@[simp] theorem State.setRefs_lanes (s : State) (i : SlotId) (r : Nat) : (s.setRefs i r).lanes = s.lanes := rfl
@[simp] theorem State.setRefs_custody (s : State) (i : SlotId) (r : Nat) : (s.setRefs i r).custody = s.custody := rfl
@[simp] theorem State.setRefs_engine (s : State) (i : SlotId) (r : Nat) : (s.setRefs i r).engine = s.engine := rfl
@[simp] theorem State.setRefs_requesters (s : State) (i : SlotId) (r : Nat) : (s.setRefs i r).requesters = s.requesters := rfl
@[simp] theorem State.setRefs_highPointer (s : State) (i : SlotId) (r : Nat) : (s.setRefs i r).highPointer = s.highPointer := rfl
@[simp] theorem State.setRefs_lowPointer (s : State) (i : SlotId) (r : Nat) : (s.setRefs i r).lowPointer = s.lowPointer := rfl
@[simp] theorem State.setRefs_tamper (s : State) (i : SlotId) (r : Nat) : (s.setRefs i r).tamper = s.tamper := rfl
@[simp] theorem State.setRefs_passes (s : State) (i : SlotId) (r : Nat) : (s.setRefs i r).passes = s.passes := rfl
@[simp] theorem State.setRefs_draws (s : State) (i : SlotId) (r : Nat) : (s.setRefs i r).draws = s.draws := rfl
@[simp] theorem State.setRefs_nextSerial (s : State) (i : SlotId) (r : Nat) : (s.setRefs i r).nextSerial = s.nextSerial := rfl
@[simp] theorem State.setRefs_pending (s : State) (i : SlotId) (r : Nat) : (s.setRefs i r).pending = s.pending := rfl

/-! ### `State.raiseRefs` -/

@[simp] theorem State.raiseRefs_mode (s : State) (i : SlotId) : (s.raiseRefs i).mode = s.mode := rfl
@[simp] theorem State.raiseRefs_vmain (s : State) (i : SlotId) : (s.raiseRefs i).vmain = s.vmain := rfl
@[simp] theorem State.raiseRefs_resetHeld (s : State) (i : SlotId) : (s.raiseRefs i).resetHeld = s.resetHeld := rfl
@[simp] theorem State.raiseRefs_battery (s : State) (i : SlotId) : (s.raiseRefs i).battery = s.battery := rfl
@[simp] theorem State.raiseRefs_marker (s : State) (i : SlotId) : (s.raiseRefs i).marker = s.marker := rfl
@[simp] theorem State.raiseRefs_batteryLossFlag (s : State) (i : SlotId) : (s.raiseRefs i).batteryLossFlag = s.batteryLossFlag := rfl
@[simp] theorem State.raiseRefs_quantum (s : State) (i : SlotId) : (s.raiseRefs i).quantum = s.quantum := rfl
@[simp] theorem State.raiseRefs_storage (s : State) (i : SlotId) : (s.raiseRefs i).storage = s.storage := rfl
@[simp] theorem State.raiseRefs_warrants (s : State) (i : SlotId) : (s.raiseRefs i).warrants = s.warrants := rfl
@[simp] theorem State.raiseRefs_lanes (s : State) (i : SlotId) : (s.raiseRefs i).lanes = s.lanes := rfl
@[simp] theorem State.raiseRefs_custody (s : State) (i : SlotId) : (s.raiseRefs i).custody = s.custody := rfl
@[simp] theorem State.raiseRefs_engine (s : State) (i : SlotId) : (s.raiseRefs i).engine = s.engine := rfl
@[simp] theorem State.raiseRefs_requesters (s : State) (i : SlotId) : (s.raiseRefs i).requesters = s.requesters := rfl
@[simp] theorem State.raiseRefs_highPointer (s : State) (i : SlotId) : (s.raiseRefs i).highPointer = s.highPointer := rfl
@[simp] theorem State.raiseRefs_lowPointer (s : State) (i : SlotId) : (s.raiseRefs i).lowPointer = s.lowPointer := rfl
@[simp] theorem State.raiseRefs_tamper (s : State) (i : SlotId) : (s.raiseRefs i).tamper = s.tamper := rfl
@[simp] theorem State.raiseRefs_passes (s : State) (i : SlotId) : (s.raiseRefs i).passes = s.passes := rfl
@[simp] theorem State.raiseRefs_draws (s : State) (i : SlotId) : (s.raiseRefs i).draws = s.draws := rfl
@[simp] theorem State.raiseRefs_nextSerial (s : State) (i : SlotId) : (s.raiseRefs i).nextSerial = s.nextSerial := rfl
@[simp] theorem State.raiseRefs_pending (s : State) (i : SlotId) : (s.raiseRefs i).pending = s.pending := rfl

/-! ### `State.lowerRefs` -/

@[simp] theorem State.lowerRefs_mode (s : State) (i : SlotId) : (s.lowerRefs i).mode = s.mode := rfl
@[simp] theorem State.lowerRefs_vmain (s : State) (i : SlotId) : (s.lowerRefs i).vmain = s.vmain := rfl
@[simp] theorem State.lowerRefs_resetHeld (s : State) (i : SlotId) : (s.lowerRefs i).resetHeld = s.resetHeld := rfl
@[simp] theorem State.lowerRefs_battery (s : State) (i : SlotId) : (s.lowerRefs i).battery = s.battery := rfl
@[simp] theorem State.lowerRefs_marker (s : State) (i : SlotId) : (s.lowerRefs i).marker = s.marker := rfl
@[simp] theorem State.lowerRefs_batteryLossFlag (s : State) (i : SlotId) : (s.lowerRefs i).batteryLossFlag = s.batteryLossFlag := rfl
@[simp] theorem State.lowerRefs_quantum (s : State) (i : SlotId) : (s.lowerRefs i).quantum = s.quantum := rfl
@[simp] theorem State.lowerRefs_storage (s : State) (i : SlotId) : (s.lowerRefs i).storage = s.storage := rfl
@[simp] theorem State.lowerRefs_warrants (s : State) (i : SlotId) : (s.lowerRefs i).warrants = s.warrants := rfl
@[simp] theorem State.lowerRefs_lanes (s : State) (i : SlotId) : (s.lowerRefs i).lanes = s.lanes := rfl
@[simp] theorem State.lowerRefs_custody (s : State) (i : SlotId) : (s.lowerRefs i).custody = s.custody := rfl
@[simp] theorem State.lowerRefs_engine (s : State) (i : SlotId) : (s.lowerRefs i).engine = s.engine := rfl
@[simp] theorem State.lowerRefs_requesters (s : State) (i : SlotId) : (s.lowerRefs i).requesters = s.requesters := rfl
@[simp] theorem State.lowerRefs_highPointer (s : State) (i : SlotId) : (s.lowerRefs i).highPointer = s.highPointer := rfl
@[simp] theorem State.lowerRefs_lowPointer (s : State) (i : SlotId) : (s.lowerRefs i).lowPointer = s.lowPointer := rfl
@[simp] theorem State.lowerRefs_tamper (s : State) (i : SlotId) : (s.lowerRefs i).tamper = s.tamper := rfl
@[simp] theorem State.lowerRefs_passes (s : State) (i : SlotId) : (s.lowerRefs i).passes = s.passes := rfl
@[simp] theorem State.lowerRefs_draws (s : State) (i : SlotId) : (s.lowerRefs i).draws = s.draws := rfl
@[simp] theorem State.lowerRefs_nextSerial (s : State) (i : SlotId) : (s.lowerRefs i).nextSerial = s.nextSerial := rfl
@[simp] theorem State.lowerRefs_pending (s : State) (i : SlotId) : (s.lowerRefs i).pending = s.pending := rfl

/-! ### `State.raiseUses` -/

@[simp] theorem State.raiseUses_mode (s : State) (i : SlotId) : (s.raiseUses i).mode = s.mode := rfl
@[simp] theorem State.raiseUses_vmain (s : State) (i : SlotId) : (s.raiseUses i).vmain = s.vmain := rfl
@[simp] theorem State.raiseUses_resetHeld (s : State) (i : SlotId) : (s.raiseUses i).resetHeld = s.resetHeld := rfl
@[simp] theorem State.raiseUses_battery (s : State) (i : SlotId) : (s.raiseUses i).battery = s.battery := rfl
@[simp] theorem State.raiseUses_marker (s : State) (i : SlotId) : (s.raiseUses i).marker = s.marker := rfl
@[simp] theorem State.raiseUses_batteryLossFlag (s : State) (i : SlotId) : (s.raiseUses i).batteryLossFlag = s.batteryLossFlag := rfl
@[simp] theorem State.raiseUses_quantum (s : State) (i : SlotId) : (s.raiseUses i).quantum = s.quantum := rfl
@[simp] theorem State.raiseUses_storage (s : State) (i : SlotId) : (s.raiseUses i).storage = s.storage := rfl
@[simp] theorem State.raiseUses_warrants (s : State) (i : SlotId) : (s.raiseUses i).warrants = s.warrants := rfl
@[simp] theorem State.raiseUses_lanes (s : State) (i : SlotId) : (s.raiseUses i).lanes = s.lanes := rfl
@[simp] theorem State.raiseUses_custody (s : State) (i : SlotId) : (s.raiseUses i).custody = s.custody := rfl
@[simp] theorem State.raiseUses_engine (s : State) (i : SlotId) : (s.raiseUses i).engine = s.engine := rfl
@[simp] theorem State.raiseUses_requesters (s : State) (i : SlotId) : (s.raiseUses i).requesters = s.requesters := rfl
@[simp] theorem State.raiseUses_highPointer (s : State) (i : SlotId) : (s.raiseUses i).highPointer = s.highPointer := rfl
@[simp] theorem State.raiseUses_lowPointer (s : State) (i : SlotId) : (s.raiseUses i).lowPointer = s.lowPointer := rfl
@[simp] theorem State.raiseUses_tamper (s : State) (i : SlotId) : (s.raiseUses i).tamper = s.tamper := rfl
@[simp] theorem State.raiseUses_passes (s : State) (i : SlotId) : (s.raiseUses i).passes = s.passes := rfl
@[simp] theorem State.raiseUses_draws (s : State) (i : SlotId) : (s.raiseUses i).draws = s.draws := rfl
@[simp] theorem State.raiseUses_nextSerial (s : State) (i : SlotId) : (s.raiseUses i).nextSerial = s.nextSerial := rfl
@[simp] theorem State.raiseUses_pending (s : State) (i : SlotId) : (s.raiseUses i).pending = s.pending := rfl

/-! ### `State.setAssembly` -/

@[simp] theorem State.setAssembly_mode (s : State) (i : SlotId) (p : Assembly) : (s.setAssembly i p).mode = s.mode := rfl
@[simp] theorem State.setAssembly_vmain (s : State) (i : SlotId) (p : Assembly) : (s.setAssembly i p).vmain = s.vmain := rfl
@[simp] theorem State.setAssembly_resetHeld (s : State) (i : SlotId) (p : Assembly) : (s.setAssembly i p).resetHeld = s.resetHeld := rfl
@[simp] theorem State.setAssembly_battery (s : State) (i : SlotId) (p : Assembly) : (s.setAssembly i p).battery = s.battery := rfl
@[simp] theorem State.setAssembly_marker (s : State) (i : SlotId) (p : Assembly) : (s.setAssembly i p).marker = s.marker := rfl
@[simp] theorem State.setAssembly_batteryLossFlag (s : State) (i : SlotId) (p : Assembly) : (s.setAssembly i p).batteryLossFlag = s.batteryLossFlag := rfl
@[simp] theorem State.setAssembly_quantum (s : State) (i : SlotId) (p : Assembly) : (s.setAssembly i p).quantum = s.quantum := rfl
@[simp] theorem State.setAssembly_storage (s : State) (i : SlotId) (p : Assembly) : (s.setAssembly i p).storage = s.storage := rfl
@[simp] theorem State.setAssembly_warrants (s : State) (i : SlotId) (p : Assembly) : (s.setAssembly i p).warrants = s.warrants := rfl
@[simp] theorem State.setAssembly_lanes (s : State) (i : SlotId) (p : Assembly) : (s.setAssembly i p).lanes = s.lanes := rfl
@[simp] theorem State.setAssembly_custody (s : State) (i : SlotId) (p : Assembly) : (s.setAssembly i p).custody = s.custody := rfl
@[simp] theorem State.setAssembly_engine (s : State) (i : SlotId) (p : Assembly) : (s.setAssembly i p).engine = s.engine := rfl
@[simp] theorem State.setAssembly_requesters (s : State) (i : SlotId) (p : Assembly) : (s.setAssembly i p).requesters = s.requesters := rfl
@[simp] theorem State.setAssembly_highPointer (s : State) (i : SlotId) (p : Assembly) : (s.setAssembly i p).highPointer = s.highPointer := rfl
@[simp] theorem State.setAssembly_lowPointer (s : State) (i : SlotId) (p : Assembly) : (s.setAssembly i p).lowPointer = s.lowPointer := rfl
@[simp] theorem State.setAssembly_tamper (s : State) (i : SlotId) (p : Assembly) : (s.setAssembly i p).tamper = s.tamper := rfl
@[simp] theorem State.setAssembly_passes (s : State) (i : SlotId) (p : Assembly) : (s.setAssembly i p).passes = s.passes := rfl
@[simp] theorem State.setAssembly_draws (s : State) (i : SlotId) (p : Assembly) : (s.setAssembly i p).draws = s.draws := rfl
@[simp] theorem State.setAssembly_nextSerial (s : State) (i : SlotId) (p : Assembly) : (s.setAssembly i p).nextSerial = s.nextSerial := rfl
@[simp] theorem State.setAssembly_pending (s : State) (i : SlotId) (p : Assembly) : (s.setAssembly i p).pending = s.pending := rfl

/-! ### `State.abandonAssemblies` -/

@[simp] theorem State.abandonAssemblies_mode (s : State) : (s.abandonAssemblies).mode = s.mode := by simp only [State.abandonAssemblies]
@[simp] theorem State.abandonAssemblies_vmain (s : State) : (s.abandonAssemblies).vmain = s.vmain := by simp only [State.abandonAssemblies]
@[simp] theorem State.abandonAssemblies_resetHeld (s : State) : (s.abandonAssemblies).resetHeld = s.resetHeld := by simp only [State.abandonAssemblies]
@[simp] theorem State.abandonAssemblies_battery (s : State) : (s.abandonAssemblies).battery = s.battery := by simp only [State.abandonAssemblies]
@[simp] theorem State.abandonAssemblies_marker (s : State) : (s.abandonAssemblies).marker = s.marker := by simp only [State.abandonAssemblies]
@[simp] theorem State.abandonAssemblies_batteryLossFlag (s : State) : (s.abandonAssemblies).batteryLossFlag = s.batteryLossFlag := by simp only [State.abandonAssemblies]
@[simp] theorem State.abandonAssemblies_quantum (s : State) : (s.abandonAssemblies).quantum = s.quantum := by simp only [State.abandonAssemblies]
@[simp] theorem State.abandonAssemblies_storage (s : State) : (s.abandonAssemblies).storage = s.storage := by simp only [State.abandonAssemblies]
@[simp] theorem State.abandonAssemblies_warrants (s : State) : (s.abandonAssemblies).warrants = s.warrants := by simp only [State.abandonAssemblies]
@[simp] theorem State.abandonAssemblies_lanes (s : State) : (s.abandonAssemblies).lanes = s.lanes := by simp only [State.abandonAssemblies]
@[simp] theorem State.abandonAssemblies_custody (s : State) : (s.abandonAssemblies).custody = s.custody := by simp only [State.abandonAssemblies]
@[simp] theorem State.abandonAssemblies_engine (s : State) : (s.abandonAssemblies).engine = s.engine := by simp only [State.abandonAssemblies]
@[simp] theorem State.abandonAssemblies_requesters (s : State) : (s.abandonAssemblies).requesters = s.requesters := by simp only [State.abandonAssemblies]
@[simp] theorem State.abandonAssemblies_highPointer (s : State) : (s.abandonAssemblies).highPointer = s.highPointer := by simp only [State.abandonAssemblies]
@[simp] theorem State.abandonAssemblies_lowPointer (s : State) : (s.abandonAssemblies).lowPointer = s.lowPointer := by simp only [State.abandonAssemblies]
@[simp] theorem State.abandonAssemblies_tamper (s : State) : (s.abandonAssemblies).tamper = s.tamper := by simp only [State.abandonAssemblies]
@[simp] theorem State.abandonAssemblies_passes (s : State) : (s.abandonAssemblies).passes = s.passes := by simp only [State.abandonAssemblies]
@[simp] theorem State.abandonAssemblies_draws (s : State) : (s.abandonAssemblies).draws = s.draws := by simp only [State.abandonAssemblies]
@[simp] theorem State.abandonAssemblies_nextSerial (s : State) : (s.abandonAssemblies).nextSerial = s.nextSerial := by simp only [State.abandonAssemblies]
@[simp] theorem State.abandonAssemblies_pending (s : State) : (s.abandonAssemblies).pending = s.pending := by simp only [State.abandonAssemblies]

/-! ### `State.setLane` -/

@[simp] theorem State.setLane_mode (s : State) (l : LaneId) (x : Lane) : (s.setLane l x).mode = s.mode := rfl
@[simp] theorem State.setLane_vmain (s : State) (l : LaneId) (x : Lane) : (s.setLane l x).vmain = s.vmain := rfl
@[simp] theorem State.setLane_resetHeld (s : State) (l : LaneId) (x : Lane) : (s.setLane l x).resetHeld = s.resetHeld := rfl
@[simp] theorem State.setLane_battery (s : State) (l : LaneId) (x : Lane) : (s.setLane l x).battery = s.battery := rfl
@[simp] theorem State.setLane_marker (s : State) (l : LaneId) (x : Lane) : (s.setLane l x).marker = s.marker := rfl
@[simp] theorem State.setLane_batteryLossFlag (s : State) (l : LaneId) (x : Lane) : (s.setLane l x).batteryLossFlag = s.batteryLossFlag := rfl
@[simp] theorem State.setLane_quantum (s : State) (l : LaneId) (x : Lane) : (s.setLane l x).quantum = s.quantum := rfl
@[simp] theorem State.setLane_slots (s : State) (l : LaneId) (x : Lane) : (s.setLane l x).slots = s.slots := rfl
@[simp] theorem State.setLane_storage (s : State) (l : LaneId) (x : Lane) : (s.setLane l x).storage = s.storage := rfl
@[simp] theorem State.setLane_warrants (s : State) (l : LaneId) (x : Lane) : (s.setLane l x).warrants = s.warrants := rfl
@[simp] theorem State.setLane_custody (s : State) (l : LaneId) (x : Lane) : (s.setLane l x).custody = s.custody := rfl
@[simp] theorem State.setLane_engine (s : State) (l : LaneId) (x : Lane) : (s.setLane l x).engine = s.engine := rfl
@[simp] theorem State.setLane_requesters (s : State) (l : LaneId) (x : Lane) : (s.setLane l x).requesters = s.requesters := rfl
@[simp] theorem State.setLane_highPointer (s : State) (l : LaneId) (x : Lane) : (s.setLane l x).highPointer = s.highPointer := rfl
@[simp] theorem State.setLane_lowPointer (s : State) (l : LaneId) (x : Lane) : (s.setLane l x).lowPointer = s.lowPointer := rfl
@[simp] theorem State.setLane_tamper (s : State) (l : LaneId) (x : Lane) : (s.setLane l x).tamper = s.tamper := rfl
@[simp] theorem State.setLane_passes (s : State) (l : LaneId) (x : Lane) : (s.setLane l x).passes = s.passes := rfl
@[simp] theorem State.setLane_draws (s : State) (l : LaneId) (x : Lane) : (s.setLane l x).draws = s.draws := rfl
@[simp] theorem State.setLane_nextSerial (s : State) (l : LaneId) (x : Lane) : (s.setLane l x).nextSerial = s.nextSerial := rfl
@[simp] theorem State.setLane_pending (s : State) (l : LaneId) (x : Lane) : (s.setLane l x).pending = s.pending := rfl

/-! ### `State.setWarrant` -/

@[simp] theorem State.setWarrant_mode (s : State) (n : Nat) (f : Warrant → Warrant) : (s.setWarrant n f).mode = s.mode := rfl
@[simp] theorem State.setWarrant_vmain (s : State) (n : Nat) (f : Warrant → Warrant) : (s.setWarrant n f).vmain = s.vmain := rfl
@[simp] theorem State.setWarrant_resetHeld (s : State) (n : Nat) (f : Warrant → Warrant) : (s.setWarrant n f).resetHeld = s.resetHeld := rfl
@[simp] theorem State.setWarrant_battery (s : State) (n : Nat) (f : Warrant → Warrant) : (s.setWarrant n f).battery = s.battery := rfl
@[simp] theorem State.setWarrant_marker (s : State) (n : Nat) (f : Warrant → Warrant) : (s.setWarrant n f).marker = s.marker := rfl
@[simp] theorem State.setWarrant_batteryLossFlag (s : State) (n : Nat) (f : Warrant → Warrant) : (s.setWarrant n f).batteryLossFlag = s.batteryLossFlag := rfl
@[simp] theorem State.setWarrant_quantum (s : State) (n : Nat) (f : Warrant → Warrant) : (s.setWarrant n f).quantum = s.quantum := rfl
@[simp] theorem State.setWarrant_slots (s : State) (n : Nat) (f : Warrant → Warrant) : (s.setWarrant n f).slots = s.slots := rfl
@[simp] theorem State.setWarrant_storage (s : State) (n : Nat) (f : Warrant → Warrant) : (s.setWarrant n f).storage = s.storage := rfl
@[simp] theorem State.setWarrant_lanes (s : State) (n : Nat) (f : Warrant → Warrant) : (s.setWarrant n f).lanes = s.lanes := rfl
@[simp] theorem State.setWarrant_custody (s : State) (n : Nat) (f : Warrant → Warrant) : (s.setWarrant n f).custody = s.custody := rfl
@[simp] theorem State.setWarrant_engine (s : State) (n : Nat) (f : Warrant → Warrant) : (s.setWarrant n f).engine = s.engine := rfl
@[simp] theorem State.setWarrant_requesters (s : State) (n : Nat) (f : Warrant → Warrant) : (s.setWarrant n f).requesters = s.requesters := rfl
@[simp] theorem State.setWarrant_highPointer (s : State) (n : Nat) (f : Warrant → Warrant) : (s.setWarrant n f).highPointer = s.highPointer := rfl
@[simp] theorem State.setWarrant_lowPointer (s : State) (n : Nat) (f : Warrant → Warrant) : (s.setWarrant n f).lowPointer = s.lowPointer := rfl
@[simp] theorem State.setWarrant_tamper (s : State) (n : Nat) (f : Warrant → Warrant) : (s.setWarrant n f).tamper = s.tamper := rfl
@[simp] theorem State.setWarrant_passes (s : State) (n : Nat) (f : Warrant → Warrant) : (s.setWarrant n f).passes = s.passes := rfl
@[simp] theorem State.setWarrant_draws (s : State) (n : Nat) (f : Warrant → Warrant) : (s.setWarrant n f).draws = s.draws := rfl
@[simp] theorem State.setWarrant_nextSerial (s : State) (n : Nat) (f : Warrant → Warrant) : (s.setWarrant n f).nextSerial = s.nextSerial := rfl
@[simp] theorem State.setWarrant_pending (s : State) (n : Nat) (f : Warrant → Warrant) : (s.setWarrant n f).pending = s.pending := rfl

/-! ### `State.removeWarrant` -/

@[simp] theorem State.removeWarrant_mode (s : State) (n : Nat) : (s.removeWarrant n).mode = s.mode := rfl
@[simp] theorem State.removeWarrant_vmain (s : State) (n : Nat) : (s.removeWarrant n).vmain = s.vmain := rfl
@[simp] theorem State.removeWarrant_resetHeld (s : State) (n : Nat) : (s.removeWarrant n).resetHeld = s.resetHeld := rfl
@[simp] theorem State.removeWarrant_battery (s : State) (n : Nat) : (s.removeWarrant n).battery = s.battery := rfl
@[simp] theorem State.removeWarrant_marker (s : State) (n : Nat) : (s.removeWarrant n).marker = s.marker := rfl
@[simp] theorem State.removeWarrant_batteryLossFlag (s : State) (n : Nat) : (s.removeWarrant n).batteryLossFlag = s.batteryLossFlag := rfl
@[simp] theorem State.removeWarrant_quantum (s : State) (n : Nat) : (s.removeWarrant n).quantum = s.quantum := rfl
@[simp] theorem State.removeWarrant_slots (s : State) (n : Nat) : (s.removeWarrant n).slots = s.slots := rfl
@[simp] theorem State.removeWarrant_storage (s : State) (n : Nat) : (s.removeWarrant n).storage = s.storage := rfl
@[simp] theorem State.removeWarrant_lanes (s : State) (n : Nat) : (s.removeWarrant n).lanes = s.lanes := rfl
@[simp] theorem State.removeWarrant_custody (s : State) (n : Nat) : (s.removeWarrant n).custody = s.custody := rfl
@[simp] theorem State.removeWarrant_engine (s : State) (n : Nat) : (s.removeWarrant n).engine = s.engine := rfl
@[simp] theorem State.removeWarrant_requesters (s : State) (n : Nat) : (s.removeWarrant n).requesters = s.requesters := rfl
@[simp] theorem State.removeWarrant_highPointer (s : State) (n : Nat) : (s.removeWarrant n).highPointer = s.highPointer := rfl
@[simp] theorem State.removeWarrant_lowPointer (s : State) (n : Nat) : (s.removeWarrant n).lowPointer = s.lowPointer := rfl
@[simp] theorem State.removeWarrant_tamper (s : State) (n : Nat) : (s.removeWarrant n).tamper = s.tamper := rfl
@[simp] theorem State.removeWarrant_passes (s : State) (n : Nat) : (s.removeWarrant n).passes = s.passes := rfl
@[simp] theorem State.removeWarrant_draws (s : State) (n : Nat) : (s.removeWarrant n).draws = s.draws := rfl
@[simp] theorem State.removeWarrant_nextSerial (s : State) (n : Nat) : (s.removeWarrant n).nextSerial = s.nextSerial := rfl
@[simp] theorem State.removeWarrant_pending (s : State) (n : Nat) : (s.removeWarrant n).pending = s.pending := rfl

/-! ### `State.addWarrant` -/

@[simp] theorem State.addWarrant_mode (s : State) (w : Warrant) : (s.addWarrant w).mode = s.mode := rfl
@[simp] theorem State.addWarrant_vmain (s : State) (w : Warrant) : (s.addWarrant w).vmain = s.vmain := rfl
@[simp] theorem State.addWarrant_resetHeld (s : State) (w : Warrant) : (s.addWarrant w).resetHeld = s.resetHeld := rfl
@[simp] theorem State.addWarrant_battery (s : State) (w : Warrant) : (s.addWarrant w).battery = s.battery := rfl
@[simp] theorem State.addWarrant_marker (s : State) (w : Warrant) : (s.addWarrant w).marker = s.marker := rfl
@[simp] theorem State.addWarrant_batteryLossFlag (s : State) (w : Warrant) : (s.addWarrant w).batteryLossFlag = s.batteryLossFlag := rfl
@[simp] theorem State.addWarrant_quantum (s : State) (w : Warrant) : (s.addWarrant w).quantum = s.quantum := rfl
@[simp] theorem State.addWarrant_storage (s : State) (w : Warrant) : (s.addWarrant w).storage = s.storage := rfl
@[simp] theorem State.addWarrant_lanes (s : State) (w : Warrant) : (s.addWarrant w).lanes = s.lanes := rfl
@[simp] theorem State.addWarrant_custody (s : State) (w : Warrant) : (s.addWarrant w).custody = s.custody := rfl
@[simp] theorem State.addWarrant_engine (s : State) (w : Warrant) : (s.addWarrant w).engine = s.engine := rfl
@[simp] theorem State.addWarrant_requesters (s : State) (w : Warrant) : (s.addWarrant w).requesters = s.requesters := rfl
@[simp] theorem State.addWarrant_highPointer (s : State) (w : Warrant) : (s.addWarrant w).highPointer = s.highPointer := rfl
@[simp] theorem State.addWarrant_lowPointer (s : State) (w : Warrant) : (s.addWarrant w).lowPointer = s.lowPointer := rfl
@[simp] theorem State.addWarrant_tamper (s : State) (w : Warrant) : (s.addWarrant w).tamper = s.tamper := rfl
@[simp] theorem State.addWarrant_passes (s : State) (w : Warrant) : (s.addWarrant w).passes = s.passes := rfl
@[simp] theorem State.addWarrant_draws (s : State) (w : Warrant) : (s.addWarrant w).draws = s.draws := rfl
@[simp] theorem State.addWarrant_pending (s : State) (w : Warrant) : (s.addWarrant w).pending = s.pending := rfl

/-! ### `State.debitTied` -/

@[simp] theorem State.debitTied_mode (s : State) (n : Nat) : (s.debitTied n).mode = s.mode := rfl
@[simp] theorem State.debitTied_vmain (s : State) (n : Nat) : (s.debitTied n).vmain = s.vmain := rfl
@[simp] theorem State.debitTied_resetHeld (s : State) (n : Nat) : (s.debitTied n).resetHeld = s.resetHeld := rfl
@[simp] theorem State.debitTied_battery (s : State) (n : Nat) : (s.debitTied n).battery = s.battery := rfl
@[simp] theorem State.debitTied_marker (s : State) (n : Nat) : (s.debitTied n).marker = s.marker := rfl
@[simp] theorem State.debitTied_batteryLossFlag (s : State) (n : Nat) : (s.debitTied n).batteryLossFlag = s.batteryLossFlag := rfl
@[simp] theorem State.debitTied_quantum (s : State) (n : Nat) : (s.debitTied n).quantum = s.quantum := rfl
@[simp] theorem State.debitTied_slots (s : State) (n : Nat) : (s.debitTied n).slots = s.slots := rfl
@[simp] theorem State.debitTied_storage (s : State) (n : Nat) : (s.debitTied n).storage = s.storage := rfl
@[simp] theorem State.debitTied_lanes (s : State) (n : Nat) : (s.debitTied n).lanes = s.lanes := rfl
@[simp] theorem State.debitTied_custody (s : State) (n : Nat) : (s.debitTied n).custody = s.custody := rfl
@[simp] theorem State.debitTied_engine (s : State) (n : Nat) : (s.debitTied n).engine = s.engine := rfl
@[simp] theorem State.debitTied_requesters (s : State) (n : Nat) : (s.debitTied n).requesters = s.requesters := rfl
@[simp] theorem State.debitTied_highPointer (s : State) (n : Nat) : (s.debitTied n).highPointer = s.highPointer := rfl
@[simp] theorem State.debitTied_lowPointer (s : State) (n : Nat) : (s.debitTied n).lowPointer = s.lowPointer := rfl
@[simp] theorem State.debitTied_tamper (s : State) (n : Nat) : (s.debitTied n).tamper = s.tamper := rfl
@[simp] theorem State.debitTied_passes (s : State) (n : Nat) : (s.debitTied n).passes = s.passes := rfl
@[simp] theorem State.debitTied_draws (s : State) (n : Nat) : (s.debitTied n).draws = s.draws := rfl
@[simp] theorem State.debitTied_nextSerial (s : State) (n : Nat) : (s.debitTied n).nextSerial = s.nextSerial := rfl
@[simp] theorem State.debitTied_pending (s : State) (n : Nat) : (s.debitTied n).pending = s.pending := rfl

/-! ### `State.advanceChain` -/

@[simp] theorem State.advanceChain_mode (s : State) (l : LaneId) (b : Block) : (s.advanceChain l b).mode = s.mode := rfl
@[simp] theorem State.advanceChain_vmain (s : State) (l : LaneId) (b : Block) : (s.advanceChain l b).vmain = s.vmain := rfl
@[simp] theorem State.advanceChain_resetHeld (s : State) (l : LaneId) (b : Block) : (s.advanceChain l b).resetHeld = s.resetHeld := rfl
@[simp] theorem State.advanceChain_battery (s : State) (l : LaneId) (b : Block) : (s.advanceChain l b).battery = s.battery := rfl
@[simp] theorem State.advanceChain_marker (s : State) (l : LaneId) (b : Block) : (s.advanceChain l b).marker = s.marker := rfl
@[simp] theorem State.advanceChain_batteryLossFlag (s : State) (l : LaneId) (b : Block) : (s.advanceChain l b).batteryLossFlag = s.batteryLossFlag := rfl
@[simp] theorem State.advanceChain_quantum (s : State) (l : LaneId) (b : Block) : (s.advanceChain l b).quantum = s.quantum := rfl
@[simp] theorem State.advanceChain_slots (s : State) (l : LaneId) (b : Block) : (s.advanceChain l b).slots = s.slots := rfl
@[simp] theorem State.advanceChain_storage (s : State) (l : LaneId) (b : Block) : (s.advanceChain l b).storage = s.storage := rfl
@[simp] theorem State.advanceChain_warrants (s : State) (l : LaneId) (b : Block) : (s.advanceChain l b).warrants = s.warrants := rfl
@[simp] theorem State.advanceChain_custody (s : State) (l : LaneId) (b : Block) : (s.advanceChain l b).custody = s.custody := rfl
@[simp] theorem State.advanceChain_engine (s : State) (l : LaneId) (b : Block) : (s.advanceChain l b).engine = s.engine := rfl
@[simp] theorem State.advanceChain_requesters (s : State) (l : LaneId) (b : Block) : (s.advanceChain l b).requesters = s.requesters := rfl
@[simp] theorem State.advanceChain_highPointer (s : State) (l : LaneId) (b : Block) : (s.advanceChain l b).highPointer = s.highPointer := rfl
@[simp] theorem State.advanceChain_lowPointer (s : State) (l : LaneId) (b : Block) : (s.advanceChain l b).lowPointer = s.lowPointer := rfl
@[simp] theorem State.advanceChain_tamper (s : State) (l : LaneId) (b : Block) : (s.advanceChain l b).tamper = s.tamper := rfl
@[simp] theorem State.advanceChain_passes (s : State) (l : LaneId) (b : Block) : (s.advanceChain l b).passes = s.passes := rfl
@[simp] theorem State.advanceChain_draws (s : State) (l : LaneId) (b : Block) : (s.advanceChain l b).draws = s.draws := rfl
@[simp] theorem State.advanceChain_nextSerial (s : State) (l : LaneId) (b : Block) : (s.advanceChain l b).nextSerial = s.nextSerial := rfl
@[simp] theorem State.advanceChain_pending (s : State) (l : LaneId) (b : Block) : (s.advanceChain l b).pending = s.pending := rfl

/-! ### `State.withdraw` -/

@[simp] theorem State.withdraw_mode (s : State) (r : Requester) : (s.withdraw r).mode = s.mode := rfl
@[simp] theorem State.withdraw_vmain (s : State) (r : Requester) : (s.withdraw r).vmain = s.vmain := rfl
@[simp] theorem State.withdraw_resetHeld (s : State) (r : Requester) : (s.withdraw r).resetHeld = s.resetHeld := rfl
@[simp] theorem State.withdraw_battery (s : State) (r : Requester) : (s.withdraw r).battery = s.battery := rfl
@[simp] theorem State.withdraw_marker (s : State) (r : Requester) : (s.withdraw r).marker = s.marker := rfl
@[simp] theorem State.withdraw_batteryLossFlag (s : State) (r : Requester) : (s.withdraw r).batteryLossFlag = s.batteryLossFlag := rfl
@[simp] theorem State.withdraw_quantum (s : State) (r : Requester) : (s.withdraw r).quantum = s.quantum := rfl
@[simp] theorem State.withdraw_slots (s : State) (r : Requester) : (s.withdraw r).slots = s.slots := rfl
@[simp] theorem State.withdraw_storage (s : State) (r : Requester) : (s.withdraw r).storage = s.storage := rfl
@[simp] theorem State.withdraw_warrants (s : State) (r : Requester) : (s.withdraw r).warrants = s.warrants := rfl
@[simp] theorem State.withdraw_lanes (s : State) (r : Requester) : (s.withdraw r).lanes = s.lanes := rfl
@[simp] theorem State.withdraw_custody (s : State) (r : Requester) : (s.withdraw r).custody = s.custody := rfl
@[simp] theorem State.withdraw_engine (s : State) (r : Requester) : (s.withdraw r).engine = s.engine := rfl
@[simp] theorem State.withdraw_highPointer (s : State) (r : Requester) : (s.withdraw r).highPointer = s.highPointer := rfl
@[simp] theorem State.withdraw_lowPointer (s : State) (r : Requester) : (s.withdraw r).lowPointer = s.lowPointer := rfl
@[simp] theorem State.withdraw_tamper (s : State) (r : Requester) : (s.withdraw r).tamper = s.tamper := rfl
@[simp] theorem State.withdraw_passes (s : State) (r : Requester) : (s.withdraw r).passes = s.passes := rfl
@[simp] theorem State.withdraw_draws (s : State) (r : Requester) : (s.withdraw r).draws = s.draws := rfl
@[simp] theorem State.withdraw_nextSerial (s : State) (r : Requester) : (s.withdraw r).nextSerial = s.nextSerial := rfl
@[simp] theorem State.withdraw_pending (s : State) (r : Requester) : (s.withdraw r).pending = s.pending := rfl

/-! ### `State.nextOp` -/

@[simp] theorem State.nextOp_mode (s : State) (g : CustodyGrant) (p : Process) : (s.nextOp g p).mode = s.mode := rfl
@[simp] theorem State.nextOp_vmain (s : State) (g : CustodyGrant) (p : Process) : (s.nextOp g p).vmain = s.vmain := rfl
@[simp] theorem State.nextOp_resetHeld (s : State) (g : CustodyGrant) (p : Process) : (s.nextOp g p).resetHeld = s.resetHeld := rfl
@[simp] theorem State.nextOp_battery (s : State) (g : CustodyGrant) (p : Process) : (s.nextOp g p).battery = s.battery := rfl
@[simp] theorem State.nextOp_marker (s : State) (g : CustodyGrant) (p : Process) : (s.nextOp g p).marker = s.marker := rfl
@[simp] theorem State.nextOp_batteryLossFlag (s : State) (g : CustodyGrant) (p : Process) : (s.nextOp g p).batteryLossFlag = s.batteryLossFlag := rfl
@[simp] theorem State.nextOp_quantum (s : State) (g : CustodyGrant) (p : Process) : (s.nextOp g p).quantum = s.quantum := rfl
@[simp] theorem State.nextOp_slots (s : State) (g : CustodyGrant) (p : Process) : (s.nextOp g p).slots = s.slots := rfl
@[simp] theorem State.nextOp_storage (s : State) (g : CustodyGrant) (p : Process) : (s.nextOp g p).storage = s.storage := rfl
@[simp] theorem State.nextOp_warrants (s : State) (g : CustodyGrant) (p : Process) : (s.nextOp g p).warrants = s.warrants := rfl
@[simp] theorem State.nextOp_lanes (s : State) (g : CustodyGrant) (p : Process) : (s.nextOp g p).lanes = s.lanes := rfl
@[simp] theorem State.nextOp_requesters (s : State) (g : CustodyGrant) (p : Process) : (s.nextOp g p).requesters = s.requesters := rfl
@[simp] theorem State.nextOp_highPointer (s : State) (g : CustodyGrant) (p : Process) : (s.nextOp g p).highPointer = s.highPointer := rfl
@[simp] theorem State.nextOp_lowPointer (s : State) (g : CustodyGrant) (p : Process) : (s.nextOp g p).lowPointer = s.lowPointer := rfl
@[simp] theorem State.nextOp_tamper (s : State) (g : CustodyGrant) (p : Process) : (s.nextOp g p).tamper = s.tamper := rfl
@[simp] theorem State.nextOp_passes (s : State) (g : CustodyGrant) (p : Process) : (s.nextOp g p).passes = s.passes := rfl
@[simp] theorem State.nextOp_draws (s : State) (g : CustodyGrant) (p : Process) : (s.nextOp g p).draws = s.draws := rfl
@[simp] theorem State.nextOp_nextSerial (s : State) (g : CustodyGrant) (p : Process) : (s.nextOp g p).nextSerial = s.nextSerial := rfl
@[simp] theorem State.nextOp_pending (s : State) (g : CustodyGrant) (p : Process) : (s.nextOp g p).pending = s.pending := rfl

/-! ### `State.custodyOk` -/

@[simp] theorem State.custodyOk_mode (s : State) (k : Byte) (n : Note) (fs : List Byte) : (s.custodyOk k n fs).mode = s.mode := rfl
@[simp] theorem State.custodyOk_vmain (s : State) (k : Byte) (n : Note) (fs : List Byte) : (s.custodyOk k n fs).vmain = s.vmain := rfl
@[simp] theorem State.custodyOk_resetHeld (s : State) (k : Byte) (n : Note) (fs : List Byte) : (s.custodyOk k n fs).resetHeld = s.resetHeld := rfl
@[simp] theorem State.custodyOk_battery (s : State) (k : Byte) (n : Note) (fs : List Byte) : (s.custodyOk k n fs).battery = s.battery := rfl
@[simp] theorem State.custodyOk_marker (s : State) (k : Byte) (n : Note) (fs : List Byte) : (s.custodyOk k n fs).marker = s.marker := rfl
@[simp] theorem State.custodyOk_batteryLossFlag (s : State) (k : Byte) (n : Note) (fs : List Byte) : (s.custodyOk k n fs).batteryLossFlag = s.batteryLossFlag := rfl
@[simp] theorem State.custodyOk_quantum (s : State) (k : Byte) (n : Note) (fs : List Byte) : (s.custodyOk k n fs).quantum = s.quantum := rfl
@[simp] theorem State.custodyOk_slots (s : State) (k : Byte) (n : Note) (fs : List Byte) : (s.custodyOk k n fs).slots = s.slots := rfl
@[simp] theorem State.custodyOk_storage (s : State) (k : Byte) (n : Note) (fs : List Byte) : (s.custodyOk k n fs).storage = s.storage := rfl
@[simp] theorem State.custodyOk_warrants (s : State) (k : Byte) (n : Note) (fs : List Byte) : (s.custodyOk k n fs).warrants = s.warrants := rfl
@[simp] theorem State.custodyOk_lanes (s : State) (k : Byte) (n : Note) (fs : List Byte) : (s.custodyOk k n fs).lanes = s.lanes := rfl
@[simp] theorem State.custodyOk_engine (s : State) (k : Byte) (n : Note) (fs : List Byte) : (s.custodyOk k n fs).engine = s.engine := rfl
@[simp] theorem State.custodyOk_requesters (s : State) (k : Byte) (n : Note) (fs : List Byte) : (s.custodyOk k n fs).requesters = s.requesters := rfl
@[simp] theorem State.custodyOk_highPointer (s : State) (k : Byte) (n : Note) (fs : List Byte) : (s.custodyOk k n fs).highPointer = s.highPointer := rfl
@[simp] theorem State.custodyOk_lowPointer (s : State) (k : Byte) (n : Note) (fs : List Byte) : (s.custodyOk k n fs).lowPointer = s.lowPointer := rfl
@[simp] theorem State.custodyOk_tamper (s : State) (k : Byte) (n : Note) (fs : List Byte) : (s.custodyOk k n fs).tamper = s.tamper := rfl
@[simp] theorem State.custodyOk_passes (s : State) (k : Byte) (n : Note) (fs : List Byte) : (s.custodyOk k n fs).passes = s.passes := rfl
@[simp] theorem State.custodyOk_draws (s : State) (k : Byte) (n : Note) (fs : List Byte) : (s.custodyOk k n fs).draws = s.draws := rfl
@[simp] theorem State.custodyOk_nextSerial (s : State) (k : Byte) (n : Note) (fs : List Byte) : (s.custodyOk k n fs).nextSerial = s.nextSerial := rfl
@[simp] theorem State.custodyOk_pending (s : State) (k : Byte) (n : Note) (fs : List Byte) : (s.custodyOk k n fs).pending = s.pending := rfl

/-! ### `State.custodyRefuse` -/

@[simp] theorem State.custodyRefuse_mode (s : State) (k : Byte) (c : Code) : (s.custodyRefuse k c).mode = s.mode := rfl
@[simp] theorem State.custodyRefuse_vmain (s : State) (k : Byte) (c : Code) : (s.custodyRefuse k c).vmain = s.vmain := rfl
@[simp] theorem State.custodyRefuse_resetHeld (s : State) (k : Byte) (c : Code) : (s.custodyRefuse k c).resetHeld = s.resetHeld := rfl
@[simp] theorem State.custodyRefuse_battery (s : State) (k : Byte) (c : Code) : (s.custodyRefuse k c).battery = s.battery := rfl
@[simp] theorem State.custodyRefuse_marker (s : State) (k : Byte) (c : Code) : (s.custodyRefuse k c).marker = s.marker := rfl
@[simp] theorem State.custodyRefuse_batteryLossFlag (s : State) (k : Byte) (c : Code) : (s.custodyRefuse k c).batteryLossFlag = s.batteryLossFlag := rfl
@[simp] theorem State.custodyRefuse_quantum (s : State) (k : Byte) (c : Code) : (s.custodyRefuse k c).quantum = s.quantum := rfl
@[simp] theorem State.custodyRefuse_slots (s : State) (k : Byte) (c : Code) : (s.custodyRefuse k c).slots = s.slots := rfl
@[simp] theorem State.custodyRefuse_storage (s : State) (k : Byte) (c : Code) : (s.custodyRefuse k c).storage = s.storage := rfl
@[simp] theorem State.custodyRefuse_warrants (s : State) (k : Byte) (c : Code) : (s.custodyRefuse k c).warrants = s.warrants := rfl
@[simp] theorem State.custodyRefuse_lanes (s : State) (k : Byte) (c : Code) : (s.custodyRefuse k c).lanes = s.lanes := rfl
@[simp] theorem State.custodyRefuse_engine (s : State) (k : Byte) (c : Code) : (s.custodyRefuse k c).engine = s.engine := rfl
@[simp] theorem State.custodyRefuse_requesters (s : State) (k : Byte) (c : Code) : (s.custodyRefuse k c).requesters = s.requesters := rfl
@[simp] theorem State.custodyRefuse_highPointer (s : State) (k : Byte) (c : Code) : (s.custodyRefuse k c).highPointer = s.highPointer := rfl
@[simp] theorem State.custodyRefuse_lowPointer (s : State) (k : Byte) (c : Code) : (s.custodyRefuse k c).lowPointer = s.lowPointer := rfl
@[simp] theorem State.custodyRefuse_tamper (s : State) (k : Byte) (c : Code) : (s.custodyRefuse k c).tamper = s.tamper := rfl
@[simp] theorem State.custodyRefuse_passes (s : State) (k : Byte) (c : Code) : (s.custodyRefuse k c).passes = s.passes := rfl
@[simp] theorem State.custodyRefuse_draws (s : State) (k : Byte) (c : Code) : (s.custodyRefuse k c).draws = s.draws := rfl
@[simp] theorem State.custodyRefuse_nextSerial (s : State) (k : Byte) (c : Code) : (s.custodyRefuse k c).nextSerial = s.nextSerial := rfl
@[simp] theorem State.custodyRefuse_pending (s : State) (k : Byte) (c : Code) : (s.custodyRefuse k c).pending = s.pending := rfl

/-! ### `State.laneRefuse` -/

@[simp] theorem State.laneRefuse_mode (s : State) (l : LaneId) (k : Byte) (c : Code) : (s.laneRefuse l k c).mode = s.mode := rfl
@[simp] theorem State.laneRefuse_vmain (s : State) (l : LaneId) (k : Byte) (c : Code) : (s.laneRefuse l k c).vmain = s.vmain := rfl
@[simp] theorem State.laneRefuse_resetHeld (s : State) (l : LaneId) (k : Byte) (c : Code) : (s.laneRefuse l k c).resetHeld = s.resetHeld := rfl
@[simp] theorem State.laneRefuse_battery (s : State) (l : LaneId) (k : Byte) (c : Code) : (s.laneRefuse l k c).battery = s.battery := rfl
@[simp] theorem State.laneRefuse_marker (s : State) (l : LaneId) (k : Byte) (c : Code) : (s.laneRefuse l k c).marker = s.marker := rfl
@[simp] theorem State.laneRefuse_batteryLossFlag (s : State) (l : LaneId) (k : Byte) (c : Code) : (s.laneRefuse l k c).batteryLossFlag = s.batteryLossFlag := rfl
@[simp] theorem State.laneRefuse_quantum (s : State) (l : LaneId) (k : Byte) (c : Code) : (s.laneRefuse l k c).quantum = s.quantum := rfl
@[simp] theorem State.laneRefuse_slots (s : State) (l : LaneId) (k : Byte) (c : Code) : (s.laneRefuse l k c).slots = s.slots := rfl
@[simp] theorem State.laneRefuse_storage (s : State) (l : LaneId) (k : Byte) (c : Code) : (s.laneRefuse l k c).storage = s.storage := rfl
@[simp] theorem State.laneRefuse_warrants (s : State) (l : LaneId) (k : Byte) (c : Code) : (s.laneRefuse l k c).warrants = s.warrants := rfl
@[simp] theorem State.laneRefuse_custody (s : State) (l : LaneId) (k : Byte) (c : Code) : (s.laneRefuse l k c).custody = s.custody := rfl
@[simp] theorem State.laneRefuse_engine (s : State) (l : LaneId) (k : Byte) (c : Code) : (s.laneRefuse l k c).engine = s.engine := rfl
@[simp] theorem State.laneRefuse_requesters (s : State) (l : LaneId) (k : Byte) (c : Code) : (s.laneRefuse l k c).requesters = s.requesters := rfl
@[simp] theorem State.laneRefuse_highPointer (s : State) (l : LaneId) (k : Byte) (c : Code) : (s.laneRefuse l k c).highPointer = s.highPointer := rfl
@[simp] theorem State.laneRefuse_lowPointer (s : State) (l : LaneId) (k : Byte) (c : Code) : (s.laneRefuse l k c).lowPointer = s.lowPointer := rfl
@[simp] theorem State.laneRefuse_tamper (s : State) (l : LaneId) (k : Byte) (c : Code) : (s.laneRefuse l k c).tamper = s.tamper := rfl
@[simp] theorem State.laneRefuse_passes (s : State) (l : LaneId) (k : Byte) (c : Code) : (s.laneRefuse l k c).passes = s.passes := rfl
@[simp] theorem State.laneRefuse_draws (s : State) (l : LaneId) (k : Byte) (c : Code) : (s.laneRefuse l k c).draws = s.draws := rfl
@[simp] theorem State.laneRefuse_nextSerial (s : State) (l : LaneId) (k : Byte) (c : Code) : (s.laneRefuse l k c).nextSerial = s.nextSerial := rfl
@[simp] theorem State.laneRefuse_pending (s : State) (l : LaneId) (k : Byte) (c : Code) : (s.laneRefuse l k c).pending = s.pending := rfl

/-! ### `State.withPending` -/

@[simp] theorem State.withPending_mode (s : State) (cs : List Instr) : (s.withPending cs).mode = s.mode := rfl
@[simp] theorem State.withPending_vmain (s : State) (cs : List Instr) : (s.withPending cs).vmain = s.vmain := rfl
@[simp] theorem State.withPending_resetHeld (s : State) (cs : List Instr) : (s.withPending cs).resetHeld = s.resetHeld := rfl
@[simp] theorem State.withPending_battery (s : State) (cs : List Instr) : (s.withPending cs).battery = s.battery := rfl
@[simp] theorem State.withPending_marker (s : State) (cs : List Instr) : (s.withPending cs).marker = s.marker := rfl
@[simp] theorem State.withPending_batteryLossFlag (s : State) (cs : List Instr) : (s.withPending cs).batteryLossFlag = s.batteryLossFlag := rfl
@[simp] theorem State.withPending_quantum (s : State) (cs : List Instr) : (s.withPending cs).quantum = s.quantum := rfl
@[simp] theorem State.withPending_slots (s : State) (cs : List Instr) : (s.withPending cs).slots = s.slots := rfl
@[simp] theorem State.withPending_storage (s : State) (cs : List Instr) : (s.withPending cs).storage = s.storage := rfl
@[simp] theorem State.withPending_warrants (s : State) (cs : List Instr) : (s.withPending cs).warrants = s.warrants := rfl
@[simp] theorem State.withPending_lanes (s : State) (cs : List Instr) : (s.withPending cs).lanes = s.lanes := rfl
@[simp] theorem State.withPending_custody (s : State) (cs : List Instr) : (s.withPending cs).custody = s.custody := rfl
@[simp] theorem State.withPending_engine (s : State) (cs : List Instr) : (s.withPending cs).engine = s.engine := rfl
@[simp] theorem State.withPending_requesters (s : State) (cs : List Instr) : (s.withPending cs).requesters = s.requesters := rfl
@[simp] theorem State.withPending_highPointer (s : State) (cs : List Instr) : (s.withPending cs).highPointer = s.highPointer := rfl
@[simp] theorem State.withPending_lowPointer (s : State) (cs : List Instr) : (s.withPending cs).lowPointer = s.lowPointer := rfl
@[simp] theorem State.withPending_tamper (s : State) (cs : List Instr) : (s.withPending cs).tamper = s.tamper := rfl
@[simp] theorem State.withPending_passes (s : State) (cs : List Instr) : (s.withPending cs).passes = s.passes := rfl
@[simp] theorem State.withPending_draws (s : State) (cs : List Instr) : (s.withPending cs).draws = s.draws := rfl
@[simp] theorem State.withPending_nextSerial (s : State) (cs : List Instr) : (s.withPending cs).nextSerial = s.nextSerial := rfl

/-! ### `State.eraseBegin` -/

@[simp] theorem State.eraseBegin_vmain (s : State) : (s.eraseBegin).vmain = s.vmain := by simp only [State.eraseBegin]
@[simp] theorem State.eraseBegin_resetHeld (s : State) : (s.eraseBegin).resetHeld = s.resetHeld := by simp only [State.eraseBegin]
@[simp] theorem State.eraseBegin_battery (s : State) : (s.eraseBegin).battery = s.battery := by simp only [State.eraseBegin]
@[simp] theorem State.eraseBegin_marker (s : State) : (s.eraseBegin).marker = s.marker := by simp only [State.eraseBegin]
@[simp] theorem State.eraseBegin_batteryLossFlag (s : State) : (s.eraseBegin).batteryLossFlag = s.batteryLossFlag := by simp only [State.eraseBegin]
@[simp] theorem State.eraseBegin_quantum (s : State) : (s.eraseBegin).quantum = s.quantum := by simp only [State.eraseBegin]
@[simp] theorem State.eraseBegin_slots (s : State) : (s.eraseBegin).slots = s.slots := by simp only [State.eraseBegin]
@[simp] theorem State.eraseBegin_storage (s : State) : (s.eraseBegin).storage = s.storage := by simp only [State.eraseBegin]
@[simp] theorem State.eraseBegin_highPointer (s : State) : (s.eraseBegin).highPointer = s.highPointer := by simp only [State.eraseBegin]
@[simp] theorem State.eraseBegin_lowPointer (s : State) : (s.eraseBegin).lowPointer = s.lowPointer := by simp only [State.eraseBegin]
@[simp] theorem State.eraseBegin_written (s : State) : (s.eraseBegin).passes.written = 0 := by simp only [State.eraseBegin]
@[simp] theorem State.eraseBegin_units (s : State) : (s.eraseBegin).passes.units = s.passes.units := by simp only [State.eraseBegin]
@[simp] theorem State.eraseBegin_draws (s : State) : (s.eraseBegin).draws = s.draws := by simp only [State.eraseBegin]
@[simp] theorem State.eraseBegin_nextSerial (s : State) : (s.eraseBegin).nextSerial = s.nextSerial := by simp only [State.eraseBegin]
@[simp] theorem State.eraseBegin_pending (s : State) : (s.eraseBegin).pending = s.pending := by simp only [State.eraseBegin]

/-! ### `State.sweepAssemblies` -/

@[simp] theorem State.sweepAssemblies_mode (s : State) : (s.sweepAssemblies).mode = s.mode := by simp only [State.sweepAssemblies]
@[simp] theorem State.sweepAssemblies_vmain (s : State) : (s.sweepAssemblies).vmain = s.vmain := by simp only [State.sweepAssemblies]
@[simp] theorem State.sweepAssemblies_resetHeld (s : State) : (s.sweepAssemblies).resetHeld = s.resetHeld := by simp only [State.sweepAssemblies]
@[simp] theorem State.sweepAssemblies_battery (s : State) : (s.sweepAssemblies).battery = s.battery := by simp only [State.sweepAssemblies]
@[simp] theorem State.sweepAssemblies_marker (s : State) : (s.sweepAssemblies).marker = s.marker := by simp only [State.sweepAssemblies]
@[simp] theorem State.sweepAssemblies_batteryLossFlag (s : State) : (s.sweepAssemblies).batteryLossFlag = s.batteryLossFlag := by simp only [State.sweepAssemblies]
@[simp] theorem State.sweepAssemblies_quantum (s : State) : (s.sweepAssemblies).quantum = s.quantum := by simp only [State.sweepAssemblies]
@[simp] theorem State.sweepAssemblies_storage (s : State) : (s.sweepAssemblies).storage = s.storage := by simp only [State.sweepAssemblies]
@[simp] theorem State.sweepAssemblies_warrants (s : State) : (s.sweepAssemblies).warrants = s.warrants := by simp only [State.sweepAssemblies]
@[simp] theorem State.sweepAssemblies_lanes (s : State) : (s.sweepAssemblies).lanes = s.lanes := by simp only [State.sweepAssemblies]
@[simp] theorem State.sweepAssemblies_custody (s : State) : (s.sweepAssemblies).custody = s.custody := by simp only [State.sweepAssemblies]
@[simp] theorem State.sweepAssemblies_engine (s : State) : (s.sweepAssemblies).engine = s.engine := by simp only [State.sweepAssemblies]
@[simp] theorem State.sweepAssemblies_requesters (s : State) : (s.sweepAssemblies).requesters = s.requesters := by simp only [State.sweepAssemblies]
@[simp] theorem State.sweepAssemblies_highPointer (s : State) : (s.sweepAssemblies).highPointer = s.highPointer := by simp only [State.sweepAssemblies]
@[simp] theorem State.sweepAssemblies_lowPointer (s : State) : (s.sweepAssemblies).lowPointer = s.lowPointer := by simp only [State.sweepAssemblies]
@[simp] theorem State.sweepAssemblies_tamper (s : State) : (s.sweepAssemblies).tamper = s.tamper := by simp only [State.sweepAssemblies]
@[simp] theorem State.sweepAssemblies_passes (s : State) : (s.sweepAssemblies).passes = s.passes := by simp only [State.sweepAssemblies]
@[simp] theorem State.sweepAssemblies_draws (s : State) : (s.sweepAssemblies).draws = s.draws := by simp only [State.sweepAssemblies]
@[simp] theorem State.sweepAssemblies_nextSerial (s : State) : (s.sweepAssemblies).nextSerial = s.nextSerial := by simp only [State.sweepAssemblies]
@[simp] theorem State.sweepAssemblies_pending (s : State) : (s.sweepAssemblies).pending = s.pending := by simp only [State.sweepAssemblies]

/-! ### `State.sweepIntegrity` -/

@[simp] theorem State.sweepIntegrity_mode (s : State) : (s.sweepIntegrity).mode = s.mode := by simp only [State.sweepIntegrity]
@[simp] theorem State.sweepIntegrity_vmain (s : State) : (s.sweepIntegrity).vmain = s.vmain := by simp only [State.sweepIntegrity]
@[simp] theorem State.sweepIntegrity_resetHeld (s : State) : (s.sweepIntegrity).resetHeld = s.resetHeld := by simp only [State.sweepIntegrity]
@[simp] theorem State.sweepIntegrity_battery (s : State) : (s.sweepIntegrity).battery = s.battery := by simp only [State.sweepIntegrity]
@[simp] theorem State.sweepIntegrity_marker (s : State) : (s.sweepIntegrity).marker = s.marker := by simp only [State.sweepIntegrity]
@[simp] theorem State.sweepIntegrity_batteryLossFlag (s : State) : (s.sweepIntegrity).batteryLossFlag = s.batteryLossFlag := by simp only [State.sweepIntegrity]
@[simp] theorem State.sweepIntegrity_quantum (s : State) : (s.sweepIntegrity).quantum = s.quantum := by simp only [State.sweepIntegrity]
@[simp] theorem State.sweepIntegrity_storage (s : State) : (s.sweepIntegrity).storage = s.storage := by simp only [State.sweepIntegrity]
@[simp] theorem State.sweepIntegrity_warrants (s : State) : (s.sweepIntegrity).warrants = s.warrants := by simp only [State.sweepIntegrity]
@[simp] theorem State.sweepIntegrity_lanes (s : State) : (s.sweepIntegrity).lanes = s.lanes := by simp only [State.sweepIntegrity]
@[simp] theorem State.sweepIntegrity_custody (s : State) : (s.sweepIntegrity).custody = s.custody := by simp only [State.sweepIntegrity]
@[simp] theorem State.sweepIntegrity_engine (s : State) : (s.sweepIntegrity).engine = s.engine := by simp only [State.sweepIntegrity]
@[simp] theorem State.sweepIntegrity_requesters (s : State) : (s.sweepIntegrity).requesters = s.requesters := by simp only [State.sweepIntegrity]
@[simp] theorem State.sweepIntegrity_highPointer (s : State) : (s.sweepIntegrity).highPointer = s.highPointer := by simp only [State.sweepIntegrity]
@[simp] theorem State.sweepIntegrity_lowPointer (s : State) : (s.sweepIntegrity).lowPointer = s.lowPointer := by simp only [State.sweepIntegrity]
@[simp] theorem State.sweepIntegrity_tamper (s : State) : (s.sweepIntegrity).tamper = s.tamper := by simp only [State.sweepIntegrity]
@[simp] theorem State.sweepIntegrity_passes (s : State) : (s.sweepIntegrity).passes = s.passes := by simp only [State.sweepIntegrity]
@[simp] theorem State.sweepIntegrity_draws (s : State) : (s.sweepIntegrity).draws = s.draws := by simp only [State.sweepIntegrity]
@[simp] theorem State.sweepIntegrity_nextSerial (s : State) : (s.sweepIntegrity).nextSerial = s.nextSerial := by simp only [State.sweepIntegrity]
@[simp] theorem State.sweepIntegrity_pending (s : State) : (s.sweepIntegrity).pending = s.pending := by simp only [State.sweepIntegrity]

/-! ### `State.sweepWarrants` -/

@[simp] theorem State.sweepWarrants_mode (s : State) : (s.sweepWarrants).mode = s.mode := by simp only [State.sweepWarrants]
@[simp] theorem State.sweepWarrants_vmain (s : State) : (s.sweepWarrants).vmain = s.vmain := by simp only [State.sweepWarrants]
@[simp] theorem State.sweepWarrants_resetHeld (s : State) : (s.sweepWarrants).resetHeld = s.resetHeld := by simp only [State.sweepWarrants]
@[simp] theorem State.sweepWarrants_battery (s : State) : (s.sweepWarrants).battery = s.battery := by simp only [State.sweepWarrants]
@[simp] theorem State.sweepWarrants_marker (s : State) : (s.sweepWarrants).marker = s.marker := by simp only [State.sweepWarrants]
@[simp] theorem State.sweepWarrants_batteryLossFlag (s : State) : (s.sweepWarrants).batteryLossFlag = s.batteryLossFlag := by simp only [State.sweepWarrants]
@[simp] theorem State.sweepWarrants_quantum (s : State) : (s.sweepWarrants).quantum = s.quantum := by simp only [State.sweepWarrants]
@[simp] theorem State.sweepWarrants_slots (s : State) : (s.sweepWarrants).slots = s.slots := by simp only [State.sweepWarrants]
@[simp] theorem State.sweepWarrants_storage (s : State) : (s.sweepWarrants).storage = s.storage := by simp only [State.sweepWarrants]
@[simp] theorem State.sweepWarrants_lanes (s : State) : (s.sweepWarrants).lanes = s.lanes := by simp only [State.sweepWarrants]
@[simp] theorem State.sweepWarrants_custody (s : State) : (s.sweepWarrants).custody = s.custody := by simp only [State.sweepWarrants]
@[simp] theorem State.sweepWarrants_engine (s : State) : (s.sweepWarrants).engine = s.engine := by simp only [State.sweepWarrants]
@[simp] theorem State.sweepWarrants_requesters (s : State) : (s.sweepWarrants).requesters = s.requesters := by simp only [State.sweepWarrants]
@[simp] theorem State.sweepWarrants_highPointer (s : State) : (s.sweepWarrants).highPointer = s.highPointer := by simp only [State.sweepWarrants]
@[simp] theorem State.sweepWarrants_lowPointer (s : State) : (s.sweepWarrants).lowPointer = s.lowPointer := by simp only [State.sweepWarrants]
@[simp] theorem State.sweepWarrants_tamper (s : State) : (s.sweepWarrants).tamper = s.tamper := by simp only [State.sweepWarrants]
@[simp] theorem State.sweepWarrants_passes (s : State) : (s.sweepWarrants).passes = s.passes := by simp only [State.sweepWarrants]
@[simp] theorem State.sweepWarrants_draws (s : State) : (s.sweepWarrants).draws = s.draws := by simp only [State.sweepWarrants]
@[simp] theorem State.sweepWarrants_nextSerial (s : State) : (s.sweepWarrants).nextSerial = s.nextSerial := by simp only [State.sweepWarrants]
@[simp] theorem State.sweepWarrants_pending (s : State) : (s.sweepWarrants).pending = s.pending := by simp only [State.sweepWarrants]

/-! ### `State.sweepLanes` -/

@[simp] theorem State.sweepLanes_mode (s : State) : (s.sweepLanes).mode = s.mode := by simp only [State.sweepLanes]
@[simp] theorem State.sweepLanes_vmain (s : State) : (s.sweepLanes).vmain = s.vmain := by simp only [State.sweepLanes]
@[simp] theorem State.sweepLanes_resetHeld (s : State) : (s.sweepLanes).resetHeld = s.resetHeld := by simp only [State.sweepLanes]
@[simp] theorem State.sweepLanes_battery (s : State) : (s.sweepLanes).battery = s.battery := by simp only [State.sweepLanes]
@[simp] theorem State.sweepLanes_marker (s : State) : (s.sweepLanes).marker = s.marker := by simp only [State.sweepLanes]
@[simp] theorem State.sweepLanes_batteryLossFlag (s : State) : (s.sweepLanes).batteryLossFlag = s.batteryLossFlag := by simp only [State.sweepLanes]
@[simp] theorem State.sweepLanes_quantum (s : State) : (s.sweepLanes).quantum = s.quantum := by simp only [State.sweepLanes]
@[simp] theorem State.sweepLanes_slots (s : State) : (s.sweepLanes).slots = s.slots := by simp only [State.sweepLanes]
@[simp] theorem State.sweepLanes_storage (s : State) : (s.sweepLanes).storage = s.storage := by simp only [State.sweepLanes]
@[simp] theorem State.sweepLanes_warrants (s : State) : (s.sweepLanes).warrants = s.warrants := by simp only [State.sweepLanes]
@[simp] theorem State.sweepLanes_custody (s : State) : (s.sweepLanes).custody = s.custody := by simp only [State.sweepLanes]
@[simp] theorem State.sweepLanes_engine (s : State) : (s.sweepLanes).engine = s.engine := by simp only [State.sweepLanes]
@[simp] theorem State.sweepLanes_requesters (s : State) : (s.sweepLanes).requesters = s.requesters := by simp only [State.sweepLanes]
@[simp] theorem State.sweepLanes_highPointer (s : State) : (s.sweepLanes).highPointer = s.highPointer := by simp only [State.sweepLanes]
@[simp] theorem State.sweepLanes_lowPointer (s : State) : (s.sweepLanes).lowPointer = s.lowPointer := by simp only [State.sweepLanes]
@[simp] theorem State.sweepLanes_tamper (s : State) : (s.sweepLanes).tamper = s.tamper := by simp only [State.sweepLanes]
@[simp] theorem State.sweepLanes_passes (s : State) : (s.sweepLanes).passes = s.passes := by simp only [State.sweepLanes]
@[simp] theorem State.sweepLanes_draws (s : State) : (s.sweepLanes).draws = s.draws := by simp only [State.sweepLanes]
@[simp] theorem State.sweepLanes_nextSerial (s : State) : (s.sweepLanes).nextSerial = s.nextSerial := by simp only [State.sweepLanes]
@[simp] theorem State.sweepLanes_pending (s : State) : (s.sweepLanes).pending = s.pending := by simp only [State.sweepLanes]

/-! ### `State.sweepReferences` -/

@[simp] theorem State.sweepReferences_mode (s : State) : (s.sweepReferences).mode = s.mode := by simp only [State.sweepReferences]
@[simp] theorem State.sweepReferences_vmain (s : State) : (s.sweepReferences).vmain = s.vmain := by simp only [State.sweepReferences]
@[simp] theorem State.sweepReferences_resetHeld (s : State) : (s.sweepReferences).resetHeld = s.resetHeld := by simp only [State.sweepReferences]
@[simp] theorem State.sweepReferences_battery (s : State) : (s.sweepReferences).battery = s.battery := by simp only [State.sweepReferences]
@[simp] theorem State.sweepReferences_marker (s : State) : (s.sweepReferences).marker = s.marker := by simp only [State.sweepReferences]
@[simp] theorem State.sweepReferences_batteryLossFlag (s : State) : (s.sweepReferences).batteryLossFlag = s.batteryLossFlag := by simp only [State.sweepReferences]
@[simp] theorem State.sweepReferences_quantum (s : State) : (s.sweepReferences).quantum = s.quantum := by simp only [State.sweepReferences]
@[simp] theorem State.sweepReferences_storage (s : State) : (s.sweepReferences).storage = s.storage := by simp only [State.sweepReferences]
@[simp] theorem State.sweepReferences_warrants (s : State) : (s.sweepReferences).warrants = s.warrants := by simp only [State.sweepReferences]
@[simp] theorem State.sweepReferences_lanes (s : State) : (s.sweepReferences).lanes = s.lanes := by simp only [State.sweepReferences]
@[simp] theorem State.sweepReferences_custody (s : State) : (s.sweepReferences).custody = s.custody := by simp only [State.sweepReferences]
@[simp] theorem State.sweepReferences_engine (s : State) : (s.sweepReferences).engine = s.engine := by simp only [State.sweepReferences]
@[simp] theorem State.sweepReferences_requesters (s : State) : (s.sweepReferences).requesters = s.requesters := by simp only [State.sweepReferences]
@[simp] theorem State.sweepReferences_highPointer (s : State) : (s.sweepReferences).highPointer = s.highPointer := by simp only [State.sweepReferences]
@[simp] theorem State.sweepReferences_lowPointer (s : State) : (s.sweepReferences).lowPointer = s.lowPointer := by simp only [State.sweepReferences]
@[simp] theorem State.sweepReferences_tamper (s : State) : (s.sweepReferences).tamper = s.tamper := by simp only [State.sweepReferences]
@[simp] theorem State.sweepReferences_passes (s : State) : (s.sweepReferences).passes = s.passes := by simp only [State.sweepReferences]
@[simp] theorem State.sweepReferences_draws (s : State) : (s.sweepReferences).draws = s.draws := by simp only [State.sweepReferences]
@[simp] theorem State.sweepReferences_nextSerial (s : State) : (s.sweepReferences).nextSerial = s.nextSerial := by simp only [State.sweepReferences]
@[simp] theorem State.sweepReferences_pending (s : State) : (s.sweepReferences).pending = s.pending := by simp only [State.sweepReferences]

/-! ### `State.resetChains` -/

@[simp] theorem State.resetChains_mode (s : State) : (s.resetChains).mode = s.mode := by simp only [State.resetChains]
@[simp] theorem State.resetChains_vmain (s : State) : (s.resetChains).vmain = s.vmain := by simp only [State.resetChains]
@[simp] theorem State.resetChains_resetHeld (s : State) : (s.resetChains).resetHeld = s.resetHeld := by simp only [State.resetChains]
@[simp] theorem State.resetChains_battery (s : State) : (s.resetChains).battery = s.battery := by simp only [State.resetChains]
@[simp] theorem State.resetChains_marker (s : State) : (s.resetChains).marker = s.marker := by simp only [State.resetChains]
@[simp] theorem State.resetChains_batteryLossFlag (s : State) : (s.resetChains).batteryLossFlag = s.batteryLossFlag := by simp only [State.resetChains]
@[simp] theorem State.resetChains_quantum (s : State) : (s.resetChains).quantum = s.quantum := by simp only [State.resetChains]
@[simp] theorem State.resetChains_slots (s : State) : (s.resetChains).slots = s.slots := by simp only [State.resetChains]
@[simp] theorem State.resetChains_storage (s : State) : (s.resetChains).storage = s.storage := by simp only [State.resetChains]
@[simp] theorem State.resetChains_warrants (s : State) : (s.resetChains).warrants = s.warrants := by simp only [State.resetChains]
@[simp] theorem State.resetChains_custody (s : State) : (s.resetChains).custody = s.custody := by simp only [State.resetChains]
@[simp] theorem State.resetChains_engine (s : State) : (s.resetChains).engine = s.engine := by simp only [State.resetChains]
@[simp] theorem State.resetChains_requesters (s : State) : (s.resetChains).requesters = s.requesters := by simp only [State.resetChains]
@[simp] theorem State.resetChains_highPointer (s : State) : (s.resetChains).highPointer = s.highPointer := by simp only [State.resetChains]
@[simp] theorem State.resetChains_lowPointer (s : State) : (s.resetChains).lowPointer = s.lowPointer := by simp only [State.resetChains]
@[simp] theorem State.resetChains_tamper (s : State) : (s.resetChains).tamper = s.tamper := by simp only [State.resetChains]
@[simp] theorem State.resetChains_passes (s : State) : (s.resetChains).passes = s.passes := by simp only [State.resetChains]
@[simp] theorem State.resetChains_draws (s : State) : (s.resetChains).draws = s.draws := by simp only [State.resetChains]
@[simp] theorem State.resetChains_nextSerial (s : State) : (s.resetChains).nextSerial = s.nextSerial := by simp only [State.resetChains]
@[simp] theorem State.resetChains_pending (s : State) : (s.resetChains).pending = s.pending := by simp only [State.resetChains]

/-! ### `State.partly` -/

@[simp] theorem State.partly_mode (s t : State) (rs : BitVec 256) : (s.partly t rs).mode = s.mode := by simp only [State.partly]
@[simp] theorem State.partly_vmain (s t : State) (rs : BitVec 256) : (s.partly t rs).vmain = s.vmain := by simp only [State.partly]
@[simp] theorem State.partly_resetHeld (s t : State) (rs : BitVec 256) : (s.partly t rs).resetHeld = s.resetHeld := by simp only [State.partly]
@[simp] theorem State.partly_battery (s t : State) (rs : BitVec 256) : (s.partly t rs).battery = s.battery := by simp only [State.partly]
@[simp] theorem State.partly_marker (s t : State) (rs : BitVec 256) : (s.partly t rs).marker = s.marker := by simp only [State.partly]
@[simp] theorem State.partly_batteryLossFlag (s t : State) (rs : BitVec 256) : (s.partly t rs).batteryLossFlag = s.batteryLossFlag := by simp only [State.partly]
@[simp] theorem State.partly_quantum (s t : State) (rs : BitVec 256) : (s.partly t rs).quantum = s.quantum := by simp only [State.partly]
@[simp] theorem State.partly_storage (s t : State) (rs : BitVec 256) : (s.partly t rs).storage = s.storage := by simp only [State.partly]
@[simp] theorem State.partly_custody (s t : State) (rs : BitVec 256) : (s.partly t rs).custody = s.custody := by simp only [State.partly]
@[simp] theorem State.partly_engine (s t : State) (rs : BitVec 256) : (s.partly t rs).engine = s.engine := by simp only [State.partly]
@[simp] theorem State.partly_requesters (s t : State) (rs : BitVec 256) : (s.partly t rs).requesters = s.requesters := by simp only [State.partly]
@[simp] theorem State.partly_highPointer (s t : State) (rs : BitVec 256) : (s.partly t rs).highPointer = s.highPointer := by simp only [State.partly]
@[simp] theorem State.partly_lowPointer (s t : State) (rs : BitVec 256) : (s.partly t rs).lowPointer = s.lowPointer := by simp only [State.partly]
@[simp] theorem State.partly_tamper (s t : State) (rs : BitVec 256) : (s.partly t rs).tamper = s.tamper := by simp only [State.partly]
@[simp] theorem State.partly_passes (s t : State) (rs : BitVec 256) : (s.partly t rs).passes = s.passes := by simp only [State.partly]
@[simp] theorem State.partly_draws (s t : State) (rs : BitVec 256) : (s.partly t rs).draws = s.draws := by simp only [State.partly]
@[simp] theorem State.partly_nextSerial (s t : State) (rs : BitVec 256) : (s.partly t rs).nextSerial = s.nextSerial := by simp only [State.partly]
@[simp] theorem State.partly_pending (s t : State) (rs : BitVec 256) : (s.partly t rs).pending = s.pending := by simp only [State.partly]

/-- A cut step has written the slots of its set. -/
theorem State.partly_slot (s t : State) (rs : BitVec 256) (i : SlotId) :
    (s.partly t rs).slots[i] = if rs.getLsbD i.val then t.slots[i] else s.slots[i] := by simp [State.partly]

/-- And the lanes. -/
theorem State.partly_lane (s t : State) (rs : BitVec 256) (l : LaneId) :
    (s.partly t rs).lanes[l] = if rs.getLsbD l.val then t.lanes[l] else s.lanes[l] := by simp [State.partly]

/-! ### `State.sweepFirst` -/

/-- What no step of the sweep changes, none of the first `n` does. -/
theorem State.sweepFirst_keeps {α : Type} {f : State → α} (h : ∀ g ∈ sweepSteps, ∀ s, f (g s) = f s) (s : State)
    (n : Nat) : f (s.sweepFirst n) = f s := by
  unfold State.sweepFirst
  have hm : ∀ g ∈ sweepSteps.take n, ∀ s, f (g s) = f s := fun g hg => h g (List.mem_of_mem_take hg)
  generalize sweepSteps.take n = gs at hm
  induction gs generalizing s with
  | nil => rfl
  | cons g gs ih =>
    rw [List.foldl_cons, ih _ fun x hx => hm x (List.mem_cons_of_mem _ hx), hm g List.mem_cons_self]

@[simp] theorem State.sweepFirst_mode (s : State) (n : Nat) : (s.sweepFirst n).mode = s.mode :=
  State.sweepFirst_keeps (by simp [sweepSteps]) s n
@[simp] theorem State.sweepFirst_vmain (s : State) (n : Nat) : (s.sweepFirst n).vmain = s.vmain :=
  State.sweepFirst_keeps (by simp [sweepSteps]) s n
@[simp] theorem State.sweepFirst_resetHeld (s : State) (n : Nat) : (s.sweepFirst n).resetHeld = s.resetHeld :=
  State.sweepFirst_keeps (by simp [sweepSteps]) s n
@[simp] theorem State.sweepFirst_battery (s : State) (n : Nat) : (s.sweepFirst n).battery = s.battery :=
  State.sweepFirst_keeps (by simp [sweepSteps]) s n
@[simp] theorem State.sweepFirst_marker (s : State) (n : Nat) : (s.sweepFirst n).marker = s.marker :=
  State.sweepFirst_keeps (by simp [sweepSteps]) s n
@[simp] theorem State.sweepFirst_batteryLossFlag (s : State) (n : Nat) : (s.sweepFirst n).batteryLossFlag = s.batteryLossFlag :=
  State.sweepFirst_keeps (by simp [sweepSteps]) s n
@[simp] theorem State.sweepFirst_quantum (s : State) (n : Nat) : (s.sweepFirst n).quantum = s.quantum :=
  State.sweepFirst_keeps (by simp [sweepSteps]) s n
@[simp] theorem State.sweepFirst_storage (s : State) (n : Nat) : (s.sweepFirst n).storage = s.storage :=
  State.sweepFirst_keeps (by simp [sweepSteps]) s n
@[simp] theorem State.sweepFirst_custody (s : State) (n : Nat) : (s.sweepFirst n).custody = s.custody :=
  State.sweepFirst_keeps (by simp [sweepSteps]) s n
@[simp] theorem State.sweepFirst_engine (s : State) (n : Nat) : (s.sweepFirst n).engine = s.engine :=
  State.sweepFirst_keeps (by simp [sweepSteps]) s n
@[simp] theorem State.sweepFirst_requesters (s : State) (n : Nat) : (s.sweepFirst n).requesters = s.requesters :=
  State.sweepFirst_keeps (by simp [sweepSteps]) s n
@[simp] theorem State.sweepFirst_highPointer (s : State) (n : Nat) : (s.sweepFirst n).highPointer = s.highPointer :=
  State.sweepFirst_keeps (by simp [sweepSteps]) s n
@[simp] theorem State.sweepFirst_lowPointer (s : State) (n : Nat) : (s.sweepFirst n).lowPointer = s.lowPointer :=
  State.sweepFirst_keeps (by simp [sweepSteps]) s n
@[simp] theorem State.sweepFirst_tamper (s : State) (n : Nat) : (s.sweepFirst n).tamper = s.tamper :=
  State.sweepFirst_keeps (by simp [sweepSteps]) s n
@[simp] theorem State.sweepFirst_passes (s : State) (n : Nat) : (s.sweepFirst n).passes = s.passes :=
  State.sweepFirst_keeps (by simp [sweepSteps]) s n
@[simp] theorem State.sweepFirst_draws (s : State) (n : Nat) : (s.sweepFirst n).draws = s.draws :=
  State.sweepFirst_keeps (by simp [sweepSteps]) s n
@[simp] theorem State.sweepFirst_nextSerial (s : State) (n : Nat) : (s.sweepFirst n).nextSerial = s.nextSerial :=
  State.sweepFirst_keeps (by simp [sweepSteps]) s n
@[simp] theorem State.sweepFirst_pending (s : State) (n : Nat) : (s.sweepFirst n).pending = s.pending :=
  State.sweepFirst_keeps (by simp [sweepSteps]) s n

/-! ### `State.overwriteNext` and `State.tick` -/

@[simp] theorem State.overwriteNext_mode (s : State) : (s.overwriteNext).mode = s.mode := by
  unfold State.overwriteNext; split <;> rfl
@[simp] theorem State.overwriteNext_vmain (s : State) : (s.overwriteNext).vmain = s.vmain := by
  unfold State.overwriteNext; split <;> rfl
@[simp] theorem State.overwriteNext_resetHeld (s : State) : (s.overwriteNext).resetHeld = s.resetHeld := by
  unfold State.overwriteNext; split <;> rfl
@[simp] theorem State.overwriteNext_battery (s : State) : (s.overwriteNext).battery = s.battery := by
  unfold State.overwriteNext; split <;> rfl
@[simp] theorem State.overwriteNext_marker (s : State) : (s.overwriteNext).marker = s.marker := by
  unfold State.overwriteNext; split <;> rfl
@[simp] theorem State.overwriteNext_batteryLossFlag (s : State) : (s.overwriteNext).batteryLossFlag = s.batteryLossFlag := by
  unfold State.overwriteNext; split <;> rfl
@[simp] theorem State.overwriteNext_quantum (s : State) : (s.overwriteNext).quantum = s.quantum := by
  unfold State.overwriteNext; split <;> rfl
@[simp] theorem State.overwriteNext_warrants (s : State) : (s.overwriteNext).warrants = s.warrants := by
  unfold State.overwriteNext; split <;> rfl
@[simp] theorem State.overwriteNext_lanes (s : State) : (s.overwriteNext).lanes = s.lanes := by
  unfold State.overwriteNext; split <;> rfl
@[simp] theorem State.overwriteNext_custody (s : State) : (s.overwriteNext).custody = s.custody := by
  unfold State.overwriteNext; split <;> rfl
@[simp] theorem State.overwriteNext_engine (s : State) : (s.overwriteNext).engine = s.engine := by
  unfold State.overwriteNext; split <;> rfl
@[simp] theorem State.overwriteNext_requesters (s : State) : (s.overwriteNext).requesters = s.requesters := by
  unfold State.overwriteNext; split <;> rfl
@[simp] theorem State.overwriteNext_highPointer (s : State) : (s.overwriteNext).highPointer = s.highPointer := by
  unfold State.overwriteNext; split <;> rfl
@[simp] theorem State.overwriteNext_lowPointer (s : State) : (s.overwriteNext).lowPointer = s.lowPointer := by
  unfold State.overwriteNext; split <;> rfl
@[simp] theorem State.overwriteNext_tamper (s : State) : (s.overwriteNext).tamper = s.tamper := by
  unfold State.overwriteNext; split <;> rfl
@[simp] theorem State.overwriteNext_nextSerial (s : State) : (s.overwriteNext).nextSerial = s.nextSerial := by
  unfold State.overwriteNext; split <;> rfl
@[simp] theorem State.overwriteNext_pending (s : State) : (s.overwriteNext).pending = s.pending := by
  unfold State.overwriteNext; split <;> rfl

@[simp] theorem State.tick_mode (s : State) : (s.tick).mode = s.mode := by unfold State.tick; split <;> simp
@[simp] theorem State.tick_vmain (s : State) : (s.tick).vmain = s.vmain := by unfold State.tick; split <;> simp
@[simp] theorem State.tick_resetHeld (s : State) : (s.tick).resetHeld = s.resetHeld := by unfold State.tick; split <;> simp
@[simp] theorem State.tick_battery (s : State) : (s.tick).battery = s.battery := by unfold State.tick; split <;> simp
@[simp] theorem State.tick_marker (s : State) : (s.tick).marker = s.marker := by unfold State.tick; split <;> simp
@[simp] theorem State.tick_batteryLossFlag (s : State) : (s.tick).batteryLossFlag = s.batteryLossFlag := by unfold State.tick; split <;> simp
@[simp] theorem State.tick_quantum (s : State) : (s.tick).quantum = s.quantum := by unfold State.tick; split <;> simp
@[simp] theorem State.tick_warrants (s : State) : (s.tick).warrants = s.warrants := by unfold State.tick; split <;> simp
@[simp] theorem State.tick_lanes (s : State) : (s.tick).lanes = s.lanes := by unfold State.tick; split <;> simp
@[simp] theorem State.tick_custody (s : State) : (s.tick).custody = s.custody := by unfold State.tick; split <;> simp
@[simp] theorem State.tick_engine (s : State) : (s.tick).engine = s.engine := by unfold State.tick; split <;> simp
@[simp] theorem State.tick_requesters (s : State) : (s.tick).requesters = s.requesters := by unfold State.tick; split <;> simp
@[simp] theorem State.tick_highPointer (s : State) : (s.tick).highPointer = s.highPointer := by unfold State.tick; split <;> simp
@[simp] theorem State.tick_lowPointer (s : State) : (s.tick).lowPointer = s.lowPointer := by unfold State.tick; split <;> simp
@[simp] theorem State.tick_tamper (s : State) : (s.tick).tamper = s.tamper := by unfold State.tick; split <;> simp
@[simp] theorem State.tick_nextSerial (s : State) : (s.tick).nextSerial = s.nextSerial := by unfold State.tick; split <;> simp
@[simp] theorem State.tick_pending (s : State) : (s.tick).pending = s.pending := by unfold State.tick; split <;> simp

/-! ### `State.volatileStart` -/

@[simp] theorem State.volatileStart_mode (s : State) : (s.volatileStart).mode = s.mode := by simp only [State.volatileStart]
@[simp] theorem State.volatileStart_vmain (s : State) : (s.volatileStart).vmain = s.vmain := by simp only [State.volatileStart]
@[simp] theorem State.volatileStart_resetHeld (s : State) : (s.volatileStart).resetHeld = s.resetHeld := by simp only [State.volatileStart]
@[simp] theorem State.volatileStart_battery (s : State) : (s.volatileStart).battery = s.battery := by simp only [State.volatileStart]
@[simp] theorem State.volatileStart_marker (s : State) : (s.volatileStart).marker = s.marker := by simp only [State.volatileStart]
@[simp] theorem State.volatileStart_batteryLossFlag (s : State) : (s.volatileStart).batteryLossFlag = s.batteryLossFlag := by simp only [State.volatileStart]
@[simp] theorem State.volatileStart_quantum (s : State) : (s.volatileStart).quantum = s.quantum := by simp only [State.volatileStart]
@[simp] theorem State.volatileStart_storage (s : State) : (s.volatileStart).storage = s.storage := by simp only [State.volatileStart]
@[simp] theorem State.volatileStart_warrants (s : State) : (s.volatileStart).warrants = s.warrants := by simp only [State.volatileStart]
@[simp] theorem State.volatileStart_written (s : State) : (s.volatileStart).passes.written = 0 := by simp only [State.volatileStart]
@[simp] theorem State.volatileStart_units (s : State) : (s.volatileStart).passes.units = s.passes.units.set 49 none := by
  simp only [State.volatileStart]
@[simp] theorem State.volatileStart_draws (s : State) : (s.volatileStart).draws = s.draws := by simp only [State.volatileStart]
@[simp] theorem State.volatileStart_nextSerial (s : State) : (s.volatileStart).nextSerial = s.nextSerial := by simp only [State.volatileStart]
@[simp] theorem State.volatileStart_pending (s : State) : (s.volatileStart).pending = s.pending := by simp only [State.volatileStart]

/-! ### `State.clearDomain` -/

@[simp] theorem State.clearDomain_mode (s : State) : (s.clearDomain).mode = s.mode := by simp only [State.clearDomain]
@[simp] theorem State.clearDomain_vmain (s : State) : (s.clearDomain).vmain = s.vmain := by simp only [State.clearDomain]
@[simp] theorem State.clearDomain_resetHeld (s : State) : (s.clearDomain).resetHeld = s.resetHeld := by simp only [State.clearDomain]
@[simp] theorem State.clearDomain_battery (s : State) : (s.clearDomain).battery = s.battery := by simp only [State.clearDomain]
@[simp] theorem State.clearDomain_custody (s : State) : (s.clearDomain).custody = s.custody := by simp only [State.clearDomain]
@[simp] theorem State.clearDomain_engine (s : State) : (s.clearDomain).engine = s.engine := by simp only [State.clearDomain]
@[simp] theorem State.clearDomain_requesters (s : State) : (s.clearDomain).requesters = s.requesters := by simp only [State.clearDomain]
@[simp] theorem State.clearDomain_highPointer (s : State) : (s.clearDomain).highPointer = s.highPointer := by simp only [State.clearDomain]
@[simp] theorem State.clearDomain_lowPointer (s : State) : (s.clearDomain).lowPointer = s.lowPointer := by simp only [State.clearDomain]
@[simp] theorem State.clearDomain_tamper (s : State) : (s.clearDomain).tamper = s.tamper := by simp only [State.clearDomain]
@[simp] theorem State.clearDomain_passes (s : State) : (s.clearDomain).passes = Passes.none := by simp only [State.clearDomain]
@[simp] theorem State.clearDomain_draws (s : State) : (s.clearDomain).draws = s.draws := by simp only [State.clearDomain]
@[simp] theorem State.clearDomain_nextSerial (s : State) : (s.clearDomain).nextSerial = s.nextSerial := by simp only [State.clearDomain]
@[simp] theorem State.clearDomain_pending (s : State) : (s.clearDomain).pending = s.pending := by simp only [State.clearDomain]

/-! ### The link of either kind -/

@[simp] theorem State.setLink_mode (s : State) (k : Link) (x : LinkState) : (s.setLink k x).mode = s.mode := by cases k <;> rfl
@[simp] theorem State.setLink_vmain (s : State) (k : Link) (x : LinkState) : (s.setLink k x).vmain = s.vmain := by cases k <;> rfl
@[simp] theorem State.setLink_resetHeld (s : State) (k : Link) (x : LinkState) : (s.setLink k x).resetHeld = s.resetHeld := by cases k <;> rfl
@[simp] theorem State.setLink_battery (s : State) (k : Link) (x : LinkState) : (s.setLink k x).battery = s.battery := by cases k <;> rfl
@[simp] theorem State.setLink_marker (s : State) (k : Link) (x : LinkState) : (s.setLink k x).marker = s.marker := by cases k <;> rfl
@[simp] theorem State.setLink_batteryLossFlag (s : State) (k : Link) (x : LinkState) : (s.setLink k x).batteryLossFlag = s.batteryLossFlag := by cases k <;> rfl
@[simp] theorem State.setLink_quantum (s : State) (k : Link) (x : LinkState) : (s.setLink k x).quantum = s.quantum := by cases k <;> rfl
@[simp] theorem State.setLink_slots (s : State) (k : Link) (x : LinkState) : (s.setLink k x).slots = s.slots := by cases k <;> rfl
@[simp] theorem State.setLink_storage (s : State) (k : Link) (x : LinkState) : (s.setLink k x).storage = s.storage := by cases k <;> rfl
@[simp] theorem State.setLink_warrants (s : State) (k : Link) (x : LinkState) : (s.setLink k x).warrants = s.warrants := by cases k <;> rfl
@[simp] theorem State.setLink_engine (s : State) (k : Link) (x : LinkState) : (s.setLink k x).engine = s.engine := by cases k <;> rfl
@[simp] theorem State.setLink_requesters (s : State) (k : Link) (x : LinkState) : (s.setLink k x).requesters = s.requesters := by cases k <;> rfl
@[simp] theorem State.setLink_highPointer (s : State) (k : Link) (x : LinkState) : (s.setLink k x).highPointer = s.highPointer := by cases k <;> rfl
@[simp] theorem State.setLink_lowPointer (s : State) (k : Link) (x : LinkState) : (s.setLink k x).lowPointer = s.lowPointer := by cases k <;> rfl
@[simp] theorem State.setLink_tamper (s : State) (k : Link) (x : LinkState) : (s.setLink k x).tamper = s.tamper := by cases k <;> rfl
@[simp] theorem State.setLink_passes (s : State) (k : Link) (x : LinkState) : (s.setLink k x).passes = s.passes := by cases k <;> rfl
@[simp] theorem State.setLink_draws (s : State) (k : Link) (x : LinkState) : (s.setLink k x).draws = s.draws := by cases k <;> rfl
@[simp] theorem State.setLink_nextSerial (s : State) (k : Link) (x : LinkState) : (s.setLink k x).nextSerial = s.nextSerial := by cases k <;> rfl
@[simp] theorem State.setLink_pending (s : State) (k : Link) (x : LinkState) : (s.setLink k x).pending = s.pending := by cases k <;> rfl
@[simp] theorem State.setLink_custody_process (s : State) (k : Link) (x : LinkState) : (s.setLink k x).custody.process = s.custody.process := by
  cases k <;> rfl
@[simp] theorem State.setLink_custody_position (s : State) (k : Link) (x : LinkState) : (s.setLink k x).custody.position = s.custody.position := by
  cases k <;> rfl
@[simp] theorem State.setLink_custody_count (s : State) (k : Link) (x : LinkState) : (s.setLink k x).custody.count = s.custody.count := by
  cases k <;> rfl
@[simp] theorem State.reply_mode (s : State) (k : Link) (r : Reply) : (s.reply k r).mode = s.mode := by cases k <;> rfl
@[simp] theorem State.reply_vmain (s : State) (k : Link) (r : Reply) : (s.reply k r).vmain = s.vmain := by cases k <;> rfl
@[simp] theorem State.reply_resetHeld (s : State) (k : Link) (r : Reply) : (s.reply k r).resetHeld = s.resetHeld := by cases k <;> rfl
@[simp] theorem State.reply_battery (s : State) (k : Link) (r : Reply) : (s.reply k r).battery = s.battery := by cases k <;> rfl
@[simp] theorem State.reply_marker (s : State) (k : Link) (r : Reply) : (s.reply k r).marker = s.marker := by cases k <;> rfl
@[simp] theorem State.reply_batteryLossFlag (s : State) (k : Link) (r : Reply) : (s.reply k r).batteryLossFlag = s.batteryLossFlag := by cases k <;> rfl
@[simp] theorem State.reply_quantum (s : State) (k : Link) (r : Reply) : (s.reply k r).quantum = s.quantum := by cases k <;> rfl
@[simp] theorem State.reply_slots (s : State) (k : Link) (r : Reply) : (s.reply k r).slots = s.slots := by cases k <;> rfl
@[simp] theorem State.reply_storage (s : State) (k : Link) (r : Reply) : (s.reply k r).storage = s.storage := by cases k <;> rfl
@[simp] theorem State.reply_warrants (s : State) (k : Link) (r : Reply) : (s.reply k r).warrants = s.warrants := by cases k <;> rfl
@[simp] theorem State.reply_engine (s : State) (k : Link) (r : Reply) : (s.reply k r).engine = s.engine := by cases k <;> rfl
@[simp] theorem State.reply_requesters (s : State) (k : Link) (r : Reply) : (s.reply k r).requesters = s.requesters := by cases k <;> rfl
@[simp] theorem State.reply_highPointer (s : State) (k : Link) (r : Reply) : (s.reply k r).highPointer = s.highPointer := by cases k <;> rfl
@[simp] theorem State.reply_lowPointer (s : State) (k : Link) (r : Reply) : (s.reply k r).lowPointer = s.lowPointer := by cases k <;> rfl
@[simp] theorem State.reply_tamper (s : State) (k : Link) (r : Reply) : (s.reply k r).tamper = s.tamper := by cases k <;> rfl
@[simp] theorem State.reply_passes (s : State) (k : Link) (r : Reply) : (s.reply k r).passes = s.passes := by cases k <;> rfl
@[simp] theorem State.reply_draws (s : State) (k : Link) (r : Reply) : (s.reply k r).draws = s.draws := by cases k <;> rfl
@[simp] theorem State.reply_nextSerial (s : State) (k : Link) (r : Reply) : (s.reply k r).nextSerial = s.nextSerial := by cases k <;> rfl
@[simp] theorem State.reply_pending (s : State) (k : Link) (r : Reply) : (s.reply k r).pending = s.pending := by cases k <;> rfl
@[simp] theorem State.reply_custody_process (s : State) (k : Link) (r : Reply) : (s.reply k r).custody.process = s.custody.process := by
  cases k <;> rfl
@[simp] theorem State.reply_custody_position (s : State) (k : Link) (r : Reply) : (s.reply k r).custody.position = s.custody.position := by
  cases k <;> rfl
@[simp] theorem State.reply_custody_count (s : State) (k : Link) (r : Reply) : (s.reply k r).custody.count = s.custody.count := by
  cases k <;> rfl
@[simp] theorem State.popFrame_mode (s : State) (k : Link) : (s.popFrame k).mode = s.mode := by cases k <;> rfl
@[simp] theorem State.popFrame_vmain (s : State) (k : Link) : (s.popFrame k).vmain = s.vmain := by cases k <;> rfl
@[simp] theorem State.popFrame_resetHeld (s : State) (k : Link) : (s.popFrame k).resetHeld = s.resetHeld := by cases k <;> rfl
@[simp] theorem State.popFrame_battery (s : State) (k : Link) : (s.popFrame k).battery = s.battery := by cases k <;> rfl
@[simp] theorem State.popFrame_marker (s : State) (k : Link) : (s.popFrame k).marker = s.marker := by cases k <;> rfl
@[simp] theorem State.popFrame_batteryLossFlag (s : State) (k : Link) : (s.popFrame k).batteryLossFlag = s.batteryLossFlag := by cases k <;> rfl
@[simp] theorem State.popFrame_quantum (s : State) (k : Link) : (s.popFrame k).quantum = s.quantum := by cases k <;> rfl
@[simp] theorem State.popFrame_slots (s : State) (k : Link) : (s.popFrame k).slots = s.slots := by cases k <;> rfl
@[simp] theorem State.popFrame_storage (s : State) (k : Link) : (s.popFrame k).storage = s.storage := by cases k <;> rfl
@[simp] theorem State.popFrame_warrants (s : State) (k : Link) : (s.popFrame k).warrants = s.warrants := by cases k <;> rfl
@[simp] theorem State.popFrame_engine (s : State) (k : Link) : (s.popFrame k).engine = s.engine := by cases k <;> rfl
@[simp] theorem State.popFrame_requesters (s : State) (k : Link) : (s.popFrame k).requesters = s.requesters := by cases k <;> rfl
@[simp] theorem State.popFrame_highPointer (s : State) (k : Link) : (s.popFrame k).highPointer = s.highPointer := by cases k <;> rfl
@[simp] theorem State.popFrame_lowPointer (s : State) (k : Link) : (s.popFrame k).lowPointer = s.lowPointer := by cases k <;> rfl
@[simp] theorem State.popFrame_tamper (s : State) (k : Link) : (s.popFrame k).tamper = s.tamper := by cases k <;> rfl
@[simp] theorem State.popFrame_passes (s : State) (k : Link) : (s.popFrame k).passes = s.passes := by cases k <;> rfl
@[simp] theorem State.popFrame_draws (s : State) (k : Link) : (s.popFrame k).draws = s.draws := by cases k <;> rfl
@[simp] theorem State.popFrame_nextSerial (s : State) (k : Link) : (s.popFrame k).nextSerial = s.nextSerial := by cases k <;> rfl
@[simp] theorem State.popFrame_pending (s : State) (k : Link) : (s.popFrame k).pending = s.pending := by cases k <;> rfl
@[simp] theorem State.popFrame_custody_process (s : State) (k : Link) : (s.popFrame k).custody.process = s.custody.process := by
  cases k <;> rfl
@[simp] theorem State.popFrame_custody_position (s : State) (k : Link) : (s.popFrame k).custody.position = s.custody.position := by
  cases k <;> rfl
@[simp] theorem State.popFrame_custody_count (s : State) (k : Link) : (s.popFrame k).custody.count = s.custody.count := by
  cases k <;> rfl
@[simp] theorem State.shiftOut_mode (s : State) (k : Link) (bs : List Byte) : (s.shiftOut k bs).mode = s.mode := by cases k <;> rfl
@[simp] theorem State.shiftOut_vmain (s : State) (k : Link) (bs : List Byte) : (s.shiftOut k bs).vmain = s.vmain := by cases k <;> rfl
@[simp] theorem State.shiftOut_resetHeld (s : State) (k : Link) (bs : List Byte) : (s.shiftOut k bs).resetHeld = s.resetHeld := by cases k <;> rfl
@[simp] theorem State.shiftOut_battery (s : State) (k : Link) (bs : List Byte) : (s.shiftOut k bs).battery = s.battery := by cases k <;> rfl
@[simp] theorem State.shiftOut_marker (s : State) (k : Link) (bs : List Byte) : (s.shiftOut k bs).marker = s.marker := by cases k <;> rfl
@[simp] theorem State.shiftOut_batteryLossFlag (s : State) (k : Link) (bs : List Byte) : (s.shiftOut k bs).batteryLossFlag = s.batteryLossFlag := by cases k <;> rfl
@[simp] theorem State.shiftOut_quantum (s : State) (k : Link) (bs : List Byte) : (s.shiftOut k bs).quantum = s.quantum := by cases k <;> rfl
@[simp] theorem State.shiftOut_slots (s : State) (k : Link) (bs : List Byte) : (s.shiftOut k bs).slots = s.slots := by cases k <;> rfl
@[simp] theorem State.shiftOut_storage (s : State) (k : Link) (bs : List Byte) : (s.shiftOut k bs).storage = s.storage := by cases k <;> rfl
@[simp] theorem State.shiftOut_warrants (s : State) (k : Link) (bs : List Byte) : (s.shiftOut k bs).warrants = s.warrants := by cases k <;> rfl
@[simp] theorem State.shiftOut_engine (s : State) (k : Link) (bs : List Byte) : (s.shiftOut k bs).engine = s.engine := by cases k <;> rfl
@[simp] theorem State.shiftOut_requesters (s : State) (k : Link) (bs : List Byte) : (s.shiftOut k bs).requesters = s.requesters := by cases k <;> rfl
@[simp] theorem State.shiftOut_highPointer (s : State) (k : Link) (bs : List Byte) : (s.shiftOut k bs).highPointer = s.highPointer := by cases k <;> rfl
@[simp] theorem State.shiftOut_lowPointer (s : State) (k : Link) (bs : List Byte) : (s.shiftOut k bs).lowPointer = s.lowPointer := by cases k <;> rfl
@[simp] theorem State.shiftOut_tamper (s : State) (k : Link) (bs : List Byte) : (s.shiftOut k bs).tamper = s.tamper := by cases k <;> rfl
@[simp] theorem State.shiftOut_passes (s : State) (k : Link) (bs : List Byte) : (s.shiftOut k bs).passes = s.passes := by cases k <;> rfl
@[simp] theorem State.shiftOut_draws (s : State) (k : Link) (bs : List Byte) : (s.shiftOut k bs).draws = s.draws := by cases k <;> rfl
@[simp] theorem State.shiftOut_nextSerial (s : State) (k : Link) (bs : List Byte) : (s.shiftOut k bs).nextSerial = s.nextSerial := by cases k <;> rfl
@[simp] theorem State.shiftOut_pending (s : State) (k : Link) (bs : List Byte) : (s.shiftOut k bs).pending = s.pending := by cases k <;> rfl
@[simp] theorem State.shiftOut_custody_process (s : State) (k : Link) (bs : List Byte) : (s.shiftOut k bs).custody.process = s.custody.process := by
  cases k <;> rfl
@[simp] theorem State.shiftOut_custody_position (s : State) (k : Link) (bs : List Byte) : (s.shiftOut k bs).custody.position = s.custody.position := by
  cases k <;> rfl
@[simp] theorem State.shiftOut_custody_count (s : State) (k : Link) (bs : List Byte) : (s.shiftOut k bs).custody.count = s.custody.count := by
  cases k <;> rfl
@[simp] theorem State.frameError_mode (s : State) (k : Link) : (s.frameError k).mode = s.mode := by cases k <;> rfl
@[simp] theorem State.frameError_vmain (s : State) (k : Link) : (s.frameError k).vmain = s.vmain := by cases k <;> rfl
@[simp] theorem State.frameError_resetHeld (s : State) (k : Link) : (s.frameError k).resetHeld = s.resetHeld := by cases k <;> rfl
@[simp] theorem State.frameError_battery (s : State) (k : Link) : (s.frameError k).battery = s.battery := by cases k <;> rfl
@[simp] theorem State.frameError_marker (s : State) (k : Link) : (s.frameError k).marker = s.marker := by cases k <;> rfl
@[simp] theorem State.frameError_batteryLossFlag (s : State) (k : Link) : (s.frameError k).batteryLossFlag = s.batteryLossFlag := by cases k <;> rfl
@[simp] theorem State.frameError_quantum (s : State) (k : Link) : (s.frameError k).quantum = s.quantum := by cases k <;> rfl
@[simp] theorem State.frameError_slots (s : State) (k : Link) : (s.frameError k).slots = s.slots := by cases k <;> rfl
@[simp] theorem State.frameError_storage (s : State) (k : Link) : (s.frameError k).storage = s.storage := by cases k <;> rfl
@[simp] theorem State.frameError_warrants (s : State) (k : Link) : (s.frameError k).warrants = s.warrants := by cases k <;> rfl
@[simp] theorem State.frameError_engine (s : State) (k : Link) : (s.frameError k).engine = s.engine := by cases k <;> rfl
@[simp] theorem State.frameError_requesters (s : State) (k : Link) : (s.frameError k).requesters = s.requesters := by cases k <;> rfl
@[simp] theorem State.frameError_highPointer (s : State) (k : Link) : (s.frameError k).highPointer = s.highPointer := by cases k <;> rfl
@[simp] theorem State.frameError_lowPointer (s : State) (k : Link) : (s.frameError k).lowPointer = s.lowPointer := by cases k <;> rfl
@[simp] theorem State.frameError_tamper (s : State) (k : Link) : (s.frameError k).tamper = s.tamper := by cases k <;> rfl
@[simp] theorem State.frameError_passes (s : State) (k : Link) : (s.frameError k).passes = s.passes := by cases k <;> rfl
@[simp] theorem State.frameError_draws (s : State) (k : Link) : (s.frameError k).draws = s.draws := by cases k <;> rfl
@[simp] theorem State.frameError_nextSerial (s : State) (k : Link) : (s.frameError k).nextSerial = s.nextSerial := by cases k <;> rfl
@[simp] theorem State.frameError_pending (s : State) (k : Link) : (s.frameError k).pending = s.pending := by cases k <;> rfl
@[simp] theorem State.frameError_custody_process (s : State) (k : Link) : (s.frameError k).custody.process = s.custody.process := by
  cases k <;> rfl
@[simp] theorem State.frameError_custody_position (s : State) (k : Link) : (s.frameError k).custody.position = s.custody.position := by
  cases k <;> rfl
@[simp] theorem State.frameError_custody_count (s : State) (k : Link) : (s.frameError k).custody.count = s.custody.count := by
  cases k <;> rfl
@[simp] theorem State.clearLink_mode (s : State) (k : Link) : (s.clearLink k).mode = s.mode := by cases k <;> rfl
@[simp] theorem State.clearLink_vmain (s : State) (k : Link) : (s.clearLink k).vmain = s.vmain := by cases k <;> rfl
@[simp] theorem State.clearLink_resetHeld (s : State) (k : Link) : (s.clearLink k).resetHeld = s.resetHeld := by cases k <;> rfl
@[simp] theorem State.clearLink_battery (s : State) (k : Link) : (s.clearLink k).battery = s.battery := by cases k <;> rfl
@[simp] theorem State.clearLink_marker (s : State) (k : Link) : (s.clearLink k).marker = s.marker := by cases k <;> rfl
@[simp] theorem State.clearLink_batteryLossFlag (s : State) (k : Link) : (s.clearLink k).batteryLossFlag = s.batteryLossFlag := by cases k <;> rfl
@[simp] theorem State.clearLink_quantum (s : State) (k : Link) : (s.clearLink k).quantum = s.quantum := by cases k <;> rfl
@[simp] theorem State.clearLink_slots (s : State) (k : Link) : (s.clearLink k).slots = s.slots := by cases k <;> rfl
@[simp] theorem State.clearLink_storage (s : State) (k : Link) : (s.clearLink k).storage = s.storage := by cases k <;> rfl
@[simp] theorem State.clearLink_warrants (s : State) (k : Link) : (s.clearLink k).warrants = s.warrants := by cases k <;> rfl
@[simp] theorem State.clearLink_engine (s : State) (k : Link) : (s.clearLink k).engine = s.engine := by cases k <;> rfl
@[simp] theorem State.clearLink_requesters (s : State) (k : Link) : (s.clearLink k).requesters = s.requesters := by cases k <;> rfl
@[simp] theorem State.clearLink_highPointer (s : State) (k : Link) : (s.clearLink k).highPointer = s.highPointer := by cases k <;> rfl
@[simp] theorem State.clearLink_lowPointer (s : State) (k : Link) : (s.clearLink k).lowPointer = s.lowPointer := by cases k <;> rfl
@[simp] theorem State.clearLink_tamper (s : State) (k : Link) : (s.clearLink k).tamper = s.tamper := by cases k <;> rfl
@[simp] theorem State.clearLink_passes (s : State) (k : Link) : (s.clearLink k).passes = s.passes := by cases k <;> rfl
@[simp] theorem State.clearLink_draws (s : State) (k : Link) : (s.clearLink k).draws = s.draws := by cases k <;> rfl
@[simp] theorem State.clearLink_nextSerial (s : State) (k : Link) : (s.clearLink k).nextSerial = s.nextSerial := by cases k <;> rfl
@[simp] theorem State.clearLink_pending (s : State) (k : Link) : (s.clearLink k).pending = s.pending := by cases k <;> rfl
@[simp] theorem State.clearLink_custody_process (s : State) (k : Link) : (s.clearLink k).custody.process = s.custody.process := by
  cases k <;> rfl
@[simp] theorem State.clearLink_custody_position (s : State) (k : Link) : (s.clearLink k).custody.position = s.custody.position := by
  cases k <;> rfl
@[simp] theorem State.clearLink_custody_count (s : State) (k : Link) : (s.clearLink k).custody.count = s.custody.count := by
  cases k <;> rfl
@[simp] theorem State.setLink_custody_lanes (s : State) (x : LinkState) : (s.setLink .custody x).lanes = s.lanes := rfl
@[simp] theorem State.setLink_lane_custody (s : State) (l : LaneId) (x : LinkState) : (s.setLink (.lane l) x).custody = s.custody := rfl
@[simp] theorem State.reply_custody_lanes (s : State) (r : Reply) : (s.reply .custody r).lanes = s.lanes := rfl
@[simp] theorem State.reply_lane_custody (s : State) (l : LaneId) (r : Reply) : (s.reply (.lane l) r).custody = s.custody := rfl
@[simp] theorem State.popFrame_custody_lanes (s : State) : (s.popFrame .custody).lanes = s.lanes := rfl
@[simp] theorem State.popFrame_lane_custody (s : State) (l : LaneId) : (s.popFrame (.lane l)).custody = s.custody := rfl
@[simp] theorem State.shiftOut_custody_lanes (s : State) (bs : List Byte) : (s.shiftOut .custody bs).lanes = s.lanes := rfl
@[simp] theorem State.shiftOut_lane_custody (s : State) (l : LaneId) (bs : List Byte) : (s.shiftOut (.lane l) bs).custody = s.custody := rfl
@[simp] theorem State.frameError_custody_lanes (s : State) : (s.frameError .custody).lanes = s.lanes := rfl
@[simp] theorem State.frameError_lane_custody (s : State) (l : LaneId) : (s.frameError (.lane l)).custody = s.custody := rfl
@[simp] theorem State.clearLink_custody_lanes (s : State) : (s.clearLink .custody).lanes = s.lanes := rfl
@[simp] theorem State.clearLink_lane_custody (s : State) (l : LaneId) : (s.clearLink (.lane l)).custody = s.custody := rfl

end Sys2Proof.Machine
end

