-- ==== Sys2Proof/Laws/Frames.lean ====
section
/-! SUPPORT. What the arbiter's operations, the walk, the tamper responses and the lane requests leave alone, field by field
(R124, R125, R138 to R141). -/

namespace Sys2Proof.Machine


/-! ### `State.beginCustodyGrant` -/

@[simp] theorem State.beginCustodyGrant_mode (s : State) : (s.beginCustodyGrant).mode = s.mode := by
  unfold State.beginCustodyGrant; dsimp only; split <;> rfl
@[simp] theorem State.beginCustodyGrant_vmain (s : State) : (s.beginCustodyGrant).vmain = s.vmain := by
  unfold State.beginCustodyGrant; dsimp only; split <;> rfl
@[simp] theorem State.beginCustodyGrant_resetHeld (s : State) : (s.beginCustodyGrant).resetHeld = s.resetHeld := by
  unfold State.beginCustodyGrant; dsimp only; split <;> rfl
@[simp] theorem State.beginCustodyGrant_battery (s : State) : (s.beginCustodyGrant).battery = s.battery := by
  unfold State.beginCustodyGrant; dsimp only; split <;> rfl
@[simp] theorem State.beginCustodyGrant_marker (s : State) : (s.beginCustodyGrant).marker = s.marker := by
  unfold State.beginCustodyGrant; dsimp only; split <;> rfl
@[simp] theorem State.beginCustodyGrant_batteryLossFlag (s : State) : (s.beginCustodyGrant).batteryLossFlag = s.batteryLossFlag := by
  unfold State.beginCustodyGrant; dsimp only; split <;> rfl
@[simp] theorem State.beginCustodyGrant_quantum (s : State) : (s.beginCustodyGrant).quantum = s.quantum := by
  unfold State.beginCustodyGrant; dsimp only; split <;> rfl
@[simp] theorem State.beginCustodyGrant_slots (s : State) : (s.beginCustodyGrant).slots = s.slots := by
  unfold State.beginCustodyGrant; dsimp only; split <;> rfl
@[simp] theorem State.beginCustodyGrant_storage (s : State) : (s.beginCustodyGrant).storage = s.storage := by
  unfold State.beginCustodyGrant; dsimp only; split <;> rfl
@[simp] theorem State.beginCustodyGrant_warrants (s : State) : (s.beginCustodyGrant).warrants = s.warrants := by
  unfold State.beginCustodyGrant; dsimp only; split <;> rfl
@[simp] theorem State.beginCustodyGrant_lanes (s : State) : (s.beginCustodyGrant).lanes = s.lanes := by
  unfold State.beginCustodyGrant; dsimp only; split <;> rfl
@[simp] theorem State.beginCustodyGrant_custody (s : State) : (s.beginCustodyGrant).custody = s.custody := by
  unfold State.beginCustodyGrant; dsimp only; split <;> rfl
@[simp] theorem State.beginCustodyGrant_highPointer (s : State) : (s.beginCustodyGrant).highPointer = s.highPointer := by
  unfold State.beginCustodyGrant; dsimp only; split <;> rfl
@[simp] theorem State.beginCustodyGrant_lowPointer (s : State) : (s.beginCustodyGrant).lowPointer = s.lowPointer := by
  unfold State.beginCustodyGrant; dsimp only; split <;> rfl
@[simp] theorem State.beginCustodyGrant_tamper (s : State) : (s.beginCustodyGrant).tamper = s.tamper := by
  unfold State.beginCustodyGrant; dsimp only; split <;> rfl
@[simp] theorem State.beginCustodyGrant_passes (s : State) : (s.beginCustodyGrant).passes = s.passes := by
  unfold State.beginCustodyGrant; dsimp only; split <;> rfl
@[simp] theorem State.beginCustodyGrant_draws (s : State) : (s.beginCustodyGrant).draws = s.draws := by
  unfold State.beginCustodyGrant; dsimp only; split <;> rfl
@[simp] theorem State.beginCustodyGrant_nextSerial (s : State) : (s.beginCustodyGrant).nextSerial = s.nextSerial := by
  unfold State.beginCustodyGrant; dsimp only; split <;> rfl
@[simp] theorem State.beginCustodyGrant_pending (s : State) : (s.beginCustodyGrant).pending = s.pending := by
  unfold State.beginCustodyGrant; dsimp only; split <;> rfl

/-! ### `State.setPointer` -/

@[simp] theorem State.setPointer_mode (s : State) (l : LaneId) : (s.setPointer l).mode = s.mode := by
  unfold State.setPointer; split <;> rfl
@[simp] theorem State.setPointer_vmain (s : State) (l : LaneId) : (s.setPointer l).vmain = s.vmain := by
  unfold State.setPointer; split <;> rfl
@[simp] theorem State.setPointer_resetHeld (s : State) (l : LaneId) : (s.setPointer l).resetHeld = s.resetHeld := by
  unfold State.setPointer; split <;> rfl
@[simp] theorem State.setPointer_battery (s : State) (l : LaneId) : (s.setPointer l).battery = s.battery := by
  unfold State.setPointer; split <;> rfl
@[simp] theorem State.setPointer_marker (s : State) (l : LaneId) : (s.setPointer l).marker = s.marker := by
  unfold State.setPointer; split <;> rfl
@[simp] theorem State.setPointer_batteryLossFlag (s : State) (l : LaneId) : (s.setPointer l).batteryLossFlag = s.batteryLossFlag := by
  unfold State.setPointer; split <;> rfl
@[simp] theorem State.setPointer_quantum (s : State) (l : LaneId) : (s.setPointer l).quantum = s.quantum := by
  unfold State.setPointer; split <;> rfl
@[simp] theorem State.setPointer_slots (s : State) (l : LaneId) : (s.setPointer l).slots = s.slots := by
  unfold State.setPointer; split <;> rfl
@[simp] theorem State.setPointer_storage (s : State) (l : LaneId) : (s.setPointer l).storage = s.storage := by
  unfold State.setPointer; split <;> rfl
@[simp] theorem State.setPointer_warrants (s : State) (l : LaneId) : (s.setPointer l).warrants = s.warrants := by
  unfold State.setPointer; split <;> rfl
@[simp] theorem State.setPointer_lanes (s : State) (l : LaneId) : (s.setPointer l).lanes = s.lanes := by
  unfold State.setPointer; split <;> rfl
@[simp] theorem State.setPointer_custody (s : State) (l : LaneId) : (s.setPointer l).custody = s.custody := by
  unfold State.setPointer; split <;> rfl
@[simp] theorem State.setPointer_engine (s : State) (l : LaneId) : (s.setPointer l).engine = s.engine := by
  unfold State.setPointer; split <;> rfl
@[simp] theorem State.setPointer_requesters (s : State) (l : LaneId) : (s.setPointer l).requesters = s.requesters := by
  unfold State.setPointer; split <;> rfl
@[simp] theorem State.setPointer_tamper (s : State) (l : LaneId) : (s.setPointer l).tamper = s.tamper := by
  unfold State.setPointer; split <;> rfl
@[simp] theorem State.setPointer_passes (s : State) (l : LaneId) : (s.setPointer l).passes = s.passes := by
  unfold State.setPointer; split <;> rfl
@[simp] theorem State.setPointer_draws (s : State) (l : LaneId) : (s.setPointer l).draws = s.draws := by
  unfold State.setPointer; split <;> rfl
@[simp] theorem State.setPointer_nextSerial (s : State) (l : LaneId) : (s.setPointer l).nextSerial = s.nextSerial := by
  unfold State.setPointer; split <;> rfl
@[simp] theorem State.setPointer_pending (s : State) (l : LaneId) : (s.setPointer l).pending = s.pending := by
  unfold State.setPointer; split <;> rfl

/-! ### `State.beginRunGrant` -/

@[simp] theorem State.beginRunGrant_mode (s : State) (l : LaneId) : (s.beginRunGrant l).mode = s.mode := by
  unfold State.beginRunGrant; dsimp only; split <;> simp
@[simp] theorem State.beginRunGrant_vmain (s : State) (l : LaneId) : (s.beginRunGrant l).vmain = s.vmain := by
  unfold State.beginRunGrant; dsimp only; split <;> simp
@[simp] theorem State.beginRunGrant_resetHeld (s : State) (l : LaneId) : (s.beginRunGrant l).resetHeld = s.resetHeld := by
  unfold State.beginRunGrant; dsimp only; split <;> simp
@[simp] theorem State.beginRunGrant_battery (s : State) (l : LaneId) : (s.beginRunGrant l).battery = s.battery := by
  unfold State.beginRunGrant; dsimp only; split <;> simp
@[simp] theorem State.beginRunGrant_marker (s : State) (l : LaneId) : (s.beginRunGrant l).marker = s.marker := by
  unfold State.beginRunGrant; dsimp only; split <;> simp
@[simp] theorem State.beginRunGrant_batteryLossFlag (s : State) (l : LaneId) : (s.beginRunGrant l).batteryLossFlag = s.batteryLossFlag := by
  unfold State.beginRunGrant; dsimp only; split <;> simp
@[simp] theorem State.beginRunGrant_quantum (s : State) (l : LaneId) : (s.beginRunGrant l).quantum = s.quantum := by
  unfold State.beginRunGrant; dsimp only; split <;> simp
@[simp] theorem State.beginRunGrant_slots (s : State) (l : LaneId) : (s.beginRunGrant l).slots = s.slots := by
  unfold State.beginRunGrant; dsimp only; split <;> simp
@[simp] theorem State.beginRunGrant_storage (s : State) (l : LaneId) : (s.beginRunGrant l).storage = s.storage := by
  unfold State.beginRunGrant; dsimp only; split <;> simp
@[simp] theorem State.beginRunGrant_warrants (s : State) (l : LaneId) : (s.beginRunGrant l).warrants = s.warrants := by
  unfold State.beginRunGrant; dsimp only; split <;> simp
@[simp] theorem State.beginRunGrant_custody (s : State) (l : LaneId) : (s.beginRunGrant l).custody = s.custody := by
  unfold State.beginRunGrant; dsimp only; split <;> simp
@[simp] theorem State.beginRunGrant_tamper (s : State) (l : LaneId) : (s.beginRunGrant l).tamper = s.tamper := by
  unfold State.beginRunGrant; dsimp only; split <;> simp
@[simp] theorem State.beginRunGrant_passes (s : State) (l : LaneId) : (s.beginRunGrant l).passes = s.passes := by
  unfold State.beginRunGrant; dsimp only; split <;> simp
@[simp] theorem State.beginRunGrant_draws (s : State) (l : LaneId) : (s.beginRunGrant l).draws = s.draws := by
  unfold State.beginRunGrant; dsimp only; split <;> simp
@[simp] theorem State.beginRunGrant_nextSerial (s : State) (l : LaneId) : (s.beginRunGrant l).nextSerial = s.nextSerial := by
  unfold State.beginRunGrant; dsimp only; split <;> simp
@[simp] theorem State.beginRunGrant_pending (s : State) (l : LaneId) : (s.beginRunGrant l).pending = s.pending := by
  unfold State.beginRunGrant; dsimp only; split <;> simp

/-! ### `State.choose` -/

@[simp] theorem State.choose_mode (s : State) : (s.choose).mode = s.mode := by
  unfold State.choose; split <;> simp
@[simp] theorem State.choose_vmain (s : State) : (s.choose).vmain = s.vmain := by
  unfold State.choose; split <;> simp
@[simp] theorem State.choose_resetHeld (s : State) : (s.choose).resetHeld = s.resetHeld := by
  unfold State.choose; split <;> simp
@[simp] theorem State.choose_battery (s : State) : (s.choose).battery = s.battery := by
  unfold State.choose; split <;> simp
@[simp] theorem State.choose_marker (s : State) : (s.choose).marker = s.marker := by
  unfold State.choose; split <;> simp
@[simp] theorem State.choose_batteryLossFlag (s : State) : (s.choose).batteryLossFlag = s.batteryLossFlag := by
  unfold State.choose; split <;> simp
@[simp] theorem State.choose_quantum (s : State) : (s.choose).quantum = s.quantum := by
  unfold State.choose; split <;> simp
@[simp] theorem State.choose_slots (s : State) : (s.choose).slots = s.slots := by
  unfold State.choose; split <;> simp
@[simp] theorem State.choose_storage (s : State) : (s.choose).storage = s.storage := by
  unfold State.choose; split <;> simp
@[simp] theorem State.choose_warrants (s : State) : (s.choose).warrants = s.warrants := by
  unfold State.choose; split <;> simp
@[simp] theorem State.choose_custody (s : State) : (s.choose).custody = s.custody := by
  unfold State.choose; split <;> simp
@[simp] theorem State.choose_tamper (s : State) : (s.choose).tamper = s.tamper := by
  unfold State.choose; split <;> simp
@[simp] theorem State.choose_passes (s : State) : (s.choose).passes = s.passes := by
  unfold State.choose; split <;> simp
@[simp] theorem State.choose_draws (s : State) : (s.choose).draws = s.draws := by
  unfold State.choose; split <;> simp
@[simp] theorem State.choose_nextSerial (s : State) : (s.choose).nextSerial = s.nextSerial := by
  unfold State.choose; split <;> simp
@[simp] theorem State.choose_pending (s : State) : (s.choose).pending = s.pending := by
  unfold State.choose; split <;> simp

/-! ### `State.join` -/

@[simp] theorem State.join_mode (s : State) (r : Requester) : (s.join r).mode = s.mode := by
  unfold State.join; dsimp only; split <;> simp
@[simp] theorem State.join_vmain (s : State) (r : Requester) : (s.join r).vmain = s.vmain := by
  unfold State.join; dsimp only; split <;> simp
@[simp] theorem State.join_resetHeld (s : State) (r : Requester) : (s.join r).resetHeld = s.resetHeld := by
  unfold State.join; dsimp only; split <;> simp
@[simp] theorem State.join_battery (s : State) (r : Requester) : (s.join r).battery = s.battery := by
  unfold State.join; dsimp only; split <;> simp
@[simp] theorem State.join_marker (s : State) (r : Requester) : (s.join r).marker = s.marker := by
  unfold State.join; dsimp only; split <;> simp
@[simp] theorem State.join_batteryLossFlag (s : State) (r : Requester) : (s.join r).batteryLossFlag = s.batteryLossFlag := by
  unfold State.join; dsimp only; split <;> simp
@[simp] theorem State.join_quantum (s : State) (r : Requester) : (s.join r).quantum = s.quantum := by
  unfold State.join; dsimp only; split <;> simp
@[simp] theorem State.join_slots (s : State) (r : Requester) : (s.join r).slots = s.slots := by
  unfold State.join; dsimp only; split <;> simp
@[simp] theorem State.join_storage (s : State) (r : Requester) : (s.join r).storage = s.storage := by
  unfold State.join; dsimp only; split <;> simp
@[simp] theorem State.join_warrants (s : State) (r : Requester) : (s.join r).warrants = s.warrants := by
  unfold State.join; dsimp only; split <;> simp
@[simp] theorem State.join_custody (s : State) (r : Requester) : (s.join r).custody = s.custody := by
  unfold State.join; dsimp only; split <;> simp
@[simp] theorem State.join_tamper (s : State) (r : Requester) : (s.join r).tamper = s.tamper := by
  unfold State.join; dsimp only; split <;> simp
@[simp] theorem State.join_passes (s : State) (r : Requester) : (s.join r).passes = s.passes := by
  unfold State.join; dsimp only; split <;> simp
@[simp] theorem State.join_draws (s : State) (r : Requester) : (s.join r).draws = s.draws := by
  unfold State.join; dsimp only; split <;> simp
@[simp] theorem State.join_nextSerial (s : State) (r : Requester) : (s.join r).nextSerial = s.nextSerial := by
  unfold State.join; dsimp only; split <;> simp
@[simp] theorem State.join_pending (s : State) (r : Requester) : (s.join r).pending = s.pending := by
  unfold State.join; dsimp only; split <;> simp

/-! ### `State.release` -/

@[simp] theorem State.release_mode (s : State) : (s.release).mode = s.mode := by
  unfold State.release; simp
@[simp] theorem State.release_vmain (s : State) : (s.release).vmain = s.vmain := by
  unfold State.release; simp
@[simp] theorem State.release_resetHeld (s : State) : (s.release).resetHeld = s.resetHeld := by
  unfold State.release; simp
@[simp] theorem State.release_battery (s : State) : (s.release).battery = s.battery := by
  unfold State.release; simp
@[simp] theorem State.release_marker (s : State) : (s.release).marker = s.marker := by
  unfold State.release; simp
@[simp] theorem State.release_batteryLossFlag (s : State) : (s.release).batteryLossFlag = s.batteryLossFlag := by
  unfold State.release; simp
@[simp] theorem State.release_quantum (s : State) : (s.release).quantum = s.quantum := by
  unfold State.release; simp
@[simp] theorem State.release_slots (s : State) : (s.release).slots = s.slots := by
  unfold State.release; simp
@[simp] theorem State.release_storage (s : State) : (s.release).storage = s.storage := by
  unfold State.release; simp
@[simp] theorem State.release_warrants (s : State) : (s.release).warrants = s.warrants := by
  unfold State.release; simp
@[simp] theorem State.release_custody (s : State) : (s.release).custody = s.custody := by
  unfold State.release; simp
@[simp] theorem State.release_tamper (s : State) : (s.release).tamper = s.tamper := by
  unfold State.release; simp
@[simp] theorem State.release_passes (s : State) : (s.release).passes = s.passes := by
  unfold State.release; simp
@[simp] theorem State.release_draws (s : State) : (s.release).draws = s.draws := by
  unfold State.release; simp
@[simp] theorem State.release_nextSerial (s : State) : (s.release).nextSerial = s.nextSerial := by
  unfold State.release; simp
@[simp] theorem State.release_pending (s : State) : (s.release).pending = s.pending := by
  unfold State.release; simp

/-! ### `State.startProcess` -/

@[simp] theorem State.startProcess_mode (s : State) (p : Process) : (s.startProcess p).mode = s.mode := by
  unfold State.startProcess; simp
@[simp] theorem State.startProcess_vmain (s : State) (p : Process) : (s.startProcess p).vmain = s.vmain := by
  unfold State.startProcess; simp
@[simp] theorem State.startProcess_resetHeld (s : State) (p : Process) : (s.startProcess p).resetHeld = s.resetHeld := by
  unfold State.startProcess; simp
@[simp] theorem State.startProcess_battery (s : State) (p : Process) : (s.startProcess p).battery = s.battery := by
  unfold State.startProcess; simp
@[simp] theorem State.startProcess_marker (s : State) (p : Process) : (s.startProcess p).marker = s.marker := by
  unfold State.startProcess; simp
@[simp] theorem State.startProcess_batteryLossFlag (s : State) (p : Process) : (s.startProcess p).batteryLossFlag = s.batteryLossFlag := by
  unfold State.startProcess; simp
@[simp] theorem State.startProcess_quantum (s : State) (p : Process) : (s.startProcess p).quantum = s.quantum := by
  unfold State.startProcess; simp
@[simp] theorem State.startProcess_slots (s : State) (p : Process) : (s.startProcess p).slots = s.slots := by
  unfold State.startProcess; simp
@[simp] theorem State.startProcess_storage (s : State) (p : Process) : (s.startProcess p).storage = s.storage := by
  unfold State.startProcess; simp
@[simp] theorem State.startProcess_warrants (s : State) (p : Process) : (s.startProcess p).warrants = s.warrants := by
  unfold State.startProcess; simp
@[simp] theorem State.startProcess_tamper (s : State) (p : Process) : (s.startProcess p).tamper = s.tamper := by
  unfold State.startProcess; simp
@[simp] theorem State.startProcess_passes (s : State) (p : Process) : (s.startProcess p).passes = s.passes := by
  unfold State.startProcess; simp
@[simp] theorem State.startProcess_draws (s : State) (p : Process) : (s.startProcess p).draws = s.draws := by
  unfold State.startProcess; simp
@[simp] theorem State.startProcess_nextSerial (s : State) (p : Process) : (s.startProcess p).nextSerial = s.nextSerial := by
  unfold State.startProcess; simp
@[simp] theorem State.startProcess_pending (s : State) (p : Process) : (s.startProcess p).pending = s.pending := by
  unfold State.startProcess; simp

/-! ### `State.endProcess` -/

@[simp] theorem State.endProcess_mode (s : State) (r : Reply) : (s.endProcess r).mode = s.mode := by
  unfold State.endProcess; simp
@[simp] theorem State.endProcess_vmain (s : State) (r : Reply) : (s.endProcess r).vmain = s.vmain := by
  unfold State.endProcess; simp
@[simp] theorem State.endProcess_resetHeld (s : State) (r : Reply) : (s.endProcess r).resetHeld = s.resetHeld := by
  unfold State.endProcess; simp
@[simp] theorem State.endProcess_battery (s : State) (r : Reply) : (s.endProcess r).battery = s.battery := by
  unfold State.endProcess; simp
@[simp] theorem State.endProcess_marker (s : State) (r : Reply) : (s.endProcess r).marker = s.marker := by
  unfold State.endProcess; simp
@[simp] theorem State.endProcess_batteryLossFlag (s : State) (r : Reply) : (s.endProcess r).batteryLossFlag = s.batteryLossFlag := by
  unfold State.endProcess; simp
@[simp] theorem State.endProcess_quantum (s : State) (r : Reply) : (s.endProcess r).quantum = s.quantum := by
  unfold State.endProcess; simp
@[simp] theorem State.endProcess_slots (s : State) (r : Reply) : (s.endProcess r).slots = s.slots := by
  unfold State.endProcess; simp
@[simp] theorem State.endProcess_storage (s : State) (r : Reply) : (s.endProcess r).storage = s.storage := by
  unfold State.endProcess; simp
@[simp] theorem State.endProcess_warrants (s : State) (r : Reply) : (s.endProcess r).warrants = s.warrants := by
  unfold State.endProcess; simp
@[simp] theorem State.endProcess_tamper (s : State) (r : Reply) : (s.endProcess r).tamper = s.tamper := by
  unfold State.endProcess; simp
@[simp] theorem State.endProcess_passes (s : State) (r : Reply) : (s.endProcess r).passes = s.passes := by
  unfold State.endProcess; simp
@[simp] theorem State.endProcess_draws (s : State) (r : Reply) : (s.endProcess r).draws = s.draws := by
  unfold State.endProcess; simp
@[simp] theorem State.endProcess_nextSerial (s : State) (r : Reply) : (s.endProcess r).nextSerial = s.nextSerial := by
  unfold State.endProcess; simp
@[simp] theorem State.endProcess_pending (s : State) (r : Reply) : (s.endProcess r).pending = s.pending := by
  unfold State.endProcess; simp

/-! ### `State.endWalk` -/

@[simp] theorem State.endWalk_mode (s : State) (g : RunGrant) (r : Run) (rs : List EntryResult) (n : Nat) (e : Option EndReason) : (s.endWalk g r rs n e).mode = s.mode := by
  unfold State.endWalk; simp
@[simp] theorem State.endWalk_vmain (s : State) (g : RunGrant) (r : Run) (rs : List EntryResult) (n : Nat) (e : Option EndReason) : (s.endWalk g r rs n e).vmain = s.vmain := by
  unfold State.endWalk; simp
@[simp] theorem State.endWalk_resetHeld (s : State) (g : RunGrant) (r : Run) (rs : List EntryResult) (n : Nat) (e : Option EndReason) : (s.endWalk g r rs n e).resetHeld = s.resetHeld := by
  unfold State.endWalk; simp
@[simp] theorem State.endWalk_battery (s : State) (g : RunGrant) (r : Run) (rs : List EntryResult) (n : Nat) (e : Option EndReason) : (s.endWalk g r rs n e).battery = s.battery := by
  unfold State.endWalk; simp
@[simp] theorem State.endWalk_marker (s : State) (g : RunGrant) (r : Run) (rs : List EntryResult) (n : Nat) (e : Option EndReason) : (s.endWalk g r rs n e).marker = s.marker := by
  unfold State.endWalk; simp
@[simp] theorem State.endWalk_batteryLossFlag (s : State) (g : RunGrant) (r : Run) (rs : List EntryResult) (n : Nat) (e : Option EndReason) : (s.endWalk g r rs n e).batteryLossFlag = s.batteryLossFlag := by
  unfold State.endWalk; simp
@[simp] theorem State.endWalk_quantum (s : State) (g : RunGrant) (r : Run) (rs : List EntryResult) (n : Nat) (e : Option EndReason) : (s.endWalk g r rs n e).quantum = s.quantum := by
  unfold State.endWalk; simp
@[simp] theorem State.endWalk_slots (s : State) (g : RunGrant) (r : Run) (rs : List EntryResult) (n : Nat) (e : Option EndReason) : (s.endWalk g r rs n e).slots = s.slots := by
  unfold State.endWalk; simp
@[simp] theorem State.endWalk_storage (s : State) (g : RunGrant) (r : Run) (rs : List EntryResult) (n : Nat) (e : Option EndReason) : (s.endWalk g r rs n e).storage = s.storage := by
  unfold State.endWalk; simp
@[simp] theorem State.endWalk_warrants (s : State) (g : RunGrant) (r : Run) (rs : List EntryResult) (n : Nat) (e : Option EndReason) : (s.endWalk g r rs n e).warrants = s.warrants := by
  unfold State.endWalk; simp
@[simp] theorem State.endWalk_custody (s : State) (g : RunGrant) (r : Run) (rs : List EntryResult) (n : Nat) (e : Option EndReason) : (s.endWalk g r rs n e).custody = s.custody := by
  unfold State.endWalk; simp
@[simp] theorem State.endWalk_tamper (s : State) (g : RunGrant) (r : Run) (rs : List EntryResult) (n : Nat) (e : Option EndReason) : (s.endWalk g r rs n e).tamper = s.tamper := by
  unfold State.endWalk; simp
@[simp] theorem State.endWalk_passes (s : State) (g : RunGrant) (r : Run) (rs : List EntryResult) (n : Nat) (e : Option EndReason) : (s.endWalk g r rs n e).passes = s.passes := by
  unfold State.endWalk; simp
@[simp] theorem State.endWalk_draws (s : State) (g : RunGrant) (r : Run) (rs : List EntryResult) (n : Nat) (e : Option EndReason) : (s.endWalk g r rs n e).draws = s.draws := by
  unfold State.endWalk; simp
@[simp] theorem State.endWalk_nextSerial (s : State) (g : RunGrant) (r : Run) (rs : List EntryResult) (n : Nat) (e : Option EndReason) : (s.endWalk g r rs n e).nextSerial = s.nextSerial := by
  unfold State.endWalk; simp
@[simp] theorem State.endWalk_pending (s : State) (g : RunGrant) (r : Run) (rs : List EntryResult) (n : Nat) (e : Option EndReason) : (s.endWalk g r rs n e).pending = s.pending := by
  unfold State.endWalk; simp

/-! ### `State.runStop` -/

@[simp] theorem State.runStop_mode (s : State) (l : LaneId) : (s.runStop l).mode = s.mode := by
  unfold State.runStop; dsimp only; (repeat' split) <;> simp
@[simp] theorem State.runStop_vmain (s : State) (l : LaneId) : (s.runStop l).vmain = s.vmain := by
  unfold State.runStop; dsimp only; (repeat' split) <;> simp
@[simp] theorem State.runStop_resetHeld (s : State) (l : LaneId) : (s.runStop l).resetHeld = s.resetHeld := by
  unfold State.runStop; dsimp only; (repeat' split) <;> simp
@[simp] theorem State.runStop_battery (s : State) (l : LaneId) : (s.runStop l).battery = s.battery := by
  unfold State.runStop; dsimp only; (repeat' split) <;> simp
@[simp] theorem State.runStop_marker (s : State) (l : LaneId) : (s.runStop l).marker = s.marker := by
  unfold State.runStop; dsimp only; (repeat' split) <;> simp
@[simp] theorem State.runStop_batteryLossFlag (s : State) (l : LaneId) : (s.runStop l).batteryLossFlag = s.batteryLossFlag := by
  unfold State.runStop; dsimp only; (repeat' split) <;> simp
@[simp] theorem State.runStop_quantum (s : State) (l : LaneId) : (s.runStop l).quantum = s.quantum := by
  unfold State.runStop; dsimp only; (repeat' split) <;> simp
@[simp] theorem State.runStop_slots (s : State) (l : LaneId) : (s.runStop l).slots = s.slots := by
  unfold State.runStop; dsimp only; (repeat' split) <;> simp
@[simp] theorem State.runStop_storage (s : State) (l : LaneId) : (s.runStop l).storage = s.storage := by
  unfold State.runStop; dsimp only; (repeat' split) <;> simp
@[simp] theorem State.runStop_warrants (s : State) (l : LaneId) : (s.runStop l).warrants = s.warrants := by
  unfold State.runStop; dsimp only; (repeat' split) <;> simp
@[simp] theorem State.runStop_custody (s : State) (l : LaneId) : (s.runStop l).custody = s.custody := by
  unfold State.runStop; dsimp only; (repeat' split) <;> simp
@[simp] theorem State.runStop_tamper (s : State) (l : LaneId) : (s.runStop l).tamper = s.tamper := by
  unfold State.runStop; dsimp only; (repeat' split) <;> simp
@[simp] theorem State.runStop_passes (s : State) (l : LaneId) : (s.runStop l).passes = s.passes := by
  unfold State.runStop; dsimp only; (repeat' split) <;> simp
@[simp] theorem State.runStop_draws (s : State) (l : LaneId) : (s.runStop l).draws = s.draws := by
  unfold State.runStop; dsimp only; (repeat' split) <;> simp
@[simp] theorem State.runStop_nextSerial (s : State) (l : LaneId) : (s.runStop l).nextSerial = s.nextSerial := by
  unfold State.runStop; dsimp only; (repeat' split) <;> simp
@[simp] theorem State.runStop_pending (s : State) (l : LaneId) : (s.runStop l).pending = s.pending := by
  unfold State.runStop; dsimp only; (repeat' split) <;> simp

/-! ### `State.walkOn` -/

@[simp] theorem State.walkOn_mode (s : State) (g : RunGrant) : (s.walkOn g).mode = s.mode := by
  unfold State.walkOn; dsimp only; split
  · rfl
  · split <;> (try split) <;> simp
@[simp] theorem State.walkOn_vmain (s : State) (g : RunGrant) : (s.walkOn g).vmain = s.vmain := by
  unfold State.walkOn; dsimp only; split
  · rfl
  · split <;> (try split) <;> simp
@[simp] theorem State.walkOn_resetHeld (s : State) (g : RunGrant) : (s.walkOn g).resetHeld = s.resetHeld := by
  unfold State.walkOn; dsimp only; split
  · rfl
  · split <;> (try split) <;> simp
@[simp] theorem State.walkOn_battery (s : State) (g : RunGrant) : (s.walkOn g).battery = s.battery := by
  unfold State.walkOn; dsimp only; split
  · rfl
  · split <;> (try split) <;> simp
@[simp] theorem State.walkOn_marker (s : State) (g : RunGrant) : (s.walkOn g).marker = s.marker := by
  unfold State.walkOn; dsimp only; split
  · rfl
  · split <;> (try split) <;> simp
@[simp] theorem State.walkOn_batteryLossFlag (s : State) (g : RunGrant) : (s.walkOn g).batteryLossFlag = s.batteryLossFlag := by
  unfold State.walkOn; dsimp only; split
  · rfl
  · split <;> (try split) <;> simp
@[simp] theorem State.walkOn_quantum (s : State) (g : RunGrant) : (s.walkOn g).quantum = s.quantum := by
  unfold State.walkOn; dsimp only; split
  · rfl
  · split <;> (try split) <;> simp
@[simp] theorem State.walkOn_slots (s : State) (g : RunGrant) : (s.walkOn g).slots = s.slots := by
  unfold State.walkOn; dsimp only; split
  · rfl
  · split <;> (try split) <;> simp
@[simp] theorem State.walkOn_storage (s : State) (g : RunGrant) : (s.walkOn g).storage = s.storage := by
  unfold State.walkOn; dsimp only; split
  · rfl
  · split <;> (try split) <;> simp
@[simp] theorem State.walkOn_warrants (s : State) (g : RunGrant) : (s.walkOn g).warrants = s.warrants := by
  unfold State.walkOn; dsimp only; split
  · rfl
  · split <;> (try split) <;> simp
@[simp] theorem State.walkOn_custody (s : State) (g : RunGrant) : (s.walkOn g).custody = s.custody := by
  unfold State.walkOn; dsimp only; split
  · rfl
  · split <;> (try split) <;> simp
@[simp] theorem State.walkOn_tamper (s : State) (g : RunGrant) : (s.walkOn g).tamper = s.tamper := by
  unfold State.walkOn; dsimp only; split
  · rfl
  · split <;> (try split) <;> simp
@[simp] theorem State.walkOn_passes (s : State) (g : RunGrant) : (s.walkOn g).passes = s.passes := by
  unfold State.walkOn; dsimp only; split
  · rfl
  · split <;> (try split) <;> simp
@[simp] theorem State.walkOn_draws (s : State) (g : RunGrant) : (s.walkOn g).draws = s.draws := by
  unfold State.walkOn; dsimp only; split
  · rfl
  · split <;> (try split) <;> simp
@[simp] theorem State.walkOn_nextSerial (s : State) (g : RunGrant) : (s.walkOn g).nextSerial = s.nextSerial := by
  unfold State.walkOn; dsimp only; split
  · rfl
  · split <;> (try split) <;> simp
@[simp] theorem State.walkOn_pending (s : State) (g : RunGrant) : (s.walkOn g).pending = s.pending := by
  unfold State.walkOn; dsimp only; split
  · rfl
  · split <;> (try split) <;> simp

/-! ### `State.raiseUsesOf` -/

@[simp] theorem State.raiseUsesOf_mode (s : State) (i : Option SlotId) : (s.raiseUsesOf i).mode = s.mode := by
  cases i <;> rfl
@[simp] theorem State.raiseUsesOf_vmain (s : State) (i : Option SlotId) : (s.raiseUsesOf i).vmain = s.vmain := by
  cases i <;> rfl
@[simp] theorem State.raiseUsesOf_resetHeld (s : State) (i : Option SlotId) : (s.raiseUsesOf i).resetHeld = s.resetHeld := by
  cases i <;> rfl
@[simp] theorem State.raiseUsesOf_battery (s : State) (i : Option SlotId) : (s.raiseUsesOf i).battery = s.battery := by
  cases i <;> rfl
@[simp] theorem State.raiseUsesOf_marker (s : State) (i : Option SlotId) : (s.raiseUsesOf i).marker = s.marker := by
  cases i <;> rfl
@[simp] theorem State.raiseUsesOf_batteryLossFlag (s : State) (i : Option SlotId) : (s.raiseUsesOf i).batteryLossFlag = s.batteryLossFlag := by
  cases i <;> rfl
@[simp] theorem State.raiseUsesOf_quantum (s : State) (i : Option SlotId) : (s.raiseUsesOf i).quantum = s.quantum := by
  cases i <;> rfl
@[simp] theorem State.raiseUsesOf_storage (s : State) (i : Option SlotId) : (s.raiseUsesOf i).storage = s.storage := by
  cases i <;> rfl
@[simp] theorem State.raiseUsesOf_warrants (s : State) (i : Option SlotId) : (s.raiseUsesOf i).warrants = s.warrants := by
  cases i <;> rfl
@[simp] theorem State.raiseUsesOf_lanes (s : State) (i : Option SlotId) : (s.raiseUsesOf i).lanes = s.lanes := by
  cases i <;> rfl
@[simp] theorem State.raiseUsesOf_custody (s : State) (i : Option SlotId) : (s.raiseUsesOf i).custody = s.custody := by
  cases i <;> rfl
@[simp] theorem State.raiseUsesOf_engine (s : State) (i : Option SlotId) : (s.raiseUsesOf i).engine = s.engine := by
  cases i <;> rfl
@[simp] theorem State.raiseUsesOf_requesters (s : State) (i : Option SlotId) : (s.raiseUsesOf i).requesters = s.requesters := by
  cases i <;> rfl
@[simp] theorem State.raiseUsesOf_highPointer (s : State) (i : Option SlotId) : (s.raiseUsesOf i).highPointer = s.highPointer := by
  cases i <;> rfl
@[simp] theorem State.raiseUsesOf_lowPointer (s : State) (i : Option SlotId) : (s.raiseUsesOf i).lowPointer = s.lowPointer := by
  cases i <;> rfl
@[simp] theorem State.raiseUsesOf_tamper (s : State) (i : Option SlotId) : (s.raiseUsesOf i).tamper = s.tamper := by
  cases i <;> rfl
@[simp] theorem State.raiseUsesOf_passes (s : State) (i : Option SlotId) : (s.raiseUsesOf i).passes = s.passes := by
  cases i <;> rfl
@[simp] theorem State.raiseUsesOf_draws (s : State) (i : Option SlotId) : (s.raiseUsesOf i).draws = s.draws := by
  cases i <;> rfl
@[simp] theorem State.raiseUsesOf_nextSerial (s : State) (i : Option SlotId) : (s.raiseUsesOf i).nextSerial = s.nextSerial := by
  cases i <;> rfl
@[simp] theorem State.raiseUsesOf_pending (s : State) (i : Option SlotId) : (s.raiseUsesOf i).pending = s.pending := by
  cases i <;> rfl

/-! ### `State.completeEntry` -/

@[simp] theorem State.completeEntry_mode (s : State) (g : RunGrant) (n : Nat) (k : Block) : (s.completeEntry g n k).mode = s.mode := by
  unfold State.completeEntry; simp
@[simp] theorem State.completeEntry_vmain (s : State) (g : RunGrant) (n : Nat) (k : Block) : (s.completeEntry g n k).vmain = s.vmain := by
  unfold State.completeEntry; simp
@[simp] theorem State.completeEntry_resetHeld (s : State) (g : RunGrant) (n : Nat) (k : Block) : (s.completeEntry g n k).resetHeld = s.resetHeld := by
  unfold State.completeEntry; simp
@[simp] theorem State.completeEntry_battery (s : State) (g : RunGrant) (n : Nat) (k : Block) : (s.completeEntry g n k).battery = s.battery := by
  unfold State.completeEntry; simp
@[simp] theorem State.completeEntry_marker (s : State) (g : RunGrant) (n : Nat) (k : Block) : (s.completeEntry g n k).marker = s.marker := by
  unfold State.completeEntry; simp
@[simp] theorem State.completeEntry_batteryLossFlag (s : State) (g : RunGrant) (n : Nat) (k : Block) : (s.completeEntry g n k).batteryLossFlag = s.batteryLossFlag := by
  unfold State.completeEntry; simp
@[simp] theorem State.completeEntry_quantum (s : State) (g : RunGrant) (n : Nat) (k : Block) : (s.completeEntry g n k).quantum = s.quantum := by
  unfold State.completeEntry; simp
@[simp] theorem State.completeEntry_storage (s : State) (g : RunGrant) (n : Nat) (k : Block) : (s.completeEntry g n k).storage = s.storage := by
  unfold State.completeEntry; simp
@[simp] theorem State.completeEntry_custody (s : State) (g : RunGrant) (n : Nat) (k : Block) : (s.completeEntry g n k).custody = s.custody := by
  unfold State.completeEntry; simp
@[simp] theorem State.completeEntry_engine (s : State) (g : RunGrant) (n : Nat) (k : Block) : (s.completeEntry g n k).engine = s.engine := by
  unfold State.completeEntry; simp
@[simp] theorem State.completeEntry_requesters (s : State) (g : RunGrant) (n : Nat) (k : Block) : (s.completeEntry g n k).requesters = s.requesters := by
  unfold State.completeEntry; simp
@[simp] theorem State.completeEntry_highPointer (s : State) (g : RunGrant) (n : Nat) (k : Block) : (s.completeEntry g n k).highPointer = s.highPointer := by
  unfold State.completeEntry; simp
@[simp] theorem State.completeEntry_lowPointer (s : State) (g : RunGrant) (n : Nat) (k : Block) : (s.completeEntry g n k).lowPointer = s.lowPointer := by
  unfold State.completeEntry; simp
@[simp] theorem State.completeEntry_tamper (s : State) (g : RunGrant) (n : Nat) (k : Block) : (s.completeEntry g n k).tamper = s.tamper := by
  unfold State.completeEntry; simp
@[simp] theorem State.completeEntry_passes (s : State) (g : RunGrant) (n : Nat) (k : Block) : (s.completeEntry g n k).passes = s.passes := by
  unfold State.completeEntry; simp
@[simp] theorem State.completeEntry_draws (s : State) (g : RunGrant) (n : Nat) (k : Block) : (s.completeEntry g n k).draws = s.draws := by
  unfold State.completeEntry; simp
@[simp] theorem State.completeEntry_nextSerial (s : State) (g : RunGrant) (n : Nat) (k : Block) : (s.completeEntry g n k).nextSerial = s.nextSerial := by
  unfold State.completeEntry; simp
@[simp] theorem State.completeEntry_pending (s : State) (g : RunGrant) (n : Nat) (k : Block) : (s.completeEntry g n k).pending = s.pending := by
  unfold State.completeEntry; simp

/-! ### `State.notice` -/

@[simp] theorem State.notice_mode (s : State) : (s.notice).mode = s.mode := by
  unfold State.notice; split <;> simp
@[simp] theorem State.notice_vmain (s : State) : (s.notice).vmain = s.vmain := by
  unfold State.notice; split <;> simp
@[simp] theorem State.notice_resetHeld (s : State) : (s.notice).resetHeld = s.resetHeld := by
  unfold State.notice; split <;> simp
@[simp] theorem State.notice_battery (s : State) : (s.notice).battery = s.battery := by
  unfold State.notice; split <;> simp
@[simp] theorem State.notice_marker (s : State) : (s.notice).marker = s.marker := by
  unfold State.notice; split <;> simp
@[simp] theorem State.notice_batteryLossFlag (s : State) : (s.notice).batteryLossFlag = s.batteryLossFlag := by
  unfold State.notice; split <;> simp
@[simp] theorem State.notice_quantum (s : State) : (s.notice).quantum = s.quantum := by
  unfold State.notice; split <;> simp
@[simp] theorem State.notice_slots (s : State) : (s.notice).slots = s.slots := by
  unfold State.notice; split <;> simp
@[simp] theorem State.notice_storage (s : State) : (s.notice).storage = s.storage := by
  unfold State.notice; split <;> simp
@[simp] theorem State.notice_warrants (s : State) : (s.notice).warrants = s.warrants := by
  unfold State.notice; split <;> simp
@[simp] theorem State.notice_lanes (s : State) : (s.notice).lanes = s.lanes := by
  unfold State.notice; split <;> simp
@[simp] theorem State.notice_engine (s : State) : (s.notice).engine = s.engine := by
  unfold State.notice; split <;> simp
@[simp] theorem State.notice_requesters (s : State) : (s.notice).requesters = s.requesters := by
  unfold State.notice; split <;> simp
@[simp] theorem State.notice_highPointer (s : State) : (s.notice).highPointer = s.highPointer := by
  unfold State.notice; split <;> simp
@[simp] theorem State.notice_lowPointer (s : State) : (s.notice).lowPointer = s.lowPointer := by
  unfold State.notice; split <;> simp
@[simp] theorem State.notice_tamper (s : State) : (s.notice).tamper = s.tamper := by
  unfold State.notice; split <;> simp
@[simp] theorem State.notice_passes (s : State) : (s.notice).passes = s.passes := by
  unfold State.notice; split <;> simp
@[simp] theorem State.notice_draws (s : State) : (s.notice).draws = s.draws := by
  unfold State.notice; split <;> simp
@[simp] theorem State.notice_nextSerial (s : State) : (s.notice).nextSerial = s.nextSerial := by
  unfold State.notice; split <;> simp
@[simp] theorem State.notice_pending (s : State) : (s.notice).pending = s.pending := by
  unfold State.notice; split <;> simp

/-! ### `State.orderErase` -/

@[simp] theorem State.orderErase_vmain (s : State) : (s.orderErase).vmain = s.vmain := by
  unfold State.orderErase; split <;> simp
@[simp] theorem State.orderErase_resetHeld (s : State) : (s.orderErase).resetHeld = s.resetHeld := by
  unfold State.orderErase; split <;> simp
@[simp] theorem State.orderErase_battery (s : State) : (s.orderErase).battery = s.battery := by
  unfold State.orderErase; split <;> simp
@[simp] theorem State.orderErase_marker (s : State) : (s.orderErase).marker = s.marker := by
  unfold State.orderErase; split <;> simp
@[simp] theorem State.orderErase_batteryLossFlag (s : State) : (s.orderErase).batteryLossFlag = s.batteryLossFlag := by
  unfold State.orderErase; split <;> simp
@[simp] theorem State.orderErase_quantum (s : State) : (s.orderErase).quantum = s.quantum := by
  unfold State.orderErase; split <;> simp
@[simp] theorem State.orderErase_slots (s : State) : (s.orderErase).slots = s.slots := by
  unfold State.orderErase; split <;> simp
@[simp] theorem State.orderErase_storage (s : State) : (s.orderErase).storage = s.storage := by
  unfold State.orderErase; split <;> simp
@[simp] theorem State.orderErase_highPointer (s : State) : (s.orderErase).highPointer = s.highPointer := by
  unfold State.orderErase; split <;> simp
@[simp] theorem State.orderErase_lowPointer (s : State) : (s.orderErase).lowPointer = s.lowPointer := by
  unfold State.orderErase; split <;> simp
@[simp] theorem State.orderErase_units (s : State) : (s.orderErase).passes.units = s.passes.units := by
  unfold State.orderErase; split <;> simp
@[simp] theorem State.orderErase_draws (s : State) : (s.orderErase).draws = s.draws := by
  unfold State.orderErase; split <;> simp
@[simp] theorem State.orderErase_nextSerial (s : State) : (s.orderErase).nextSerial = s.nextSerial := by
  unfold State.orderErase; split <;> simp
@[simp] theorem State.orderErase_pending (s : State) : (s.orderErase).pending = s.pending := by
  unfold State.orderErase; split <;> simp

/-! ### `State.tamperEvent` -/

@[simp] theorem State.tamperEvent_vmain (s : State) (x : Source) (r : Response) : (s.tamperEvent x r).vmain = s.vmain := by
  unfold State.tamperEvent; dsimp only; split <;> simp
@[simp] theorem State.tamperEvent_resetHeld (s : State) (x : Source) (r : Response) : (s.tamperEvent x r).resetHeld = s.resetHeld := by
  unfold State.tamperEvent; dsimp only; split <;> simp
@[simp] theorem State.tamperEvent_battery (s : State) (x : Source) (r : Response) : (s.tamperEvent x r).battery = s.battery := by
  unfold State.tamperEvent; dsimp only; split <;> simp
@[simp] theorem State.tamperEvent_marker (s : State) (x : Source) (r : Response) : (s.tamperEvent x r).marker = s.marker := by
  unfold State.tamperEvent; dsimp only; split <;> simp
@[simp] theorem State.tamperEvent_batteryLossFlag (s : State) (x : Source) (r : Response) : (s.tamperEvent x r).batteryLossFlag = s.batteryLossFlag := by
  unfold State.tamperEvent; dsimp only; split <;> simp
@[simp] theorem State.tamperEvent_quantum (s : State) (x : Source) (r : Response) : (s.tamperEvent x r).quantum = s.quantum := by
  unfold State.tamperEvent; dsimp only; split <;> simp
@[simp] theorem State.tamperEvent_slots (s : State) (x : Source) (r : Response) : (s.tamperEvent x r).slots = s.slots := by
  unfold State.tamperEvent; dsimp only; split <;> simp
@[simp] theorem State.tamperEvent_storage (s : State) (x : Source) (r : Response) : (s.tamperEvent x r).storage = s.storage := by
  unfold State.tamperEvent; dsimp only; split <;> simp
@[simp] theorem State.tamperEvent_highPointer (s : State) (x : Source) (r : Response) : (s.tamperEvent x r).highPointer = s.highPointer := by
  unfold State.tamperEvent; dsimp only; split <;> simp
@[simp] theorem State.tamperEvent_lowPointer (s : State) (x : Source) (r : Response) : (s.tamperEvent x r).lowPointer = s.lowPointer := by
  unfold State.tamperEvent; dsimp only; split <;> simp
@[simp] theorem State.tamperEvent_units (s : State) (x : Source) (r : Response) : (s.tamperEvent x r).passes.units = s.passes.units := by
  unfold State.tamperEvent; dsimp only; split <;> simp
@[simp] theorem State.tamperEvent_draws (s : State) (x : Source) (r : Response) : (s.tamperEvent x r).draws = s.draws := by
  unfold State.tamperEvent; dsimp only; split <;> simp
@[simp] theorem State.tamperEvent_nextSerial (s : State) (x : Source) (r : Response) : (s.tamperEvent x r).nextSerial = s.nextSerial := by
  unfold State.tamperEvent; dsimp only; split <;> simp
@[simp] theorem State.tamperEvent_pending (s : State) (x : Source) (r : Response) : (s.tamperEvent x r).pending = s.pending := by
  unfold State.tamperEvent; dsimp only; split <;> simp

/-! ### `State.sampleInput` -/

@[simp] theorem State.sampleInput_vmain (s : State) (i : InputId) (v : Level) : (s.sampleInput i v).vmain = s.vmain := by
  unfold State.sampleInput; dsimp only; split <;> simp
@[simp] theorem State.sampleInput_resetHeld (s : State) (i : InputId) (v : Level) : (s.sampleInput i v).resetHeld = s.resetHeld := by
  unfold State.sampleInput; dsimp only; split <;> simp
@[simp] theorem State.sampleInput_battery (s : State) (i : InputId) (v : Level) : (s.sampleInput i v).battery = s.battery := by
  unfold State.sampleInput; dsimp only; split <;> simp
@[simp] theorem State.sampleInput_marker (s : State) (i : InputId) (v : Level) : (s.sampleInput i v).marker = s.marker := by
  unfold State.sampleInput; dsimp only; split <;> simp
@[simp] theorem State.sampleInput_batteryLossFlag (s : State) (i : InputId) (v : Level) : (s.sampleInput i v).batteryLossFlag = s.batteryLossFlag := by
  unfold State.sampleInput; dsimp only; split <;> simp
@[simp] theorem State.sampleInput_quantum (s : State) (i : InputId) (v : Level) : (s.sampleInput i v).quantum = s.quantum := by
  unfold State.sampleInput; dsimp only; split <;> simp
@[simp] theorem State.sampleInput_slots (s : State) (i : InputId) (v : Level) : (s.sampleInput i v).slots = s.slots := by
  unfold State.sampleInput; dsimp only; split <;> simp
@[simp] theorem State.sampleInput_storage (s : State) (i : InputId) (v : Level) : (s.sampleInput i v).storage = s.storage := by
  unfold State.sampleInput; dsimp only; split <;> simp
@[simp] theorem State.sampleInput_highPointer (s : State) (i : InputId) (v : Level) : (s.sampleInput i v).highPointer = s.highPointer := by
  unfold State.sampleInput; dsimp only; split <;> simp
@[simp] theorem State.sampleInput_lowPointer (s : State) (i : InputId) (v : Level) : (s.sampleInput i v).lowPointer = s.lowPointer := by
  unfold State.sampleInput; dsimp only; split <;> simp
@[simp] theorem State.sampleInput_units (s : State) (i : InputId) (v : Level) : (s.sampleInput i v).passes.units = s.passes.units := by
  unfold State.sampleInput; dsimp only; split <;> simp
@[simp] theorem State.sampleInput_draws (s : State) (i : InputId) (v : Level) : (s.sampleInput i v).draws = s.draws := by
  unfold State.sampleInput; dsimp only; split <;> simp
@[simp] theorem State.sampleInput_nextSerial (s : State) (i : InputId) (v : Level) : (s.sampleInput i v).nextSerial = s.nextSerial := by
  unfold State.sampleInput; dsimp only; split <;> simp
@[simp] theorem State.sampleInput_pending (s : State) (i : InputId) (v : Level) : (s.sampleInput i v).pending = s.pending := by
  unfold State.sampleInput; dsimp only; split <;> simp

/-! ### `State.abandonComponent` -/

@[simp] theorem State.abandonComponent_mode (s : State) : (s.abandonComponent).mode = s.mode := by
  unfold State.abandonComponent; split <;> first | (split <;> first | (split <;> simp) | rfl) | rfl
@[simp] theorem State.abandonComponent_vmain (s : State) : (s.abandonComponent).vmain = s.vmain := by
  unfold State.abandonComponent; split <;> first | (split <;> first | (split <;> simp) | rfl) | rfl
@[simp] theorem State.abandonComponent_resetHeld (s : State) : (s.abandonComponent).resetHeld = s.resetHeld := by
  unfold State.abandonComponent; split <;> first | (split <;> first | (split <;> simp) | rfl) | rfl
@[simp] theorem State.abandonComponent_battery (s : State) : (s.abandonComponent).battery = s.battery := by
  unfold State.abandonComponent; split <;> first | (split <;> first | (split <;> simp) | rfl) | rfl
@[simp] theorem State.abandonComponent_marker (s : State) : (s.abandonComponent).marker = s.marker := by
  unfold State.abandonComponent; split <;> first | (split <;> first | (split <;> simp) | rfl) | rfl
@[simp] theorem State.abandonComponent_batteryLossFlag (s : State) : (s.abandonComponent).batteryLossFlag = s.batteryLossFlag := by
  unfold State.abandonComponent; split <;> first | (split <;> first | (split <;> simp) | rfl) | rfl
@[simp] theorem State.abandonComponent_quantum (s : State) : (s.abandonComponent).quantum = s.quantum := by
  unfold State.abandonComponent; split <;> first | (split <;> first | (split <;> simp) | rfl) | rfl
@[simp] theorem State.abandonComponent_slots (s : State) : (s.abandonComponent).slots = s.slots := by
  unfold State.abandonComponent; split <;> first | (split <;> first | (split <;> simp) | rfl) | rfl
@[simp] theorem State.abandonComponent_storage (s : State) : (s.abandonComponent).storage = s.storage := by
  unfold State.abandonComponent; split <;> first | (split <;> first | (split <;> simp) | rfl) | rfl
@[simp] theorem State.abandonComponent_warrants (s : State) : (s.abandonComponent).warrants = s.warrants := by
  unfold State.abandonComponent; split <;> first | (split <;> first | (split <;> simp) | rfl) | rfl
@[simp] theorem State.abandonComponent_lanes (s : State) : (s.abandonComponent).lanes = s.lanes := by
  unfold State.abandonComponent; split <;> first | (split <;> first | (split <;> simp) | rfl) | rfl
@[simp] theorem State.abandonComponent_engine (s : State) : (s.abandonComponent).engine = s.engine := by
  unfold State.abandonComponent; split <;> first | (split <;> first | (split <;> simp) | rfl) | rfl
@[simp] theorem State.abandonComponent_highPointer (s : State) : (s.abandonComponent).highPointer = s.highPointer := by
  unfold State.abandonComponent; split <;> first | (split <;> first | (split <;> simp) | rfl) | rfl
@[simp] theorem State.abandonComponent_lowPointer (s : State) : (s.abandonComponent).lowPointer = s.lowPointer := by
  unfold State.abandonComponent; split <;> first | (split <;> first | (split <;> simp) | rfl) | rfl
@[simp] theorem State.abandonComponent_tamper (s : State) : (s.abandonComponent).tamper = s.tamper := by
  unfold State.abandonComponent; split <;> first | (split <;> first | (split <;> simp) | rfl) | rfl
@[simp] theorem State.abandonComponent_passes (s : State) : (s.abandonComponent).passes = s.passes := by
  unfold State.abandonComponent; split <;> first | (split <;> first | (split <;> simp) | rfl) | rfl
@[simp] theorem State.abandonComponent_draws (s : State) : (s.abandonComponent).draws = s.draws := by
  unfold State.abandonComponent; split <;> first | (split <;> first | (split <;> simp) | rfl) | rfl
@[simp] theorem State.abandonComponent_nextSerial (s : State) : (s.abandonComponent).nextSerial = s.nextSerial := by
  unfold State.abandonComponent; split <;> first | (split <;> first | (split <;> simp) | rfl) | rfl
@[simp] theorem State.abandonComponent_pending (s : State) : (s.abandonComponent).pending = s.pending := by
  unfold State.abandonComponent; split <;> first | (split <;> first | (split <;> simp) | rfl) | rfl

/-! ### `State.changeToRun` -/

@[simp] theorem State.changeToRun_mode (s : State) : (s.changeToRun).mode = s.mode := by
  unfold State.changeToRun; simp
@[simp] theorem State.changeToRun_vmain (s : State) : (s.changeToRun).vmain = s.vmain := by
  unfold State.changeToRun; simp
@[simp] theorem State.changeToRun_resetHeld (s : State) : (s.changeToRun).resetHeld = s.resetHeld := by
  unfold State.changeToRun; simp
@[simp] theorem State.changeToRun_battery (s : State) : (s.changeToRun).battery = s.battery := by
  unfold State.changeToRun; simp
@[simp] theorem State.changeToRun_marker (s : State) : (s.changeToRun).marker = s.marker := by
  unfold State.changeToRun; simp
@[simp] theorem State.changeToRun_batteryLossFlag (s : State) : (s.changeToRun).batteryLossFlag = s.batteryLossFlag := by
  unfold State.changeToRun; simp
@[simp] theorem State.changeToRun_quantum (s : State) : (s.changeToRun).quantum = s.quantum := by
  unfold State.changeToRun; simp
@[simp] theorem State.changeToRun_storage (s : State) : (s.changeToRun).storage = s.storage := by
  unfold State.changeToRun; simp
@[simp] theorem State.changeToRun_warrants (s : State) : (s.changeToRun).warrants = s.warrants := by
  unfold State.changeToRun; simp
@[simp] theorem State.changeToRun_lanes (s : State) : (s.changeToRun).lanes = s.lanes := by
  unfold State.changeToRun; simp
@[simp] theorem State.changeToRun_engine (s : State) : (s.changeToRun).engine = s.engine := by
  unfold State.changeToRun; simp
@[simp] theorem State.changeToRun_highPointer (s : State) : (s.changeToRun).highPointer = s.highPointer := by
  unfold State.changeToRun; simp
@[simp] theorem State.changeToRun_lowPointer (s : State) : (s.changeToRun).lowPointer = s.lowPointer := by
  unfold State.changeToRun; simp
@[simp] theorem State.changeToRun_tamper (s : State) : (s.changeToRun).tamper = s.tamper := by
  unfold State.changeToRun; simp
@[simp] theorem State.changeToRun_passes (s : State) : (s.changeToRun).passes = s.passes := by
  unfold State.changeToRun; simp
@[simp] theorem State.changeToRun_draws (s : State) : (s.changeToRun).draws = s.draws := by
  unfold State.changeToRun; simp
@[simp] theorem State.changeToRun_nextSerial (s : State) : (s.changeToRun).nextSerial = s.nextSerial := by
  unfold State.changeToRun; simp
@[simp] theorem State.changeToRun_pending (s : State) : (s.changeToRun).pending = s.pending := by
  unfold State.changeToRun; simp

/-! ### `State.sampleSwitch` -/

@[simp] theorem State.sampleSwitch_mode (s : State) (v : Level) : (s.sampleSwitch v).mode = s.mode := by
  unfold State.sampleSwitch; dsimp only; split <;> simp
@[simp] theorem State.sampleSwitch_vmain (s : State) (v : Level) : (s.sampleSwitch v).vmain = s.vmain := by
  unfold State.sampleSwitch; dsimp only; split <;> simp
@[simp] theorem State.sampleSwitch_resetHeld (s : State) (v : Level) : (s.sampleSwitch v).resetHeld = s.resetHeld := by
  unfold State.sampleSwitch; dsimp only; split <;> simp
@[simp] theorem State.sampleSwitch_battery (s : State) (v : Level) : (s.sampleSwitch v).battery = s.battery := by
  unfold State.sampleSwitch; dsimp only; split <;> simp
@[simp] theorem State.sampleSwitch_marker (s : State) (v : Level) : (s.sampleSwitch v).marker = s.marker := by
  unfold State.sampleSwitch; dsimp only; split <;> simp
@[simp] theorem State.sampleSwitch_batteryLossFlag (s : State) (v : Level) : (s.sampleSwitch v).batteryLossFlag = s.batteryLossFlag := by
  unfold State.sampleSwitch; dsimp only; split <;> simp
@[simp] theorem State.sampleSwitch_quantum (s : State) (v : Level) : (s.sampleSwitch v).quantum = s.quantum := by
  unfold State.sampleSwitch; dsimp only; split <;> simp
@[simp] theorem State.sampleSwitch_storage (s : State) (v : Level) : (s.sampleSwitch v).storage = s.storage := by
  unfold State.sampleSwitch; dsimp only; split <;> simp
@[simp] theorem State.sampleSwitch_warrants (s : State) (v : Level) : (s.sampleSwitch v).warrants = s.warrants := by
  unfold State.sampleSwitch; dsimp only; split <;> simp
@[simp] theorem State.sampleSwitch_lanes (s : State) (v : Level) : (s.sampleSwitch v).lanes = s.lanes := by
  unfold State.sampleSwitch; dsimp only; split <;> simp
@[simp] theorem State.sampleSwitch_engine (s : State) (v : Level) : (s.sampleSwitch v).engine = s.engine := by
  unfold State.sampleSwitch; dsimp only; split <;> simp
@[simp] theorem State.sampleSwitch_highPointer (s : State) (v : Level) : (s.sampleSwitch v).highPointer = s.highPointer := by
  unfold State.sampleSwitch; dsimp only; split <;> simp
@[simp] theorem State.sampleSwitch_lowPointer (s : State) (v : Level) : (s.sampleSwitch v).lowPointer = s.lowPointer := by
  unfold State.sampleSwitch; dsimp only; split <;> simp
@[simp] theorem State.sampleSwitch_tamper (s : State) (v : Level) : (s.sampleSwitch v).tamper = s.tamper := by
  unfold State.sampleSwitch; dsimp only; split <;> simp
@[simp] theorem State.sampleSwitch_passes (s : State) (v : Level) : (s.sampleSwitch v).passes = s.passes := by
  unfold State.sampleSwitch; dsimp only; split <;> simp
@[simp] theorem State.sampleSwitch_draws (s : State) (v : Level) : (s.sampleSwitch v).draws = s.draws := by
  unfold State.sampleSwitch; dsimp only; split <;> simp
@[simp] theorem State.sampleSwitch_nextSerial (s : State) (v : Level) : (s.sampleSwitch v).nextSerial = s.nextSerial := by
  unfold State.sampleSwitch; dsimp only; split <;> simp
@[simp] theorem State.sampleSwitch_pending (s : State) (v : Level) : (s.sampleSwitch v).pending = s.pending := by
  unfold State.sampleSwitch; dsimp only; split <;> simp

/-! ### `State.answerRun` -/

@[simp] theorem State.answerRun_mode (s : State) (l : LaneId) (b : List Byte) : (s.answerRun l b).mode = s.mode := by
  unfold State.answerRun; split <;> simp
@[simp] theorem State.answerRun_vmain (s : State) (l : LaneId) (b : List Byte) : (s.answerRun l b).vmain = s.vmain := by
  unfold State.answerRun; split <;> simp
@[simp] theorem State.answerRun_resetHeld (s : State) (l : LaneId) (b : List Byte) : (s.answerRun l b).resetHeld = s.resetHeld := by
  unfold State.answerRun; split <;> simp
@[simp] theorem State.answerRun_battery (s : State) (l : LaneId) (b : List Byte) : (s.answerRun l b).battery = s.battery := by
  unfold State.answerRun; split <;> simp
@[simp] theorem State.answerRun_marker (s : State) (l : LaneId) (b : List Byte) : (s.answerRun l b).marker = s.marker := by
  unfold State.answerRun; split <;> simp
@[simp] theorem State.answerRun_batteryLossFlag (s : State) (l : LaneId) (b : List Byte) : (s.answerRun l b).batteryLossFlag = s.batteryLossFlag := by
  unfold State.answerRun; split <;> simp
@[simp] theorem State.answerRun_quantum (s : State) (l : LaneId) (b : List Byte) : (s.answerRun l b).quantum = s.quantum := by
  unfold State.answerRun; split <;> simp
@[simp] theorem State.answerRun_slots (s : State) (l : LaneId) (b : List Byte) : (s.answerRun l b).slots = s.slots := by
  unfold State.answerRun; split <;> simp
@[simp] theorem State.answerRun_storage (s : State) (l : LaneId) (b : List Byte) : (s.answerRun l b).storage = s.storage := by
  unfold State.answerRun; split <;> simp
@[simp] theorem State.answerRun_warrants (s : State) (l : LaneId) (b : List Byte) : (s.answerRun l b).warrants = s.warrants := by
  unfold State.answerRun; split <;> simp
@[simp] theorem State.answerRun_custody (s : State) (l : LaneId) (b : List Byte) : (s.answerRun l b).custody = s.custody := by
  unfold State.answerRun; split <;> simp
@[simp] theorem State.answerRun_tamper (s : State) (l : LaneId) (b : List Byte) : (s.answerRun l b).tamper = s.tamper := by
  unfold State.answerRun; split <;> simp
@[simp] theorem State.answerRun_passes (s : State) (l : LaneId) (b : List Byte) : (s.answerRun l b).passes = s.passes := by
  unfold State.answerRun; split <;> simp
@[simp] theorem State.answerRun_draws (s : State) (l : LaneId) (b : List Byte) : (s.answerRun l b).draws = s.draws := by
  unfold State.answerRun; split <;> simp
@[simp] theorem State.answerRun_nextSerial (s : State) (l : LaneId) (b : List Byte) : (s.answerRun l b).nextSerial = s.nextSerial := by
  unfold State.answerRun; split <;> simp
@[simp] theorem State.answerRun_pending (s : State) (l : LaneId) (b : List Byte) : (s.answerRun l b).pending = s.pending := by
  unfold State.answerRun; split <;> simp

/-! ### `State.answerLaneStatus` -/

@[simp] theorem State.answerLaneStatus_mode (s : State) (l : LaneId) (b : List Byte) : (s.answerLaneStatus l b).mode = s.mode := by
  unfold State.answerLaneStatus; split <;> simp
@[simp] theorem State.answerLaneStatus_vmain (s : State) (l : LaneId) (b : List Byte) : (s.answerLaneStatus l b).vmain = s.vmain := by
  unfold State.answerLaneStatus; split <;> simp
@[simp] theorem State.answerLaneStatus_resetHeld (s : State) (l : LaneId) (b : List Byte) : (s.answerLaneStatus l b).resetHeld = s.resetHeld := by
  unfold State.answerLaneStatus; split <;> simp
@[simp] theorem State.answerLaneStatus_battery (s : State) (l : LaneId) (b : List Byte) : (s.answerLaneStatus l b).battery = s.battery := by
  unfold State.answerLaneStatus; split <;> simp
@[simp] theorem State.answerLaneStatus_marker (s : State) (l : LaneId) (b : List Byte) : (s.answerLaneStatus l b).marker = s.marker := by
  unfold State.answerLaneStatus; split <;> simp
@[simp] theorem State.answerLaneStatus_batteryLossFlag (s : State) (l : LaneId) (b : List Byte) : (s.answerLaneStatus l b).batteryLossFlag = s.batteryLossFlag := by
  unfold State.answerLaneStatus; split <;> simp
@[simp] theorem State.answerLaneStatus_quantum (s : State) (l : LaneId) (b : List Byte) : (s.answerLaneStatus l b).quantum = s.quantum := by
  unfold State.answerLaneStatus; split <;> simp
@[simp] theorem State.answerLaneStatus_slots (s : State) (l : LaneId) (b : List Byte) : (s.answerLaneStatus l b).slots = s.slots := by
  unfold State.answerLaneStatus; split <;> simp
@[simp] theorem State.answerLaneStatus_storage (s : State) (l : LaneId) (b : List Byte) : (s.answerLaneStatus l b).storage = s.storage := by
  unfold State.answerLaneStatus; split <;> simp
@[simp] theorem State.answerLaneStatus_warrants (s : State) (l : LaneId) (b : List Byte) : (s.answerLaneStatus l b).warrants = s.warrants := by
  unfold State.answerLaneStatus; split <;> simp
@[simp] theorem State.answerLaneStatus_custody (s : State) (l : LaneId) (b : List Byte) : (s.answerLaneStatus l b).custody = s.custody := by
  unfold State.answerLaneStatus; split <;> simp
@[simp] theorem State.answerLaneStatus_tamper (s : State) (l : LaneId) (b : List Byte) : (s.answerLaneStatus l b).tamper = s.tamper := by
  unfold State.answerLaneStatus; split <;> simp
@[simp] theorem State.answerLaneStatus_passes (s : State) (l : LaneId) (b : List Byte) : (s.answerLaneStatus l b).passes = s.passes := by
  unfold State.answerLaneStatus; split <;> simp
@[simp] theorem State.answerLaneStatus_draws (s : State) (l : LaneId) (b : List Byte) : (s.answerLaneStatus l b).draws = s.draws := by
  unfold State.answerLaneStatus; split <;> simp
@[simp] theorem State.answerLaneStatus_nextSerial (s : State) (l : LaneId) (b : List Byte) : (s.answerLaneStatus l b).nextSerial = s.nextSerial := by
  unfold State.answerLaneStatus; split <;> simp
@[simp] theorem State.answerLaneStatus_pending (s : State) (l : LaneId) (b : List Byte) : (s.answerLaneStatus l b).pending = s.pending := by
  unfold State.answerLaneStatus; split <;> simp

/-! ### `State.answerWarrantStatus` -/

@[simp] theorem State.answerWarrantStatus_mode (s : State) (l : LaneId) (b : List Byte) : (s.answerWarrantStatus l b).mode = s.mode := by
  unfold State.answerWarrantStatus; (repeat' split) <;> simp
@[simp] theorem State.answerWarrantStatus_vmain (s : State) (l : LaneId) (b : List Byte) : (s.answerWarrantStatus l b).vmain = s.vmain := by
  unfold State.answerWarrantStatus; (repeat' split) <;> simp
@[simp] theorem State.answerWarrantStatus_resetHeld (s : State) (l : LaneId) (b : List Byte) : (s.answerWarrantStatus l b).resetHeld = s.resetHeld := by
  unfold State.answerWarrantStatus; (repeat' split) <;> simp
@[simp] theorem State.answerWarrantStatus_battery (s : State) (l : LaneId) (b : List Byte) : (s.answerWarrantStatus l b).battery = s.battery := by
  unfold State.answerWarrantStatus; (repeat' split) <;> simp
@[simp] theorem State.answerWarrantStatus_marker (s : State) (l : LaneId) (b : List Byte) : (s.answerWarrantStatus l b).marker = s.marker := by
  unfold State.answerWarrantStatus; (repeat' split) <;> simp
@[simp] theorem State.answerWarrantStatus_batteryLossFlag (s : State) (l : LaneId) (b : List Byte) : (s.answerWarrantStatus l b).batteryLossFlag = s.batteryLossFlag := by
  unfold State.answerWarrantStatus; (repeat' split) <;> simp
@[simp] theorem State.answerWarrantStatus_quantum (s : State) (l : LaneId) (b : List Byte) : (s.answerWarrantStatus l b).quantum = s.quantum := by
  unfold State.answerWarrantStatus; (repeat' split) <;> simp
@[simp] theorem State.answerWarrantStatus_slots (s : State) (l : LaneId) (b : List Byte) : (s.answerWarrantStatus l b).slots = s.slots := by
  unfold State.answerWarrantStatus; (repeat' split) <;> simp
@[simp] theorem State.answerWarrantStatus_storage (s : State) (l : LaneId) (b : List Byte) : (s.answerWarrantStatus l b).storage = s.storage := by
  unfold State.answerWarrantStatus; (repeat' split) <;> simp
@[simp] theorem State.answerWarrantStatus_warrants (s : State) (l : LaneId) (b : List Byte) : (s.answerWarrantStatus l b).warrants = s.warrants := by
  unfold State.answerWarrantStatus; (repeat' split) <;> simp
@[simp] theorem State.answerWarrantStatus_custody (s : State) (l : LaneId) (b : List Byte) : (s.answerWarrantStatus l b).custody = s.custody := by
  unfold State.answerWarrantStatus; (repeat' split) <;> simp
@[simp] theorem State.answerWarrantStatus_tamper (s : State) (l : LaneId) (b : List Byte) : (s.answerWarrantStatus l b).tamper = s.tamper := by
  unfold State.answerWarrantStatus; (repeat' split) <;> simp
@[simp] theorem State.answerWarrantStatus_passes (s : State) (l : LaneId) (b : List Byte) : (s.answerWarrantStatus l b).passes = s.passes := by
  unfold State.answerWarrantStatus; (repeat' split) <;> simp
@[simp] theorem State.answerWarrantStatus_draws (s : State) (l : LaneId) (b : List Byte) : (s.answerWarrantStatus l b).draws = s.draws := by
  unfold State.answerWarrantStatus; (repeat' split) <;> simp
@[simp] theorem State.answerWarrantStatus_nextSerial (s : State) (l : LaneId) (b : List Byte) : (s.answerWarrantStatus l b).nextSerial = s.nextSerial := by
  unfold State.answerWarrantStatus; (repeat' split) <;> simp
@[simp] theorem State.answerWarrantStatus_pending (s : State) (l : LaneId) (b : List Byte) : (s.answerWarrantStatus l b).pending = s.pending := by
  unfold State.answerWarrantStatus; (repeat' split) <;> simp

/-! ### `State.serveLane` -/

@[simp] theorem State.serveLane_mode (s : State) (l : LaneId) (f : Frame) : (s.serveLane l f).mode = s.mode := by
  unfold State.serveLane; dsimp only; (repeat' split) <;> simp
@[simp] theorem State.serveLane_vmain (s : State) (l : LaneId) (f : Frame) : (s.serveLane l f).vmain = s.vmain := by
  unfold State.serveLane; dsimp only; (repeat' split) <;> simp
@[simp] theorem State.serveLane_resetHeld (s : State) (l : LaneId) (f : Frame) : (s.serveLane l f).resetHeld = s.resetHeld := by
  unfold State.serveLane; dsimp only; (repeat' split) <;> simp
@[simp] theorem State.serveLane_battery (s : State) (l : LaneId) (f : Frame) : (s.serveLane l f).battery = s.battery := by
  unfold State.serveLane; dsimp only; (repeat' split) <;> simp
@[simp] theorem State.serveLane_marker (s : State) (l : LaneId) (f : Frame) : (s.serveLane l f).marker = s.marker := by
  unfold State.serveLane; dsimp only; (repeat' split) <;> simp
@[simp] theorem State.serveLane_batteryLossFlag (s : State) (l : LaneId) (f : Frame) : (s.serveLane l f).batteryLossFlag = s.batteryLossFlag := by
  unfold State.serveLane; dsimp only; (repeat' split) <;> simp
@[simp] theorem State.serveLane_quantum (s : State) (l : LaneId) (f : Frame) : (s.serveLane l f).quantum = s.quantum := by
  unfold State.serveLane; dsimp only; (repeat' split) <;> simp
@[simp] theorem State.serveLane_slots (s : State) (l : LaneId) (f : Frame) : (s.serveLane l f).slots = s.slots := by
  unfold State.serveLane; dsimp only; (repeat' split) <;> simp
@[simp] theorem State.serveLane_storage (s : State) (l : LaneId) (f : Frame) : (s.serveLane l f).storage = s.storage := by
  unfold State.serveLane; dsimp only; (repeat' split) <;> simp
@[simp] theorem State.serveLane_warrants (s : State) (l : LaneId) (f : Frame) : (s.serveLane l f).warrants = s.warrants := by
  unfold State.serveLane; dsimp only; (repeat' split) <;> simp
@[simp] theorem State.serveLane_custody (s : State) (l : LaneId) (f : Frame) : (s.serveLane l f).custody = s.custody := by
  unfold State.serveLane; dsimp only; (repeat' split) <;> simp
@[simp] theorem State.serveLane_tamper (s : State) (l : LaneId) (f : Frame) : (s.serveLane l f).tamper = s.tamper := by
  unfold State.serveLane; dsimp only; (repeat' split) <;> simp
@[simp] theorem State.serveLane_passes (s : State) (l : LaneId) (f : Frame) : (s.serveLane l f).passes = s.passes := by
  unfold State.serveLane; dsimp only; (repeat' split) <;> simp
@[simp] theorem State.serveLane_draws (s : State) (l : LaneId) (f : Frame) : (s.serveLane l f).draws = s.draws := by
  unfold State.serveLane; dsimp only; (repeat' split) <;> simp
@[simp] theorem State.serveLane_nextSerial (s : State) (l : LaneId) (f : Frame) : (s.serveLane l f).nextSerial = s.nextSerial := by
  unfold State.serveLane; dsimp only; (repeat' split) <;> simp
@[simp] theorem State.serveLane_pending (s : State) (l : LaneId) (f : Frame) : (s.serveLane l f).pending = s.pending := by
  unfold State.serveLane; dsimp only; (repeat' split) <;> simp

/-! ### `State.considerHead` -/

@[simp] theorem State.considerHead_mode (s : State) (l : LaneId) : (s.considerHead l).mode = s.mode := by
  unfold State.considerHead; dsimp only; (repeat' split) <;> simp
@[simp] theorem State.considerHead_vmain (s : State) (l : LaneId) : (s.considerHead l).vmain = s.vmain := by
  unfold State.considerHead; dsimp only; (repeat' split) <;> simp
@[simp] theorem State.considerHead_resetHeld (s : State) (l : LaneId) : (s.considerHead l).resetHeld = s.resetHeld := by
  unfold State.considerHead; dsimp only; (repeat' split) <;> simp
@[simp] theorem State.considerHead_battery (s : State) (l : LaneId) : (s.considerHead l).battery = s.battery := by
  unfold State.considerHead; dsimp only; (repeat' split) <;> simp
@[simp] theorem State.considerHead_marker (s : State) (l : LaneId) : (s.considerHead l).marker = s.marker := by
  unfold State.considerHead; dsimp only; (repeat' split) <;> simp
@[simp] theorem State.considerHead_batteryLossFlag (s : State) (l : LaneId) : (s.considerHead l).batteryLossFlag = s.batteryLossFlag := by
  unfold State.considerHead; dsimp only; (repeat' split) <;> simp
@[simp] theorem State.considerHead_quantum (s : State) (l : LaneId) : (s.considerHead l).quantum = s.quantum := by
  unfold State.considerHead; dsimp only; (repeat' split) <;> simp
@[simp] theorem State.considerHead_slots (s : State) (l : LaneId) : (s.considerHead l).slots = s.slots := by
  unfold State.considerHead; dsimp only; (repeat' split) <;> simp
@[simp] theorem State.considerHead_storage (s : State) (l : LaneId) : (s.considerHead l).storage = s.storage := by
  unfold State.considerHead; dsimp only; (repeat' split) <;> simp
@[simp] theorem State.considerHead_warrants (s : State) (l : LaneId) : (s.considerHead l).warrants = s.warrants := by
  unfold State.considerHead; dsimp only; (repeat' split) <;> simp
@[simp] theorem State.considerHead_custody (s : State) (l : LaneId) : (s.considerHead l).custody = s.custody := by
  unfold State.considerHead; dsimp only; (repeat' split) <;> simp
@[simp] theorem State.considerHead_tamper (s : State) (l : LaneId) : (s.considerHead l).tamper = s.tamper := by
  unfold State.considerHead; dsimp only; (repeat' split) <;> simp
@[simp] theorem State.considerHead_passes (s : State) (l : LaneId) : (s.considerHead l).passes = s.passes := by
  unfold State.considerHead; dsimp only; (repeat' split) <;> simp
@[simp] theorem State.considerHead_draws (s : State) (l : LaneId) : (s.considerHead l).draws = s.draws := by
  unfold State.considerHead; dsimp only; (repeat' split) <;> simp
@[simp] theorem State.considerHead_nextSerial (s : State) (l : LaneId) : (s.considerHead l).nextSerial = s.nextSerial := by
  unfold State.considerHead; dsimp only; (repeat' split) <;> simp
@[simp] theorem State.considerHead_pending (s : State) (l : LaneId) : (s.considerHead l).pending = s.pending := by
  unfold State.considerHead; dsimp only; (repeat' split) <;> simp

/-! ### `State.immediate` -/

@[simp] theorem State.immediate_mode (s : State) (k : Link) (b : Byte) : (s.immediate k b).mode = s.mode := by
  unfold State.immediate; (repeat' split) <;> simp
@[simp] theorem State.immediate_vmain (s : State) (k : Link) (b : Byte) : (s.immediate k b).vmain = s.vmain := by
  unfold State.immediate; (repeat' split) <;> simp
@[simp] theorem State.immediate_resetHeld (s : State) (k : Link) (b : Byte) : (s.immediate k b).resetHeld = s.resetHeld := by
  unfold State.immediate; (repeat' split) <;> simp
@[simp] theorem State.immediate_battery (s : State) (k : Link) (b : Byte) : (s.immediate k b).battery = s.battery := by
  unfold State.immediate; (repeat' split) <;> simp
@[simp] theorem State.immediate_marker (s : State) (k : Link) (b : Byte) : (s.immediate k b).marker = s.marker := by
  unfold State.immediate; (repeat' split) <;> simp
@[simp] theorem State.immediate_batteryLossFlag (s : State) (k : Link) (b : Byte) : (s.immediate k b).batteryLossFlag = s.batteryLossFlag := by
  unfold State.immediate; (repeat' split) <;> simp
@[simp] theorem State.immediate_quantum (s : State) (k : Link) (b : Byte) : (s.immediate k b).quantum = s.quantum := by
  unfold State.immediate; (repeat' split) <;> simp
@[simp] theorem State.immediate_slots (s : State) (k : Link) (b : Byte) : (s.immediate k b).slots = s.slots := by
  unfold State.immediate; (repeat' split) <;> simp
@[simp] theorem State.immediate_storage (s : State) (k : Link) (b : Byte) : (s.immediate k b).storage = s.storage := by
  unfold State.immediate; (repeat' split) <;> simp
@[simp] theorem State.immediate_warrants (s : State) (k : Link) (b : Byte) : (s.immediate k b).warrants = s.warrants := by
  unfold State.immediate; (repeat' split) <;> simp
@[simp] theorem State.immediate_tamper (s : State) (k : Link) (b : Byte) : (s.immediate k b).tamper = s.tamper := by
  unfold State.immediate; (repeat' split) <;> simp
@[simp] theorem State.immediate_passes (s : State) (k : Link) (b : Byte) : (s.immediate k b).passes = s.passes := by
  unfold State.immediate; (repeat' split) <;> simp
@[simp] theorem State.immediate_draws (s : State) (k : Link) (b : Byte) : (s.immediate k b).draws = s.draws := by
  unfold State.immediate; (repeat' split) <;> simp
@[simp] theorem State.immediate_nextSerial (s : State) (k : Link) (b : Byte) : (s.immediate k b).nextSerial = s.nextSerial := by
  unfold State.immediate; (repeat' split) <;> simp
@[simp] theorem State.immediate_pending (s : State) (k : Link) (b : Byte) : (s.immediate k b).pending = s.pending := by
  unfold State.immediate; (repeat' split) <;> simp

/-! ### `State.receive` -/

@[simp] theorem State.receive_mode (s : State) (k : Link) (bs : List Byte) : (s.receive k bs).mode = s.mode := by
  unfold State.receive; (repeat' split) <;> simp
@[simp] theorem State.receive_vmain (s : State) (k : Link) (bs : List Byte) : (s.receive k bs).vmain = s.vmain := by
  unfold State.receive; (repeat' split) <;> simp
@[simp] theorem State.receive_resetHeld (s : State) (k : Link) (bs : List Byte) : (s.receive k bs).resetHeld = s.resetHeld := by
  unfold State.receive; (repeat' split) <;> simp
@[simp] theorem State.receive_battery (s : State) (k : Link) (bs : List Byte) : (s.receive k bs).battery = s.battery := by
  unfold State.receive; (repeat' split) <;> simp
@[simp] theorem State.receive_marker (s : State) (k : Link) (bs : List Byte) : (s.receive k bs).marker = s.marker := by
  unfold State.receive; (repeat' split) <;> simp
@[simp] theorem State.receive_batteryLossFlag (s : State) (k : Link) (bs : List Byte) : (s.receive k bs).batteryLossFlag = s.batteryLossFlag := by
  unfold State.receive; (repeat' split) <;> simp
@[simp] theorem State.receive_quantum (s : State) (k : Link) (bs : List Byte) : (s.receive k bs).quantum = s.quantum := by
  unfold State.receive; (repeat' split) <;> simp
@[simp] theorem State.receive_slots (s : State) (k : Link) (bs : List Byte) : (s.receive k bs).slots = s.slots := by
  unfold State.receive; (repeat' split) <;> simp
@[simp] theorem State.receive_storage (s : State) (k : Link) (bs : List Byte) : (s.receive k bs).storage = s.storage := by
  unfold State.receive; (repeat' split) <;> simp
@[simp] theorem State.receive_warrants (s : State) (k : Link) (bs : List Byte) : (s.receive k bs).warrants = s.warrants := by
  unfold State.receive; (repeat' split) <;> simp
@[simp] theorem State.receive_tamper (s : State) (k : Link) (bs : List Byte) : (s.receive k bs).tamper = s.tamper := by
  unfold State.receive; (repeat' split) <;> simp
@[simp] theorem State.receive_passes (s : State) (k : Link) (bs : List Byte) : (s.receive k bs).passes = s.passes := by
  unfold State.receive; (repeat' split) <;> simp
@[simp] theorem State.receive_draws (s : State) (k : Link) (bs : List Byte) : (s.receive k bs).draws = s.draws := by
  unfold State.receive; (repeat' split) <;> simp
@[simp] theorem State.receive_nextSerial (s : State) (k : Link) (bs : List Byte) : (s.receive k bs).nextSerial = s.nextSerial := by
  unfold State.receive; (repeat' split) <;> simp
@[simp] theorem State.receive_pending (s : State) (k : Link) (bs : List Byte) : (s.receive k bs).pending = s.pending := by
  unfold State.receive; (repeat' split) <;> simp

/-! ### `State.handOn` -/

@[simp] theorem State.handOn_mode (s : State) (k : Link) (r : Reply) : (s.handOn k r).mode = s.mode := by
  unfold State.handOn; dsimp only; (repeat' split) <;> simp
@[simp] theorem State.handOn_vmain (s : State) (k : Link) (r : Reply) : (s.handOn k r).vmain = s.vmain := by
  unfold State.handOn; dsimp only; (repeat' split) <;> simp
@[simp] theorem State.handOn_resetHeld (s : State) (k : Link) (r : Reply) : (s.handOn k r).resetHeld = s.resetHeld := by
  unfold State.handOn; dsimp only; (repeat' split) <;> simp
@[simp] theorem State.handOn_battery (s : State) (k : Link) (r : Reply) : (s.handOn k r).battery = s.battery := by
  unfold State.handOn; dsimp only; (repeat' split) <;> simp
@[simp] theorem State.handOn_marker (s : State) (k : Link) (r : Reply) : (s.handOn k r).marker = s.marker := by
  unfold State.handOn; dsimp only; (repeat' split) <;> simp
@[simp] theorem State.handOn_quantum (s : State) (k : Link) (r : Reply) : (s.handOn k r).quantum = s.quantum := by
  unfold State.handOn; dsimp only; (repeat' split) <;> simp
@[simp] theorem State.handOn_slots (s : State) (k : Link) (r : Reply) : (s.handOn k r).slots = s.slots := by
  unfold State.handOn; dsimp only; (repeat' split) <;> simp
@[simp] theorem State.handOn_storage (s : State) (k : Link) (r : Reply) : (s.handOn k r).storage = s.storage := by
  unfold State.handOn; dsimp only; (repeat' split) <;> simp
@[simp] theorem State.handOn_warrants (s : State) (k : Link) (r : Reply) : (s.handOn k r).warrants = s.warrants := by
  unfold State.handOn; dsimp only; (repeat' split) <;> simp
@[simp] theorem State.handOn_tamper (s : State) (k : Link) (r : Reply) : (s.handOn k r).tamper = s.tamper := by
  unfold State.handOn; dsimp only; (repeat' split) <;> simp
@[simp] theorem State.handOn_passes (s : State) (k : Link) (r : Reply) : (s.handOn k r).passes = s.passes := by
  unfold State.handOn; dsimp only; (repeat' split) <;> simp
@[simp] theorem State.handOn_draws (s : State) (k : Link) (r : Reply) : (s.handOn k r).draws = s.draws := by
  unfold State.handOn; dsimp only; (repeat' split) <;> simp
@[simp] theorem State.handOn_nextSerial (s : State) (k : Link) (r : Reply) : (s.handOn k r).nextSerial = s.nextSerial := by
  unfold State.handOn; dsimp only; (repeat' split) <;> simp
@[simp] theorem State.handOn_pending (s : State) (k : Link) (r : Reply) : (s.handOn k r).pending = s.pending := by
  unfold State.handOn; dsimp only; (repeat' split) <;> simp

end Sys2Proof.Machine
end

