-- ==== Sys2Proof/Laws/Requests.lean ====
section
/-! SUPPORT. What taking a request can answer, said once for each shared operation: the reading of slots, lanes and links
after an update, the taking of a custody or lane request, and the checks every custody command passes. -/

namespace Sys2Proof.Machine

/-! ### Reading after an update -/

theorem State.writeSlot_same (s : State) (i : SlotId) (b : SlotBody) (r : Nat) (a : Option Assembly) :
    (s.writeSlot i b r a).slots[i] = ⟨b, r, Config.integrityCode i b, a⟩ := by simp [State.writeSlot]

theorem State.writeSlot_other (s : State) (i j : SlotId) (b : SlotBody) (r : Nat) (a : Option Assembly) (h : i ≠ j) :
    (s.writeSlot i b r a).slots[j] = s.slots[j] := by
  have : i.val ≠ j.val := fun e => h (Fin.ext e)
  simp [State.writeSlot, this]

theorem State.emptySlot_same (s : State) (i : SlotId) : (s.emptySlot i).slots[i] = Slot.blank i := by
  simp [State.emptySlot]

theorem State.emptySlot_other (s : State) (i j : SlotId) (h : i ≠ j) : (s.emptySlot i).slots[j] = s.slots[j] := by
  have : i.val ≠ j.val := fun e => h (Fin.ext e)
  simp [State.emptySlot, this]

theorem State.setLane_same (s : State) (l : LaneId) (x : Lane) : (s.setLane l x).lanes[l] = x := by
  simp [State.setLane]

theorem State.setLane_other (s : State) (l m : LaneId) (x : Lane) (h : l ≠ m) :
    (s.setLane l x).lanes[m] = s.lanes[m] := by
  have : l.val ≠ m.val := fun e => h (Fin.ext e)
  simp [State.setLane, this]

theorem State.link_setLink_same (s : State) (k : Link) (x : LinkState) : (s.setLink k x).link k = x := by
  cases k with
  | custody => rfl
  | lane l => simp [State.setLink, State.link, State.setLane]

theorem State.link_setLink_other (s : State) (k m : Link) (x : LinkState) (h : k ≠ m) :
    (s.setLink k x).link m = s.link m := by
  cases k with
  | custody =>
    cases m with
    | custody => exact absurd rfl h
    | lane l => rfl
  | lane l =>
    cases m with
    | custody => rfl
    | lane n =>
      have : l ≠ n := fun e => h (by rw [e])
      simp only [State.setLink, State.link, State.setLane_other _ _ _ _ this]

theorem State.link_reply_same (s : State) (k : Link) (r : Reply) : ((s.reply k r).link k).buffer = some r := by
  simp [State.reply, State.link_setLink_same]

theorem State.link_reply_other (s : State) (k m : Link) (r : Reply) (h : k ≠ m) : (s.reply k r).link m = s.link m := by
  simp [State.reply, State.link_setLink_other _ _ _ _ h]

theorem State.link_popFrame_same (s : State) (k : Link) : ((s.popFrame k).link k).fifo = (s.link k).fifo.tail := by
  simp [State.popFrame, State.link_setLink_same]

/-! ### Taking a request -/

/-- All that taking a custody request can answer (R164): the step does not occur, or the request at the head is of this
kind, custody is ready, and it is acted on with the frame taken off. -/
theorem State.takeCustody_cases (s : State) (kind : Byte) (act : List Byte → State → Res) :
    s.takeCustody kind act = .next s ∨
      ∃ f rest, s.custody.link.fifo = f :: rest ∧ s.custodyReady = true ∧ f.kind = kind ∧
        s.takeCustody kind act = act f.body (s.popFrame .custody) := by
  unfold State.takeCustody
  split
  · exact .inl rfl
  · rename_i f rest h
    split
    · rename_i hc
      simp only [Bool.and_eq_true, beq_iff_eq] at hc
      exact .inr ⟨f, rest, h, hc.1, hc.2, rfl⟩
    · exact .inl rfl

/-- A ready custody unit with this kind at its head acts on it. -/
theorem State.takeCustody_eq (s : State) (kind : Byte) (act : List Byte → State → Res) (f : Frame) (rest : List Frame)
    (hf : s.custody.link.fifo = f :: rest) (hr : s.custodyReady = true) (hk : f.kind = kind) :
    s.takeCustody kind act = act f.body (s.popFrame .custody) := by
  simp [State.takeCustody, hf, hr, hk]

/-- All that taking a lane request can answer (R105). -/
theorem State.takeLane_cases (s : State) (l : LaneId) (kinds : Byte → Bool) :
    s.takeLane l kinds = .next s ∨
      ∃ f rest, s.lanes[l].link.fifo = f :: rest ∧ s.laneReady l f.kind = true ∧ kinds f.kind = true ∧
        s.takeLane l kinds = .next (s.serveLane l f) := by
  unfold State.takeLane
  split
  · exact .inl rfl
  · rename_i f rest h
    split
    · rename_i hc
      simp only [Bool.and_eq_true] at hc
      exact .inr ⟨f, rest, h, hc.1, hc.2, rfl⟩
    · exact .inl rfl

/-- Reading a body answers MALFORMED or goes on (R163). -/
theorem State.readCustody_cases {α : Type} (s : State) (kind : Byte) (form : Option α) (act : α → State → Res) :
    (form = none ∧ s.readCustody kind form act = .next (s.custodyRefuse kind .malformed)) ∨
      ∃ x, form = some x ∧ s.readCustody kind form act = act x s := by
  cases form with
  | none => exact .inl ⟨rfl, rfl⟩
  | some x => exact .inr ⟨x, rfl, rfl⟩

/-- The gate refuses or goes on (R14). -/
theorem State.gated_cases (s : State) (kind : Byte) (r : GateRow) (act : State → Res) :
    (∃ c, s.gate r = some c ∧ s.gated kind r act = .next (s.custodyRefuse kind c)) ∨
      (s.gate r = none ∧ s.gated kind r act = act s) := by
  unfold State.gated
  split
  · rename_i c h; exact .inl ⟨c, h, rfl⟩
  · rename_i h; exact .inr ⟨h, rfl⟩

/-- The gate with its slot check refuses or goes on with a slot (R14). -/
theorem State.gatedSlot_cases (s : State) (kind : Byte) (r : GateRow) (slot : Byte) (act : SlotId → State → Res) :
    (∃ c, s.gatedSlot kind r slot act = .next (s.custodyRefuse kind c)) ∨
      ∃ i, s.gate r = none ∧ readSlot slot = some i ∧ s.gatedSlot kind r slot act = act i s := by
  unfold State.gatedSlot State.gated
  split
  · rename_i c _; exact .inl ⟨c, rfl⟩
  · rename_i hg
    split
    · exact .inl ⟨.parameter, rfl⟩
    · rename_i i hi; exact .inr ⟨i, hg, hi, rfl⟩

/-- The device-state check refuses or goes on (R59). -/
theorem State.served_cases (s : State) (kind : Byte) (act : State → Res) :
    (∃ c, s.served kind act = .next (s.custodyRefuse kind c)) ∨
      (s.serviceRefusal = none ∧ s.served kind act = act s) := by
  unfold State.served
  split
  · rename_i c _; exact .inl ⟨c, rfl⟩
  · rename_i h; exact .inr ⟨h, rfl⟩

/-- The checks of a command that names a warrant refuse or go on with its record (R59). -/
theorem State.withWarrant_cases (s : State) (kind id : Byte) (act : Warrant → State → Res) :
    (∃ c, s.withWarrant kind id act = .next (s.custodyRefuse kind c)) ∨
      ∃ w, s.serviceRefusal = none ∧ s.warrant id.toNat = some w ∧ s.withWarrant kind id act = act w s := by
  unfold State.withWarrant State.served
  split
  · rename_i c _; exact .inl ⟨c, rfl⟩
  · rename_i hs
    split
    · exact .inl ⟨.parameter, rfl⟩
    · dsimp only
      split
      · exact .inl ⟨.noSuchWarrant, rfl⟩
      · rename_i w hw; exact .inr ⟨w, hs, hw, rfl⟩

/-- The check passes in OPERATIONAL, and in service only there (R59). -/
theorem State.serviceRefusal_none (s : State) (hs : s.mode.inService = true) :
    s.serviceRefusal = none ↔ s.mode = .operational := by
  unfold State.serviceRefusal GateRow.entry
  cases h : s.mode <;> simp_all [Mode.inService]

/-- The gate of a key-changing command passes in OPERATIONAL at CUSTODY only, of the states in service (R14). -/
theorem State.gate_keyChange (s : State) (hs : s.mode.inService = true) :
    s.gate .keyChange = none ↔ s.mode = .operational ∧ s.custody.position = .custody := by
  unfold State.gate GateRow.keyChange GateRow.entry
  cases h : s.mode <;> cases hp : s.custody.position <;> simp_all [Mode.inService]

/-! ### The arbiter -/

/-- The engine holder after a choice: whoever it names, or nobody if nobody waits (R125). -/
theorem State.choose_cases (s : State) :
    (s.choice = none ∧ s.choose = s) ∨ (s.choice = some .custody ∧ s.choose = s.beginCustodyGrant) ∨
      ∃ l, s.choice = some (.lane l) ∧ s.choose = s.beginRunGrant l := by
  unfold State.choose
  split
  · rename_i h; exact .inl ⟨h, rfl⟩
  · rename_i h; exact .inr (.inl ⟨h, rfl⟩)
  · rename_i l h; exact .inr (.inr ⟨l, h, rfl⟩)

/-- Custody is chosen exactly when it waits (R125). -/
theorem State.choice_custody (s : State) : s.choice = some .custody ↔ s.waits .custody = true := by
  unfold State.choice
  split
  · simp [*]
  · rename_i h
    split
    · simp [h]
    · cases s.firstWaiting .low s.lowPointer <;> simp [h]

/-- A join makes the choice with the engine IDLE, and only then (R124). -/
theorem State.join_cases (s : State) (r : Requester) :
    (s.engine = .idle ∧ s.join r = { s with requesters := s.requesters ||| r.bit }.choose) ∨
      (s.engine ≠ .idle ∧ s.join r = { s with requesters := s.requesters ||| r.bit }) := by
  unfold State.join
  dsimp only
  split
  · rename_i h; exact .inl ⟨h, rfl⟩
  · rename_i h; exact .inr ⟨by rw [h]; simp, rfl⟩
  · rename_i h; exact .inr ⟨by rw [h]; simp, rfl⟩

end Sys2Proof.Machine
end

