-- ==== Sys2Proof/Laws/Boundaries.lean ====
section
/-! SUPPORT. What the validity marker, the receiver, the CSW pin and the metering walk answer, case by case, so that a proof
about them unfolds none of them. -/

namespace Sys2Proof.Machine

/-! ### The validity marker (R151) -/

/-- A lost battery domain's marker is not the fixed word. -/
theorem lostMarker_ne : lostMarker ≠ Config.marker := by
  unfold lostMarker
  split
  · intro h
    have := congrArg (fun w : BitVec 32 => w.getLsbD 0) h
    simp at this
  · assumption

theorem State.markerValid_iff (s : State) : s.markerValid = true ↔ s.marker = Config.marker := by
  simp [State.markerValid]

theorem State.markerValid_of_eq {s : State} (h : s.marker = Config.marker) : s.markerValid = true :=
  s.markerValid_iff.2 h

theorem State.markerValid_of_lost {s : State} (h : s.marker = lostMarker) : s.markerValid = false := by
  simp [State.markerValid, h, lostMarker_ne]

/-- The tamper inputs are watched with the marker valid, and from a clearing's check on. -/
theorem State.watching_iff (s : State) :
    s.watching = true ↔ s.marker = Config.marker ∨ s.mode = .starting .clearing := by
  simp [State.watching, State.markerValid_iff]

theorem State.watching_of_marker {s : State} (h : s.marker = Config.marker) : s.watching = true :=
  s.watching_iff.2 (.inl h)

theorem State.monitoring_of {s : State} (hr : s.mode.running = true) (hm : s.marker = Config.marker) :
    s.monitoring = true := by simp [State.monitoring, hr, State.watching_of_marker hm]

/-! ### The receiver and the pin -/

/-- A transfer of whole bytes is judged as a frame (R160). -/
@[simp] theorem State.receiveTransfer_zero (s : State) (k : Link) (bytes : List Byte) :
    s.receiveTransfer k ⟨bytes, 0⟩ = s.receive k bytes := rfl

/-- A transfer that ends inside a byte is a frame error (R159). -/
theorem State.receiveTransfer_cut (s : State) (k : Link) (bytes : List Byte) {bits : Fin 8} (h : bits ≠ 0) :
    s.receiveTransfer k ⟨bytes, bits⟩ = s.frameError k := by simp [State.receiveTransfer, h]

@[simp] theorem contact_low : contact .low = .custody := rfl
@[simp] theorem contact_high : contact .high = .run := rfl

/-! ### RUN_STOP (R91, R112) -/

@[simp] theorem State.takeStop_now (s : State) (l : LaneId) : s.takeStop ⟨l, none⟩ = s.runStop l := rfl

/-- All that taking a RUN_STOP can do: it acts on the run as it stands, or its moment, still to come in the walk of the
lane's grant, is kept. -/
theorem State.takeStop_cases (s : State) (stop : Stop) :
    s.takeStop stop = s.runStop stop.lane ∨
      ∃ g n m, stop.past = some n ∧ s.engine = .lane g ∧ g.lane = stop.lane ∧ g.boundary ≤ n ∧ m ≤ n ∧
        s.takeStop stop = { s with engine := .lane { g with stopAt := some m } } := by
  unfold State.takeStop
  split
  · rename_i n g hp he
    split
    · rename_i hl
      refine .inr ⟨g, n, _, hp, he, hl.1, hl.2, ?_, rfl⟩
      cases g.stopAt <;> simp
    · exact .inl rfl
  all_goals exact .inl rfl

/-- A RUN_STOP whose moment the walk has passed is taken at once. -/
theorem State.takeStop_late {s : State} {g : RunGrant} {n : Nat} (he : s.engine = .lane g) (hn : n < g.boundary) :
    s.takeStop ⟨g.lane, some n⟩ = s.runStop g.lane := by
  simp [State.takeStop, he, Nat.not_le_of_lt hn]

/-! ### One boundary of the walk (R88 to R91) -/

variable (stop : Option Nat) (room : Bool) (i : Nat) (e : Entry) (es : List Entry)

@[simp] theorem walk_past (w : Option Warrant) (mark : Bool) :
    walk stop w room mark i [] = ⟨[], .final i .complete, mark⟩ := rfl

/-- A run whose stop mark is set ends STOPPED at the boundary (R91). -/
theorem walk_marked (w : Option Warrant) :
    walk stop w room true i (e :: es) =
      ⟨markAll .notReached i (e :: es), .final (i + es.length + 1) .stopped, true⟩ := by simp [walk]

/-- A run whose record has left the table ends WARRANT_CLOSED (R88). -/
theorem walk_purged :
    walk stop none room false i (e :: es) =
      ⟨markAll .notReached i (e :: es), .final (i + es.length + 1) .warrantClosed, false⟩ := by simp [walk]

/-- A refused entry is recorded, and the walk goes on at the next (R89). -/
theorem walk_refused {w : Warrant} {status : EntryStatus} (hw : w.state = .opened) (he : e.refusal w.digits = some status) :
    walk stop (some w) room false i (e :: es) =
      { walk stop (some w) room (stop == some i) (i + 1) es with
        results := ⟨i, status⟩ :: (walk stop (some w) room (stop == some i) (i + 1) es).results } := by
  simp [walk, hw, he]

/-- An entry that passes is delivered with room for it, and else the walk ends MORE before it, carrying the mark (R91). -/
theorem walk_passed {w : Warrant} (hw : w.state = .opened) (he : e.refusal w.digits = none) :
    walk stop (some w) room false i (e :: es) = ⟨[], if room then .deliver i e else .more i, stop == some i⟩ := by
  simp [walk, hw, he]

/-- A walk that ends MORE carries the stop mark exactly if a RUN_STOP fell past that entry's warrant check (R91, R113). -/
theorem walk_more_mark (w : Option Warrant) (mark : Bool) (n : Nat)
    (h : (walk stop w room mark i es).stop = .more n) :
    (walk stop w room mark i es).stopMark = (stop == some n) := by
  induction es generalizing i mark with
  | nil => simp at h
  | cons e es ih =>
    cases mark with
    | true => simp [walk_marked] at h
    | false =>
      cases w with
      | none => simp [walk_purged] at h
      | some x =>
        cases hx : x.state with
        | held => simp [walk, hx] at h
        | exhausted => simp [walk, hx] at h
        | closed c => simp [walk, hx] at h
        | opened =>
          cases he : e.refusal x.digits with
          | none =>
            rw [walk_passed _ _ _ _ _ hx he] at h ⊢
            cases room <;> simp_all
          | some status =>
            rw [walk_refused _ _ _ _ _ hx he] at h ⊢
            exact ih _ _ h

end Sys2Proof.Machine
end

