-- ==== Sys2Proof/Laws/Cipher.lean ====
section
/-! SUPPORT. The two properties of the cipher the manual relies on (00_scope.md, "Keys and cipher work"): for each
key, decipherment undoes encipherment and encipherment undoes decipherment. Cited by proofs instead of unfolding AES. -/

namespace Sys2Proof.Machine

theorem xtime_xor (a b : Byte) : xtime (a ^^^ b) = xtime a ^^^ xtime b := by
  unfold xtime
  cases ha : a.msb <;> cases hb : b.msb <;> simp [ha, hb, BitVec.shiftLeft_xor_distrib]
  · ac_rfl
  · ac_rfl
  · calc a <<< 1 ^^^ b <<< 1 = (27#8 ^^^ 27#8) ^^^ (a <<< 1 ^^^ b <<< 1) := by simp
      _ = _ := by ac_rfl

theorem mul14_xor (a b : Byte) : mul14 (a ^^^ b) = mul14 a ^^^ mul14 b := by
  simp only [mul14, xtime_xor]; ac_rfl

theorem mul13_xor (a b : Byte) : mul13 (a ^^^ b) = mul13 a ^^^ mul13 b := by
  simp only [mul13, xtime_xor]; ac_rfl

theorem mul11_xor (a b : Byte) : mul11 (a ^^^ b) = mul11 a ^^^ mul11 b := by
  simp only [mul11, xtime_xor]; ac_rfl

theorem mul9_xor (a b : Byte) : mul9 (a ^^^ b) = mul9 a ^^^ mul9 b := by
  simp only [mul9, xtime_xor]; ac_rfl

theorem unsubByte_subByte (b : Byte) : unsubByte (subByte b) = b := by
  revert b; decide +kernel

theorem subByte_unsubByte (b : Byte) : subByte (unsubByte b) = b := by
  revert b; decide +kernel

/-- InvMixColumns undoes MixColumns, byte by byte. -/
theorem unmixByte_mixByte (a b c d : Byte) :
    unmixByte (mixByte a b c d) (mixByte b c d a) (mixByte c d a b) (mixByte d a b c) = a := by
  have ka : ∀ a : Byte, mul14 (xtime a) ^^^ mul11 a ^^^ mul13 a ^^^ mul9 (xtime a ^^^ a) = a := by
    decide +kernel
  have kb : ∀ a : Byte, mul14 (xtime a ^^^ a) ^^^ mul11 (xtime a) ^^^ mul13 a ^^^ mul9 a = 0 := by
    decide +kernel
  have kc : ∀ a : Byte, mul14 a ^^^ mul11 (xtime a ^^^ a) ^^^ mul13 (xtime a) ^^^ mul9 a = 0 := by
    decide +kernel
  have kd : ∀ a : Byte, mul14 a ^^^ mul11 a ^^^ mul13 (xtime a ^^^ a) ^^^ mul9 (xtime a) = 0 := by
    decide +kernel
  unfold unmixByte mixByte
  calc _ = (mul14 (xtime a) ^^^ mul11 a ^^^ mul13 a ^^^ mul9 (xtime a ^^^ a)) ^^^
        (mul14 (xtime b ^^^ b) ^^^ mul11 (xtime b) ^^^ mul13 b ^^^ mul9 b) ^^^
        (mul14 c ^^^ mul11 (xtime c ^^^ c) ^^^ mul13 (xtime c) ^^^ mul9 c) ^^^
        (mul14 d ^^^ mul11 d ^^^ mul13 (xtime d ^^^ d) ^^^ mul9 (xtime d)) := by
          simp only [mul14_xor, mul13_xor, mul11_xor, mul9_xor]; ac_rfl
    _ = a := by rw [ka, kb, kc, kd]; simp

/-- MixColumns undoes InvMixColumns, byte by byte. -/
theorem mixByte_unmixByte (a b c d : Byte) :
    mixByte (unmixByte a b c d) (unmixByte b c d a) (unmixByte c d a b) (unmixByte d a b c) = a := by
  have ka : ∀ a : Byte, xtime (mul14 a) ^^^ (xtime (mul9 a) ^^^ mul9 a) ^^^ mul13 a ^^^ mul11 a = a := by
    decide +kernel
  have kb : ∀ a : Byte, xtime (mul11 a) ^^^ (xtime (mul14 a) ^^^ mul14 a) ^^^ mul9 a ^^^ mul13 a = 0 := by
    decide +kernel
  have kc : ∀ a : Byte, xtime (mul13 a) ^^^ (xtime (mul11 a) ^^^ mul11 a) ^^^ mul14 a ^^^ mul9 a = 0 := by
    decide +kernel
  have kd : ∀ a : Byte, xtime (mul9 a) ^^^ (xtime (mul13 a) ^^^ mul13 a) ^^^ mul11 a ^^^ mul14 a = 0 := by
    decide +kernel
  unfold unmixByte mixByte
  calc _ = (xtime (mul14 a) ^^^ (xtime (mul9 a) ^^^ mul9 a) ^^^ mul13 a ^^^ mul11 a) ^^^
        (xtime (mul11 b) ^^^ (xtime (mul14 b) ^^^ mul14 b) ^^^ mul9 b ^^^ mul13 b) ^^^
        (xtime (mul13 c) ^^^ (xtime (mul11 c) ^^^ mul11 c) ^^^ mul14 c ^^^ mul9 c) ^^^
        (xtime (mul9 d) ^^^ (xtime (mul13 d) ^^^ mul13 d) ^^^ mul11 d ^^^ mul14 d) := by
          simp only [xtime_xor]; ac_rfl
    _ = a := by rw [ka, kb, kc, kd]; simp

theorem ofWord_word (c : Col) : Col.ofWord c.word = c := by
  rcases c with ⟨a, b, c, d⟩
  have := a.isLt; have := b.isLt; have := c.isLt; have := d.isLt
  simp only [Col.ofWord, Col.word, Col.mk.injEq]
  refine ⟨?_, ?_, ?_, ?_⟩ <;> apply BitVec.eq_of_toNat_eq <;> simp only [BitVec.toNat_ofNat] <;> omega

theorem word_ofWord (w : BitVec 32) : (Col.ofWord w).word = w := by
  have := w.isLt
  apply BitVec.eq_of_toNat_eq
  simp only [Col.ofWord, Col.word, BitVec.toNat_ofNat]
  omega

theorem ofBlock_block (g : Grid) : Grid.ofBlock g.block = g := by
  have hw : ∀ (c : Col) (n : Nat), n % 4294967296 = c.word.toNat → Col.ofWord (BitVec.ofNat 32 n) = c := by
    intro c n h
    rw [show BitVec.ofNat 32 n = c.word from BitVec.eq_of_toNat_eq (by simpa using h), ofWord_word]
  have := g.c0.word.isLt; have := g.c1.word.isLt; have := g.c2.word.isLt; have := g.c3.word.isLt
  unfold Grid.ofBlock Grid.block
  simp only [BitVec.toNat_ofNat]
  cases g
  simp only [Grid.mk.injEq] at *
  refine ⟨?_, ?_, ?_, ?_⟩ <;> apply hw <;> omega

theorem block_ofBlock (b : Block) : (Grid.ofBlock b).block = b := by
  have := b.isLt
  apply BitVec.eq_of_toNat_eq
  simp only [Grid.ofBlock, Grid.block, word_ofWord, BitVec.toNat_ofNat]
  omega

theorem Col.xor_xor (a b : Col) : (a.xor b).xor b = a := by
  simp [Col.xor]

theorem Grid.xor_xor (a b : Grid) : (a.xor b).xor b = a := by
  simp [Grid.xor, Col.xor_xor]

theorem Grid.unsub_sub (a : Grid) : a.sub.unsub = a := by
  simp [Grid.sub, Grid.unsub, Col.sub, Col.unsub, unsubByte_subByte]

theorem Grid.sub_unsub (a : Grid) : a.unsub.sub = a := by
  simp [Grid.sub, Grid.unsub, Col.sub, Col.unsub, subByte_unsubByte]

theorem Grid.unmix_mix (a : Grid) : a.mix.unmix = a := by
  simp only [Grid.mix, Grid.unmix, Col.mix, Col.unmix, unmixByte_mixByte]

theorem Grid.mix_unmix (a : Grid) : a.unmix.mix = a := by
  simp only [Grid.mix, Grid.unmix, Col.mix, Col.unmix, mixByte_unmixByte]

theorem Grid.unshift_shift (a : Grid) : a.shift.unshift = a := rfl

theorem Grid.shift_unshift (a : Grid) : a.unshift.shift = a := rfl

theorem decRounds_encRounds : ∀ (ks : List Grid) (s : Grid), decRounds ks (encRounds ks s) = s
  | [], s => rfl
  | [k], s => by
    simp [encRounds, decRounds, Grid.xor_xor, Grid.unshift_shift, Grid.unsub_sub]
  | k :: k' :: ks, s => by
    simp [encRounds, decRounds, decRounds_encRounds (k' :: ks), Grid.xor_xor, Grid.unmix_mix,
      Grid.unshift_shift, Grid.unsub_sub]

theorem encRounds_decRounds : ∀ (ks : List Grid) (s : Grid), encRounds ks (decRounds ks s) = s
  | [], s => rfl
  | [k], s => by
    simp [encRounds, decRounds, Grid.xor_xor, Grid.shift_unshift, Grid.sub_unsub]
  | k :: k' :: ks, s => by
    simp [encRounds, decRounds, encRounds_decRounds (k' :: ks), Grid.xor_xor, Grid.mix_unmix,
      Grid.shift_unshift, Grid.sub_unsub]

/-- Decipherment under the same key undoes encipherment. -/
@[simp] theorem decipher_encipher (k : KeyValue) (x : Block) : decipher k (encipher k x) = x := by
  unfold decipher encipher
  rw [ofBlock_block]
  cases roundKeys k with
  | nil => simp [encGrid, decGrid, block_ofBlock]
  | cons r rs => simp [encGrid, decGrid, decRounds_encRounds, Grid.xor_xor, block_ofBlock]

/-- Encipherment under the same key undoes decipherment. -/
@[simp] theorem encipher_decipher (k : KeyValue) (x : Block) : encipher k (decipher k x) = x := by
  unfold decipher encipher
  rw [ofBlock_block]
  cases roundKeys k with
  | nil => simp [encGrid, decGrid, block_ofBlock]
  | cons r rs => simp [encGrid, decGrid, encRounds_decRounds, Grid.xor_xor, block_ofBlock]

end Sys2Proof.Machine
end

