-- ==== Sys2Proof/Laws/PerInstr.lean ====
section
/-! SUPPORT. A fact about every command as syntax, one lemma per constructor. -/

namespace Sys2Proof.Laws

/-- The table gives no row any bits, so no word spells the command (98_reader.md; notes/assumptions/23.md). -/
def Unspelled.Statement (i : Instr) : Prop := ∀ nbits w : Nat, decodeTableWord nbits w ≠ some i

/-- No word spells anything. -/
theorem unspelled (i : Instr) : Unspelled.Statement i := fun _ _ h => by simp [decodeTableWord] at h

theorem Unspelled.requestTransfer (link : Machine.Link) (received : Machine.Shifted) :
    Unspelled.Statement (.requestTransfer link received) := unspelled _
theorem Unspelled.collectBegin (link : Machine.Link) : Unspelled.Statement (.collectBegin link) := unspelled _
theorem Unspelled.collectEnd (link : Machine.Link) (clocked cut : Nat) : Unspelled.Statement (.collectEnd link clocked cut) := unspelled _
theorem Unspelled.unknownRequest (link : Machine.Link) : Unspelled.Statement (.unknownRequest link) := unspelled _
theorem Unspelled.slotStatus : Unspelled.Statement .slotStatus := unspelled _
theorem Unspelled.slotErase : Unspelled.Statement .slotErase := unspelled _
theorem Unspelled.assemble : Unspelled.Statement .assemble := unspelled _
theorem Unspelled.component : Unspelled.Statement .component := unspelled _
theorem Unspelled.componentCheckEnd : Unspelled.Statement .componentCheckEnd := unspelled _
theorem Unspelled.finalCheckEnd : Unspelled.Statement .finalCheckEnd := unspelled _
theorem Unspelled.assemblyCancel : Unspelled.Statement .assemblyCancel := unspelled _
theorem Unspelled.custodySwitchChange (samples : List Machine.Level) : Unspelled.Statement (.custodySwitchChange samples) := unspelled _
theorem Unspelled.initialise : Unspelled.Statement .initialise := unspelled _
theorem Unspelled.initialisePatternEnd : Unspelled.Statement .initialisePatternEnd := unspelled _
theorem Unspelled.storageRoll : Unspelled.Statement .storageRoll := unspelled _
theorem Unspelled.storageRollPatternEnd : Unspelled.Statement .storageRollPatternEnd := unspelled _
theorem Unspelled.tokenExport : Unspelled.Statement .tokenExport := unspelled _
theorem Unspelled.tokenExportOperationEnd : Unspelled.Statement .tokenExportOperationEnd := unspelled _
theorem Unspelled.tokenImport : Unspelled.Statement .tokenImport := unspelled _
theorem Unspelled.tokenImportOperationEnd : Unspelled.Statement .tokenImportOperationEnd := unspelled _
theorem Unspelled.warrantOpen : Unspelled.Statement .warrantOpen := unspelled _
theorem Unspelled.warrantHold : Unspelled.Statement .warrantHold := unspelled _
theorem Unspelled.warrantRelease : Unspelled.Statement .warrantRelease := unspelled _
theorem Unspelled.warrantExtend : Unspelled.Statement .warrantExtend := unspelled _
theorem Unspelled.warrantClose : Unspelled.Statement .warrantClose := unspelled _
theorem Unspelled.warrantPurge : Unspelled.Statement .warrantPurge := unspelled _
theorem Unspelled.warrantStatus (link : Machine.Link) : Unspelled.Statement (.warrantStatus link) := unspelled _
theorem Unspelled.warrantList : Unspelled.Statement .warrantList := unspelled _
theorem Unspelled.laneBind : Unspelled.Statement .laneBind := unspelled _
theorem Unspelled.laneUnbind : Unspelled.Statement .laneUnbind := unspelled _
theorem Unspelled.setQuantum : Unspelled.Statement .setQuantum := unspelled _
theorem Unspelled.tamperSetup (raw : BitVec 6) : Unspelled.Statement (.tamperSetup raw) := unspelled _
theorem Unspelled.tamperAck : Unspelled.Statement .tamperAck := unspelled _
theorem Unspelled.deviceStatus : Unspelled.Statement .deviceStatus := unspelled _
theorem Unspelled.linkClear : Unspelled.Statement .linkClear := unspelled _
theorem Unspelled.run (lane : LaneId) : Unspelled.Statement (.run lane) := unspelled _
theorem Unspelled.laneStatus (lane : LaneId) : Unspelled.Statement (.laneStatus lane) := unspelled _
theorem Unspelled.runStop (stop : Machine.Stop) : Unspelled.Statement (.runStop stop) := unspelled _
theorem Unspelled.laneClear (lane : LaneId) : Unspelled.Statement (.laneClear lane) := unspelled _
theorem Unspelled.grant : Unspelled.Statement .grant := unspelled _
theorem Unspelled.cardKeyDerivationEnd : Unspelled.Statement .cardKeyDerivationEnd := unspelled _
theorem Unspelled.cardCheckValueEnd : Unspelled.Statement .cardCheckValueEnd := unspelled _
theorem Unspelled.keystreamBlockEnd : Unspelled.Statement .keystreamBlockEnd := unspelled _
theorem Unspelled.tamperInputEdge (input : InputId) (samples : List Machine.Level) : Unspelled.Statement (.tamperInputEdge input samples) := unspelled _
theorem Unspelled.eraseComplete : Unspelled.Statement .eraseComplete := unspelled _
theorem Unspelled.supplyAboveThreshold (mv : Nat) : Unspelled.Statement (.supplyAboveThreshold mv) := unspelled _
theorem Unspelled.supplyBelowThreshold (mv : Nat) : Unspelled.Statement (.supplyBelowThreshold mv) := unspelled _
theorem Unspelled.supplyTimerExpiry : Unspelled.Statement .supplyTimerExpiry := unspelled _
theorem Unspelled.mainSupplyLoss (mv : Nat) (cut : Machine.SweepCut) : Unspelled.Statement (.mainSupplyLoss mv cut) := unspelled _
theorem Unspelled.resetAssert (cut : Machine.SweepCut) : Unspelled.Statement (.resetAssert cut) := unspelled _
theorem Unspelled.mainSupplyRise (mv : Nat) : Unspelled.Statement (.mainSupplyRise mv) := unspelled _
theorem Unspelled.resetRelease : Unspelled.Statement .resetRelease := unspelled _
theorem Unspelled.validityCheck (raw : BitVec 6) : Unspelled.Statement (.validityCheck raw) := unspelled _
theorem Unspelled.batteryLossClearingEnd : Unspelled.Statement .batteryLossClearingEnd := unspelled _
theorem Unspelled.sweepEnd : Unspelled.Statement .sweepEnd := unspelled _
theorem Unspelled.backupBatteryFailure (refitted : Bool) : Unspelled.Statement (.backupBatteryFailure refitted) := unspelled _
theorem Unspelled.batteryBackedMemoryFault (slot : SlotId) (body : Machine.SlotBody) (refs : Nat) (integrity : BitVec 32) : Unspelled.Statement (.batteryBackedMemoryFault slot body refs integrity) := unspelled _

end Sys2Proof.Laws
end

