-- ==== Sys2Proof/Laws/Stopping.lean ====
section
/-! SUPPORT. The start of an erase, the passes' writes, the loss of the volatile state and the cut of a sweep in the terms of
the statements (R141, R142, R150, R154), so that a proof about them unfolds none of them. -/

namespace Sys2Proof.Machine

/-! ### The erase -/

theorem LinkState.erase_eq_flushed (k : LinkState) : k.erase = k.flushed := by
  cases h : k.collect <;> simp [LinkState.erase, LinkState.flushed, h]

/-- The start of an erase, as the statements give it (R141). -/
theorem State.eraseBegin_eq (s : State) : s.eraseBegin = s.afterErase := by
  simp only [State.eraseBegin, State.afterErase, Lane.erase, LinkState.erase_eq_flushed]
  congr 1
  apply List.map_congr_left
  intro w _
  cases h : w.state <;> simp [Warrant.closeLive, Warrant.live, h]

/-- A write of the passes blanks the slot whose unit it is over (R142). -/
theorem State.overwriteNext_slot (s : State) (i : SlotId) :
    s.overwriteNext.slots[i] =
      if s.passes.written < 3 * unitCount ∧ s.passes.written % unitCount = i.val then Slot.blank i else s.slots[i] := by
  unfold State.overwriteNext
  by_cases h : s.passes.written < 3 * unitCount
  · rw [if_pos h]
    dsimp only
    by_cases e : s.passes.written % unitCount = i.val
    · have e' : (⟨s.passes.written % unitCount, e ▸ i.isLt⟩ : SlotId) = i := Fin.ext e
      rw [if_pos (And.intro h e), dif_pos (show s.passes.written % unitCount < 48 from e ▸ i.isLt), e']
      simp [e]
    · rw [if_neg (fun c => e c.2 : ¬ (s.passes.written < 3 * unitCount ∧ _))]
      split
      · simp [e]
      · rfl
  · rw [if_neg h, if_neg fun c => h c.1]

/-- The write over the Storage Unit record leaves no storage key (R142). -/
theorem State.overwriteNext_storage (s : State) :
    s.overwriteNext.storage =
      if s.passes.written < 3 * unitCount ∧ s.passes.written % unitCount = 48 then { current := none, previous := none }
      else s.storage := by
  unfold State.overwriteNext
  by_cases h : s.passes.written < 3 * unitCount
  · rw [if_pos h]; simp only [h, true_and]
  · rw [if_neg h, if_neg fun c => h c.1]

/-- A step in which no command waits makes the next write in ERASING, and nothing else (notes/assumptions/21.md). -/
theorem step_of_nil {s : State} (h : s.pending = []) : step s = .next s.tick := by simp [step, h]

theorem State.tick_erasing {s : State} (h : s.mode = .erasing) : s.tick = s.overwriteNext := if_pos h

theorem State.tick_idle {s : State} (h : s.mode ≠ .erasing) : s.tick = s := if_neg h

/-! ### The stop and the sweep -/

/-- The loss of the volatile state, as the statements give it (R150, R158). -/
theorem State.volatileStart_eq (s : State) : s.volatileStart = s.afterStop := rfl

@[simp] theorem State.sweepFirst_zero (s : State) : s.sweepFirst 0 = s := rfl

theorem State.sweepFirst_one (s : State) : s.sweepFirst 1 = s.sweepAssemblies := rfl

theorem State.sweepFirst_two (s : State) : s.sweepFirst 2 = (s.sweepFirst 1).sweepIntegrity := rfl

theorem State.sweepFirst_three (s : State) : s.sweepFirst 3 = (s.sweepFirst 2).sweepWarrants := rfl

theorem State.sweepFirst_four (s : State) : s.sweepFirst 4 = (s.sweepFirst 3).sweepLanes := rfl

theorem State.sweepFirst_five (s : State) : s.sweepFirst 5 = (s.sweepFirst 4).sweepReferences := rfl

theorem State.sweepFirst_six (s : State) : s.sweepFirst 6 = (s.sweepFirst 5).resetChains := rfl

/-- Only a sweep in progress is cut (R154). -/
theorem State.cutSweep_of_ne {s : State} (cut : SweepCut) (h : s.mode ≠ .starting .sweep) : s.cutSweep cut = s := if_neg h

theorem State.cutSweep_of_sweep {s : State} (cut : SweepCut) (h : s.mode = .starting .sweep) :
    s.cutSweep cut = (s.sweepFirst cut.steps).partly (s.sweepFirst (cut.steps + 1)) cut.records := if_pos h

end Sys2Proof.Machine
end

