-- ==== Sys2Proof/Laws/Taking.lean ====
section
/-! SUPPORT. The taking of a request in the terms of the statements: what `CustodyTakes` and `LaneTakes` make of the shared
operations (R105, R164). -/

namespace Sys2Proof.Machine

theorem State.popFrame_custody (s : State) : s.popFrame .custody = s.afterTaking := rfl

theorem State.custodyReply_afterTaking (s : State) (r : Reply) : s.afterTaking.reply .custody r = s.afterReply r := rfl

theorem State.custodyRefuse_afterTaking (s : State) (kind : Byte) (code : Code) :
    s.afterTaking.custodyRefuse kind code = s.afterRefusal kind code := rfl

theorem State.custodyOk_afterTaking (s : State) (kind : Byte) (note : Note) (fields : List Byte) :
    s.afterTaking.custodyOk kind note fields = s.afterReply (.ok kind note fields) := rfl

/-- The custody unit takes the request at its FIFO's head (R164). -/
theorem CustodyTakes.take {s : State} {kind : Byte} {body : List Byte} (h : CustodyTakes s kind body)
    (act : List Byte → State → Res) : s.takeCustody kind act = act body s.afterTaking := by
  obtain ⟨hs, he, hf, hh⟩ := h
  cases hl : s.custody.link.fifo with
  | nil => simp [hl] at hh
  | cons f rest =>
    simp only [hl, List.head?_cons, Option.some.injEq] at hh
    subst hh
    simp [State.takeCustody, State.custodyReady, hl, hs, he, hf, State.popFrame_custody]

/-- The gate reads what taking a request leaves alone (R14). -/
theorem State.gate_afterTaking (s : State) (r : GateRow) : s.afterTaking.gate r = s.gate r := rfl

theorem State.serviceRefusal_afterTaking (s : State) : s.afterTaking.serviceRefusal = s.serviceRefusal := rfl

/-- The lane takes the request at its FIFO's head (R105). -/
theorem LaneTakes.take {s : State} {l : LaneId} {kind : Byte} {body : List Byte} (h : LaneTakes s l kind body)
    (kinds : Byte → Bool) (hk : kinds kind = true) :
    s.takeLane l kinds = .next (s.serveLane l ⟨kind, body⟩) := by
  obtain ⟨hs, he, hh, hr⟩ := h
  have ha : s.lanes[l].admitsKind kind = true := by
    unfold Lane.admitsKind
    rcases hr with hr | ⟨hne, r, hr, hq⟩
    · rw [hr]
    · simp [-Fin.getElem_fin, hr, hne, hq]
  unfold State.takeLane
  cases hl : s.lanes[l].link.fifo with
  | nil => rw [hl] at hh; simp at hh
  | cons f rest =>
    rw [hl] at hh
    simp only [List.head?_cons, Option.some.injEq] at hh
    subst hh
    simp [-Fin.getElem_fin, State.laneReady, hs, he, hk, ha]

end Sys2Proof.Machine
end

