-- ==== Sys2Proof/Tests/Slice0.lean ====
section
/-! SUPPORT. The author's tests: operands that do not fit their row, the manual's worked examples and published AES values,
one small step for each command, and for each statement with hypotheses a state and operands that meet them. -/

namespace Sys2Proof.Tests

open Sys2Proof Sys2Proof.Machine

/-! ### Operands that cannot be -/

theorem test_wf_transfer_without_bytes : (Instr.requestTransfer .custody ⟨[], 7⟩).wellFormed = false := by decide
theorem test_wf_transfer_that_is_a_collect : (Instr.requestTransfer (.lane 2) ⟨[0, 1], 0⟩).wellFormed = false := by decide
theorem test_wf_collect_cut_past_its_end : (Instr.collectEnd .custody 3 4).wellFormed = false := by decide
theorem test_wf_switch_without_samples : (Instr.custodySwitchChange []).wellFormed = false := by decide
theorem test_wf_stop_before_the_first_entry : (Instr.runStop ⟨0, some 0⟩).wellFormed = false := by decide
theorem test_wf_stop_past_the_last_entry : (Instr.runStop ⟨3, some 17⟩).wellFormed = false := by decide
theorem test_wf_edge_without_samples : (Instr.tamperInputEdge 5 []).wellFormed = false := by decide
theorem test_wf_above_but_stopped : (Instr.supplyAboveThreshold 2499).wellFormed = false := by decide
theorem test_wf_below_but_stopped : (Instr.supplyBelowThreshold 2499).wellFormed = false := by decide
theorem test_wf_loss_above_stop_level : (Instr.mainSupplyLoss 2500 ⟨0, 0⟩).wellFormed = false := by decide
theorem test_wf_loss_after_all_six_steps : (Instr.mainSupplyLoss 0 ⟨6, 0⟩).wellFormed = false := by decide
theorem test_wf_reset_after_all_six_steps : (Instr.resetAssert ⟨6, 15⟩).wellFormed = false := by decide
theorem test_wf_rise_to_the_stop_level : (Instr.mainSupplyRise 2500).wellFormed = false := by decide
theorem test_wf_memory_fault_count : (Instr.batteryBackedMemoryFault 0 .empty 256 0).wellFormed = false := by decide

theorem test_wf_memory_fault_issuer :
    (Instr.batteryBackedMemoryFault 0 (.assembling { kind := .derivation .cardMessaging 256, version := 0, length := .len16 })
      0 0).wellFormed = false := by decide
theorem test_wf_memory_fault_uses :
    (Instr.batteryBackedMemoryFault 0
      (.active { kind := .transport, version := 0, length := .len16 }
        { key := .k16 0, check := 0, origin := .imported, uses := 4294967296 })
      0 0).wellFormed = false := by decide

/-- No row of the table gives bits, so no word spells a command. -/
theorem test_decode_gives_none : Sys2Proof.decodeTableWord 8 0x10 = none := by decide

/-! ### Published values and the manual's tables -/

/-- FIPS-197, appendix C.1. -/
theorem test_aes_128 :
    encipher (.k16 0x000102030405060708090a0b0c0d0e0f) 0x00112233445566778899aabbccddeeff
      = 0x69c4e0d86a7b0430d8cdb78070b4c55a := by decide +kernel

/-- FIPS-197, appendix C.3. -/
theorem test_aes_256 :
    encipher (.k32 0x000102030405060708090a0b0c0d0e0f101112131415161718191a1b1c1d1e1f)
        0x00112233445566778899aabbccddeeff
      = 0x8ea2b7ca516745bfeafc49904b496089 := by decide +kernel

/-- FIPS-197, appendix C.1, read backwards. -/
theorem test_aes_128_decipher :
    decipher (.k16 0x000102030405060708090a0b0c0d0e0f) 0x69c4e0d86a7b0430d8cdb78070b4c55a
      = 0x00112233445566778899aabbccddeeff := by decide +kernel

/-- R80's table, 13 digits. -/
theorem test_pack_13 : packDigits [1, 2, 3, 4, 5, 6, 7, 8, 9, 0, 1, 2, 3] = 0xFFFFFFF1234567890123 := by decide

/-- R80's table, 16 digits. -/
theorem test_pack_16 :
    packDigits [5, 3, 1, 2, 4, 6, 0, 0, 0, 0, 1, 2, 3, 4, 5, 3] = 0xFFFF5312460000123453 := by decide

/-- R80's table, 19 digits. -/
theorem test_pack_19 :
    packDigits [9, 8, 7, 6, 5, 4, 3, 2, 1, 0, 9, 8, 7, 6, 5, 4, 3, 2, 1] = 0xF9876543210987654321 := by decide

/-- R94's table. -/
theorem test_quantum_table :
    [0, 2, 3, 4, 13, 47, 48, 50, 255].map quantumOf = [3, 3, 3, 3, 12, 45, 48, 48, 48] := by decide

/-- R136's table. -/
theorem test_threshold_table :
    (List.finRange 8).map thresholdMv = [2750, 2900, 3000, 3100, 3200, 3300, 3450, 3600] := by decide

/-- A collect of an empty buffer gives kind 0x00 and length 0 (R165). -/
theorem test_empty_reply : (Collect.mk none false).shifted 5 0 = [0, 0, 0, 0, 0, 0] := by decide

/-- A frame carries its length in two bytes, the most significant first (R160). -/
theorem test_frame_length : (frameBytes 0x23 (List.replicate 258 0)).take 3 = [0x23, 1, 2] := by decide +kernel

/-- D of the worked entry, 05 section 5.8. -/
theorem test_derivation_block :
    derivationBlock 7 2 (packDigits [5, 3, 1, 2, 4, 6, 0, 0, 0, 0, 1, 2, 3, 4, 5, 3]) 1 .cardAuthentication
      = 0x0702FFFF531246000012345300010100 := by decide +kernel

/-- The check-digit sum of the worked entry, 05 section 5.8. -/
theorem test_check_sum : checkSum false [5, 3, 1, 2, 4, 6, 0, 0, 0, 0, 1, 2, 3, 4, 5, 3].reverse = 40 := by decide

/-! ### A part at work

Slot 4 holds a master key of issuer 7, slot 40 a transport key, slot 5 an assembly; warrant 1 is OPEN on slot 4, and lane 0
is bound to slot 40. -/

def masterAttrs : Attributes := { kind := .derivation .cardAuthentication 7, version := 2, length := .len16 }
def masterContents : Contents := { key := .k16 5, check := checkValue (.k16 5), origin := .imported, uses := 0 }
def transportAttrs : Attributes := { kind := .transport, version := 1, length := .len32 }
def transportContents : Contents := { key := .k32 9, check := checkValue (.k32 9), origin := .imported, uses := 0 }
def part : Assembly := { required := 2, custodians := [1], accumulator := .k16 3, expected := 0, checking := false }
def storageKeyOne : StorageKey := { key := 11, generation := 1, pattern := verificationPattern 11 }

def warrantOne : Warrant :=
  { serial := 0, id := 1, issuer := 7, master := 4, total := 10, delivered := 6, digits := some [5, 3, 1, 2, 4, 6]
    lanes := 15, state := .opened }

def laneZero : Lane := { Lane.cleared with transport := some 40, cls := .high, issuers := 128, epoch := 1 }

def work : State :=
  { State.reset with
    mode := .operational, marker := Config.marker
    slots :=
      (((Vector.ofFn Slot.blank).set 4 { Slot.fresh 4 (.active masterAttrs masterContents) with refs := 1 }).set 40
        { Slot.fresh 40 (.active transportAttrs transportContents) with refs := 1 }).set 5
        { Slot.fresh 5 (.assembling masterAttrs) with assembly := some part }
    storage := { current := some storageKeyOne, previous := none }
    warrants := [warrantOne]
    lanes := State.reset.lanes.set 0 laneZero
    custody := { State.reset.custody with position := .custody }
    nextSerial := 1 }

/-- A part with nothing in it, taken into no service yet. -/
def fresh : State :=
  { State.reset with mode := .uninitialised, marker := Config.marker, custody := { Custody.start with position := .custody } }

/-- The state with one request at the head of its custody FIFO. -/
def asking (s : State) (kind : Byte) (body : List Byte) : State :=
  { s with custody := { s.custody with link := { s.custody.link with fifo := [⟨kind, body⟩] } } }

/-- The state with one request at the head of a lane's FIFO. -/
def onLane (s : State) (l : LaneId) (kind : Byte) (body : List Byte) : State :=
  s.setLane l { s.lanes[l] with link := { s.lanes[l].link with fifo := [⟨kind, body⟩] } }

theorem asks (s : State) (kind : Byte) (body : List Byte) (h : s.mode.inService = true)
    (he : s.custody.link.buffer = none) (hp : s.custody.process = none) :
    CustodyTakes (asking s kind body) kind body := ⟨h, he, hp, rfl⟩

theorem laneAsks (s : State) (l : LaneId) (kind : Byte) (body : List Byte) (h : s.mode.inService = true)
    (he : s.lanes[l].link.buffer = none) (hr : s.lanes[l].run = none) :
    LaneTakes (onLane s l kind body) l kind body := by
  refine ⟨h, ?_, ?_, .inl ?_⟩ <;> simp [onLane, State.setLane_same, -Fin.getElem_fin, he, hr]

/-- The next state of an outcome. -/
def next : Res → State
  | .next t => t
  | .fault _ => State.reset
  | .refused _ => State.reset

/-- The kind and code byte of the reply in a buffer. -/
def answer (s : State) (k : Link) : Option (Byte × Byte) :=
  (s.link k).buffer.map fun r => (r.kind, r.body.getD 1 0)

/-! ### One small step for each command -/

theorem test_slot_status : answer (next (exec .slotStatus (asking work kindSlotStatus [4]))) .custody = some (0x80, 0) := by
  decide
theorem test_slot_erase_in_use :
    answer (next (exec .slotErase (asking work kindSlotErase [40]))) .custody = some (0x81, 0x11) := by decide
theorem test_assemble_occupied :
    answer (next (exec .assemble (asking work kindAssemble [4, 1, 2, 3, 1, 16, 3, 0x5C, 0x31, 0xA8]))) .custody
      = some (0x81, 0x0F) := by decide

/-- 02 section 2.11, step 1. -/
theorem test_assemble :
    (next (exec .assemble (asking work kindAssemble [12, 1, 2, 3, 1, 16, 3, 0x5C, 0x31, 0xA8]))).slots[12].assembly
      = some
        { required := 3, custodians := [], accumulator := .k16 0, expected := 0x5C31A8, checking := false } := by
  decide

/-- 02 section 2.11, step 5. -/
theorem test_component_twice :
    answer (next (exec .component (asking work kindComponent (5 :: 1 :: List.replicate 16 0)))) .custody
      = some (0x81, 0x15) := by decide

/-- A final component without a check value of its own sets the flag as it is taken (R25). -/
theorem test_component_final :
    (next (exec .component (asking work kindComponent (5 :: 2 :: List.replicate 16 1)))).slots[5].assembly
      = some
        { required := 2, custodians := [1, 2], accumulator := .k16 0x01010101010101010101010101010102
          expected := 0, checking := true } := by decide
theorem test_assembly_cancel :
    (next (exec .assemblyCancel (asking work kindAssemblyCancel [5]))).slots[5].assembly = none := by decide
theorem test_switch_to_run_empties :
    (next (exec (.custodySwitchChange (List.replicate 8 .high)) work)).slots[5].assembly = none := by decide
theorem test_switch_bounce :
    (next (exec (.custodySwitchChange [.high, .high, .high, .high, .high, .high, .high, .low, .high]) work)).custody.count
      = 1 := by decide
theorem test_initialise : (next (exec .initialise (asking fresh kindInitialise []))).draws = 1 := by decide
theorem test_initialise_again :
    answer (next (exec .initialise (asking work kindInitialise []))) .custody = some (0x81, 0x07) := by decide
theorem test_storage_roll_in_run :
    answer (next (exec .storageRoll
      (asking { work with custody := Custody.start } kindStorageRoll []))) .custody = some (0x81, 0x04) := by decide
theorem test_token_export_of_empty :
    answer (next (exec .tokenExport (asking work kindTokenExport [0]))) .custody = some (0x81, 0x0F) := by decide
theorem test_token_import_of_no_token :
    answer (next (exec .tokenImport (asking work kindTokenImport [0, 1, 1]))) .custody = some (0x81, 0x02) := by decide

/-- 04 section 4.8, step 1. -/
theorem test_warrant_open :
    (next (exec .warrantOpen (asking work kindWarrantOpen [30, 7, 4, 0, 0, 0, 8, 0, 6]))).slots[4].refs = 2 := by decide
theorem test_warrant_open_same_id :
    answer (next (exec .warrantOpen (asking work kindWarrantOpen [1, 7, 4, 0, 0, 0, 8, 0, 6]))) .custody
      = some (0x81, 0x13) := by decide
theorem test_warrant_hold :
    (next (exec .warrantHold (asking work kindWarrantHold [1]))).warrants = [{ warrantOne with state := .held }] := by
  decide
theorem test_warrant_release_of_open :
    answer (next (exec .warrantRelease (asking work kindWarrantRelease [1]))) .custody = some (0x81, 0x0C) := by decide
theorem test_warrant_extend_clamped :
    answer (next (exec .warrantExtend (asking work kindWarrantExtend (1 :: be 4 1000000)))) .custody
      = some (0x80, 1) := by decide
theorem test_warrant_close :
    (next (exec .warrantClose (asking work kindWarrantClose [1]))).slots[4].refs = 0 := by decide
theorem test_warrant_purge_of_open :
    answer (next (exec .warrantPurge (asking work kindWarrantPurge [1]))) .custody = some (0x81, 0x0C) := by decide
theorem test_warrant_status_id_0 :
    answer (next (exec (.warrantStatus .custody) (asking work kindWarrantStatus [0]))) .custody = some (0x81, 3) := by
  decide
theorem test_warrant_status_on_a_lane :
    answer (next (exec (.warrantStatus (.lane 2)) (onLane work 2 kindWarrantStatus [1]))) (.lane 2) = some (0x80, 0) := by
  decide
theorem test_warrant_list :
    answer (next (exec .warrantList (asking work kindWarrantList []))) .custody = some (0x80, 0) := by decide
theorem test_lane_bind_to_master :
    answer (next (exec .laneBind (asking work kindLaneBind ([1, 4, 1, 0, 0, 0, 128] ++ List.replicate 16 0)))) .custody
      = some (0x81, 0x10) := by decide
theorem test_lane_bind_moves_references :
    (next (exec .laneBind (asking work kindLaneBind ([1, 40, 2, 0, 0, 0, 128] ++ List.replicate 16 0)))).slots[40].refs
      = 2 := by decide
theorem test_lane_unbind :
    (next (exec .laneUnbind (asking work kindLaneUnbind [0]))).slots[40].refs = 0 := by decide
theorem test_set_quantum : (next (exec .setQuantum (asking work kindSetQuantum [47]))).quantum = 45 := by decide
theorem test_tamper_setup_bad_filter :
    answer (next (exec (.tamperSetup 0) (asking work kindTamperSetup (0 :: 4 :: 1 :: List.replicate 17 0)))) .custody
      = some (0x81, 3) := by decide
theorem test_tamper_ack :
    (next (exec .tamperAck (asking { work with tamper := { work.tamper with causes := 1, first := some (.input 0) } }
      kindTamperAck []))).tamper.causes = 0 := by decide
theorem test_device_status :
    answer (next (exec .deviceStatus (asking work kindDeviceStatus []))) .custody = some (0x83, 2) := by decide
theorem test_unknown_request :
    answer (next (exec (.unknownRequest .custody) (asking work 0x99 []))) .custody = some (0x81, 1) := by decide
theorem test_request_transfer :
    ((next (exec (.requestTransfer .custody ⟨[0x70, 0, 0], 0⟩) work)).link .custody).fifo = [⟨0x70, []⟩] := by decide
theorem test_request_transfer_too_long :
    ((next (exec (.requestTransfer (.lane 3) ⟨[0x10, 4, 0], 0⟩) work)).link (.lane 3)).frameErrors = 1 := by decide
/-- A whole frame and three bits of a further byte (R159). -/
theorem test_request_transfer_inside_a_byte :
    ((next (exec (.requestTransfer .custody ⟨[0x70, 0, 0], 3⟩) work)).link .custody).frameErrors = 1 := by decide
theorem test_link_clear :
    ((next (exec .linkClear (asking work 0x70 []))).link .custody).fifo = [] := by decide
theorem test_lane_clear :
    ((next (exec (.laneClear 2) (onLane work 2 0x11 []))).link (.lane 2)).fifo = [] := by decide

/-- The entry of 05 section 5.8 as a RUN on warrant 1. -/
def cardBody : List Byte := [9, 1, 1, 16, 5, 3, 1, 2, 4, 6, 0, 0, 0, 0, 1, 2, 3, 4, 5, 3, 0, 1]

/-- Lane 0 with its run granted, at its first boundary. -/
def granted : State := next (exec (.run 0) (onLane work 0 kindRun cardBody))

/-- Its entry in each of the three operations. -/
def derived : State := next (exec .grant granted)
def checked : State := next (exec .cardKeyDerivationEnd derived)
def wrapped : State := next (exec .cardCheckValueEnd checked)

theorem test_run_is_granted : granted.engine.report = [1, 0] := by decide
theorem test_run_of_no_warrant :
    answer (next (exec (.run 0) (onLane work 0 kindRun [9, 2, 1, 0, 0, 0]))) (.lane 0) = some (0x81, 0x0A) := by decide
theorem test_lane_status :
    answer (next (exec (.laneStatus 3) (onLane work 3 kindLaneStatus []))) (.lane 3) = some (0x83, 1) := by decide
theorem test_run_stop :
    ((next (exec (.runStop ⟨0, none⟩) granted)).lanes[0].run.map fun r => r.stopMark) = some true := by decide

/-- 05 section 5.8, Stage 7: the warrant's delivered count, and the chain position. -/
theorem test_delivery_is_debited :
    (next (exec .keystreamBlockEnd wrapped)).warrants.map (fun w => w.delivered) = [7] := by decide +kernel
theorem test_delivery_advances_the_chain : (next (exec .keystreamBlockEnd wrapped)).lanes[0].position = 1 := by
  decide +kernel
theorem test_delivery_counts_the_master :
    ((next (exec .keystreamBlockEnd wrapped)).slots[4].body.raiseUses.byte) = 2 := by decide +kernel
/-! Two cards on warrant 1 under a quantum of 3, so that the walk stops MORE before the second. -/

def twoCards : List Byte := [9, 1, 2] ++ cardBody.drop 3 ++ cardBody.drop 3

def secondDue : State :=
  [Instr.grant, .cardKeyDerivationEnd, .cardCheckValueEnd].foldl (fun s c => next (exec c s))
    (next (exec (.run 0) (onLane { work with quantum := 3 } 0 kindRun twoCards)))

/-- State, stop mark and next index of lane 0's run. -/
def runOf (s : State) : Option (RunState × Bool × Nat) := s.lanes[0].run.map fun r => (r.state, r.stopMark, r.next)

/-- R91, a RUN_STOP taken first with a budget stop: past the second entry's warrant check, before its budget check. -/
def stoppedMore : State := next (exec .keystreamBlockEnd (next (exec (.runStop ⟨0, some 2⟩) secondDue)))

theorem test_stop_together_with_a_budget_stop : runOf stoppedMore = some (.drainingMore, true, 2) := by decide +kernel

/-- R91: a RUN_STOP taken in the first entry is seen at the second's boundary. -/
theorem test_stop_before_the_boundary :
    runOf (next (exec .keystreamBlockEnd (next (exec (.runStop ⟨0, none⟩) secondDue)))) = some (.drainingFinal, true, 3) := by
  decide +kernel

/-- R112: a moment the walk has passed sets the mark at once. -/
theorem test_stop_past_the_entry_in_progress : runOf (next (exec (.runStop ⟨0, some 1⟩) secondDue)) = some (.active, true, 1) := by
  decide +kernel

/-- R112, R113: a moment to which a walk that ends MORE does not come is taken in DRAINING-MORE, with the end reason. -/
theorem test_stop_after_a_budget_stop :
    ((next (exec .keystreamBlockEnd (next (exec (.runStop ⟨0, some 3⟩) secondDue)))).lanes[0].run.map fun r =>
      (r.state, r.stopMark, r.endReason)) = some (.drainingMore, true, some .stopped) := by decide +kernel

/-- R112: no further effect with the mark set. -/
theorem test_stop_twice :
    ((next (exec (.runStop ⟨0, none⟩) stoppedMore)).lanes[0].run.map fun r => r.endReason) = some none := by decide +kernel

/-! The validity marker's fixed word is free, so that the steps which compare it are rewritten before they are evaluated. -/

theorem edge_at_work (i : InputId) (vs : List Level) :
    exec (.tamperInputEdge i vs) work = .next (vs.foldl (fun s v => s.sampleInput i v) work) :=
  if_pos (State.watching_of_marker (s := work) rfl)

theorem monitoring_at_work (t : Tamper) : ({ work with tamper := t } : State).monitoring = true :=
  State.monitoring_of rfl rfl

theorem test_tamper_input_three_samples :
    (next (exec (.tamperInputEdge 4 [.high, .high, .high]) work)).tamper.inputs[4].filtered = .high := by
  rw [edge_at_work]; decide
theorem test_tamper_input_erases :
    (next (exec (.tamperInputEdge 0 [.high, .high, .high]) work)).mode = .erasing := by rw [edge_at_work]; decide
theorem test_erase_complete : (next (exec .eraseComplete { work with mode := .erasing })).mode = .locked := by decide

/-- R142: the first pass writes zeros over the record of slot 4, and its key is gone. -/
theorem test_first_pass :
    let t := next (step { work with mode := .erasing, passes := { Passes.none with written := 4 } })
    t.slots[4].body = .empty ∧ t.passes.units[4] = some .zeros ∧ t.slots[40].body ≠ .empty := by decide

/-- R142: the third pass writes a value of the Random Source over the Storage Unit record. -/
theorem test_third_pass :
    let t := next (step { work with mode := .erasing, passes := { Passes.none with written := 148 } })
    t.storage.current = none ∧ t.passes.units[48] = some (.random 0) ∧ t.draws = 1 := by decide

/-- R143: what a pass had overwritten when RESET broke it off stays overwritten, and the passes are to begin again. -/
theorem test_stop_during_passes :
    let t := next (exec (.resetAssert ⟨0, 0⟩)
      (next (step { work with mode := .erasing, passes := { Passes.none with written := 54 } })))
    t.passes.units[4] = some .ones ∧ t.passes.written = 0 ∧ t.slots[4].body = .empty := by decide

theorem test_supply_above : (next (exec (.supplyAboveThreshold 3001) work)).tamper.armed = true := by
  have h : work.monitoring = true := monitoring_at_work work.tamper
  simp only [exec, execSupplyAboveThreshold, h]; decide
theorem test_supply_at_threshold_is_neither : exec (.supplyAboveThreshold 3000) work = .next work := by rfl
theorem test_supply_below_unarmed : (next (exec (.supplyBelowThreshold 2999) work)).tamper.timer = false := by
  have h : work.monitoring = true := monitoring_at_work work.tamper
  simp only [exec, execSupplyBelowThreshold, h]; decide
theorem test_supply_expiry :
    (next (exec .supplyTimerExpiry { work with tamper := { work.tamper with armed := true, timer := true } })).mode
      = .erasing := by
  simp only [exec, execSupplyTimerExpiry, monitoring_at_work]; decide
theorem test_supply_loss : (next (exec (.mainSupplyLoss 0 ⟨0, 0⟩) granted)).lanes[0].run = none := by decide
theorem test_reset_assert : (next (exec (.resetAssert ⟨0, 0⟩) work)).mode = .stopped := by decide

/-- R154: a sweep cut off between two warrants in its third step has closed one and not the other. -/
theorem test_sweep_cut_between_warrants :
    (next (exec (.mainSupplyLoss 0 ⟨2, BitVec.twoPow 256 1⟩)
      { State.reset with
        mode := .starting .sweep, warrants := [warrantOne, { warrantOne with id := 2, serial := 1 }] })).warrants.map
        (fun w => w.state) = [.closed .slotFault, .opened] := by decide

theorem test_supply_rise :
    (next (exec (.mainSupplyRise 2501) { work with mode := .stopped, vmain := 0 })).mode = .starting .check := by decide
theorem test_reset_release :
    (next (exec .resetRelease { work with mode := .stopped, resetHeld := true })).mode = .starting .check := by decide
theorem test_validity_check : (next (exec (.validityCheck 0) State.reset)).mode = .starting .clearing := by
  simp only [exec, execValidityCheck, State.markerValid_of_lost (s := State.reset) rfl]; decide
theorem test_clearing_end :
    (next (exec .batteryLossClearingEnd { State.reset with mode := .starting .clearing })).batteryLossFlag = true := by
  decide
theorem test_sweep_end :
    (next (exec .sweepEnd { State.reset with mode := .starting .sweep })).mode = .uninitialised := by decide
theorem test_battery_failure_on_battery :
    (next (exec (.backupBatteryFailure true) { work with vmain := 0 })).markerValid = false :=
  State.markerValid_of_lost rfl
theorem test_memory_fault :
    (next (exec (.batteryBackedMemoryFault 0 .empty 255 0) work)).slots[0].refs = 255 := by decide

/-! ### States and operands that meet each statement's hypotheses -/

theorem witness_StepRunsTheFrontCommand : work.pending = [] ∧ work.mode ≠ .erasing := by decide

theorem witness_RequestFramesAreJudged :
    work.mode.running = true ∧ (work.link .custody).collect = none ∧ ([0x10, 4] : List Byte) ≠ [] ∧
      ([0x10, 4] : List Byte).head? ≠ some 0 ∧
      (7 : Fin 8) ≠ 0 ∧
      (∀ (kind : Byte) (body : List Byte), body.length ≤ 1023 → ([0x10, 4] : List Byte) ≠ frameBytes kind body) ∧
      (List.replicate 1023 (1 : Byte)).length ≤ 1023 ∧
      frameBytes 0x23 (List.replicate 1023 1) = frameBytes 0x23 (List.replicate 1023 1) ∧
      (immediateKinds .custody).contains 0x7F = true ∧ (immediateKinds (.lane 3)).contains 0x10 = false := by
  refine ⟨rfl, rfl, by decide, by decide, by decide, ?_, by rw [List.length_replicate], rfl, by decide, by decide⟩
  intro kind body _ h
  have := congrArg List.length h
  simp [frameBytes, be] at this

theorem witness_ImmediateRequestsActAtOnce :
    work.mode.running = true ∧ (work.link .custody).collect = none ∧ ∀ l : LaneId, (work.link (.lane l)).collect = none :=
  ⟨rfl, rfl, by decide⟩

/-- A link of `work` in the middle of a collect. -/
def collecting (s : State) (k : Link) (r : Option Reply) (cut : Bool) : State :=
  s.setLink k { s.link k with buffer := r, collect := some ⟨r, cut⟩ }

theorem witness_CollectsShiftOutReplies :
    (work.mode.running = true ∧ (work.link .custody).collect = none) ∧
    ((collecting work (.lane 1) (some (.laneStatus [])) true).link (.lane 1)).collect = some ⟨some (.laneStatus []), true⟩ ∧
    ((collecting work .custody none false).link .custody).collect = some ⟨none, false⟩ ∧
    (collecting work .custody (some (.deviceStatus [] true)) false).custody.link.collect
      = some ⟨some (.deviceStatus [] true), false⟩ ∧
    4 < (Reply.deviceStatus [] true).bytes.length ∧ (Reply.deviceStatus [] true).bytes.length ≤ 5 :=
  ⟨⟨rfl, rfl⟩, by decide, rfl, rfl, by decide, by decide⟩

theorem witness_LanesConsumeReplies :
    let r := Reply.laneStatus []
    let s := collecting (onLane work 0 kindLaneStatus []) (.lane 0) (some r) false
    let e := collecting work (.lane 0) (some r) false
    (s.lanes[(0 : LaneId)].link.collect = some ⟨some r, false⟩ ∧ r.bytes.length ≤ 5 ∧ (s.engine = .idle → s.requesters = 0) ∧
      LaneTakes (s.afterCollect 0 r (0 :: r.bytes ++ List.replicate (5 - r.bytes.length) 0)) 0 kindLaneStatus []) ∧
    e.lanes[(0 : LaneId)].link.collect = some ⟨some r, false⟩ ∧ (e.engine = .idle → e.requesters = 0) ∧
      ∀ (kind : Byte) (body : List Byte),
        ¬ LaneTakes (e.afterCollect 0 r (0 :: r.bytes ++ List.replicate (5 - r.bytes.length) 0)) 0 kind body := by
  refine ⟨⟨by decide, by decide, fun _ => rfl, ⟨rfl, rfl, rfl, .inl rfl⟩⟩, by decide, fun _ => rfl, ?_⟩
  intro kind body h
  have := h.head
  simp [State.afterCollect, Reply.isResult, collecting, State.setLink, State.setLane] at this
  rw [show (work.link (.lane 0)).fifo = [] by decide] at this
  simp at this

theorem witness_UnservableRequestsAreRefused :
    CustodyTakes (asking work 0x71 []) 0x71 [] ∧ (∀ raw, ∀ p ∈ custodyCommands raw, p.1 ≠ (0x71 : Byte)) ∧
    LaneTakes (onLane work 3 0x12 []) 3 0x12 [] ∧ (0x12 : Byte) ∉ [0x00, 0x10, 0x11, 0x46, 0x1E, 0x1F] ∧
    CustodyTakes (asking work 0x60 (List.replicate 19 0)) 0x60 (List.replicate 19 0) ∧
    (0x60, Instr.tamperSetup 63) ∈ custodyCommands 63 ∧ bodyFits 0x60 (List.replicate 19 0) = false ∧
    LaneTakes (onLane work 0 kindLaneStatus [0]) 0 kindLaneStatus [0] ∧
    LaneTakes (onLane work 0 kindWarrantStatus []) 0 kindWarrantStatus [] :=
  ⟨asks _ _ _ rfl rfl rfl, by decide, laneAsks _ _ _ _ rfl rfl rfl, by decide, asks _ _ _ rfl rfl rfl, by decide,
    by decide, laneAsks _ _ _ _ rfl rfl rfl, laneAsks _ _ _ _ rfl rfl rfl⟩

theorem witness_CustodyGateRefuses :
    let row : Instr × Byte × Option Code × Option Code × Option Code × Bool :=
      (.slotErase, 0x39, some .uninitialised, none, some .locked, true)
    let inRun : State := { work with custody := Custody.start }
    row ∈ gateTable 0 ∧ bodyFits 0x39 [48] = true ∧
    (CustodyTakes (asking fresh 0x39 [48]) 0x39 [48] ∧
      gateEntry (some .uninitialised) none (some .locked) (asking fresh 0x39 [48]).mode = some .uninitialised) ∧
    (CustodyTakes (asking inRun 0x39 [48]) 0x39 [48] ∧ (asking inRun 0x39 [48]).custody.position = .run ∧
      gateEntry (some .uninitialised) none (some .locked) (asking inRun 0x39 [48]).mode = none) ∧
    CustodyTakes (asking work 0x39 [48]) 0x39 [48] ∧ (asking work 0x39 [48]).custody.position = .custody ∧
      namedSlot 0x39 [48] = some 48 ∧ 47 < (48 : Byte).toNat :=
  ⟨by decide, by decide, ⟨asks _ _ _ rfl rfl rfl, rfl⟩, ⟨asks _ _ _ rfl rfl rfl, rfl, rfl⟩, asks _ _ _ rfl rfl rfl, rfl,
    by decide, by decide⟩

theorem witness_SlotStatusReportsTheRecord :
    CustodyTakes (asking work kindSlotStatus [u8 (47 : SlotId).val]) kindSlotStatus [u8 (47 : SlotId).val] ∧
      (asking work kindSlotStatus [47]).mode ≠ .locked :=
  ⟨asks _ _ _ rfl rfl rfl, by decide⟩

/-- `work` with an ACTIVE key in slot 6 that nothing names. -/
def spare : State := work.withSlot 6 (Slot.fresh 6 (.active masterAttrs masterContents))

theorem witness_SlotEraseEmptiesAnUnusedSlot :
    CustodyTakes (asking spare kindSlotErase [u8 (6 : SlotId).val]) kindSlotErase [u8 (6 : SlotId).val] ∧
      spare.mode = .operational ∧ spare.custody.position = .custody ∧ spare.slots[(47 : SlotId)].body = .empty ∧
      spare.slots[(5 : SlotId)].body = .assembling masterAttrs ∧
      (spare.slots[(4 : SlotId)].body = .active masterAttrs masterContents ∧ 0 < spare.slots[(4 : SlotId)].refs) ∧
      spare.slots[(6 : SlotId)].body = .active masterAttrs masterContents ∧ spare.slots[(6 : SlotId)].refs = 0 ∧
      ¬ ∃ g, spare.engine = .lane g ∧ (g.master = some 6 ∨ spare.lanes[g.lane].transport = some 6) :=
  ⟨asks _ _ _ rfl rfl rfl, rfl, rfl, rfl, rfl, ⟨rfl, by decide⟩, rfl, rfl, fun ⟨_, h, _⟩ => Engine.noConfusion h⟩

theorem witness_SlotErase_named :
    let g : RunGrant :=
      { lane := 0, budget := 3, used := 0, performed := 0, index := 1, results := [], master := some 6, stage := .opening
        stopAt := none }
    ({ spare with engine := .lane g } : State).engine = .lane g ∧ g.master = some 6 := ⟨rfl, rfl⟩

theorem witness_AssembleReservesAnEmptySlot :
    let bytes (slot required issuer : Byte) : List Byte := [slot, 1, 2, issuer, 1, 16, required, 0x5C, 0x31, 0xA8]
    (CustodyTakes (asking work kindAssemble (bytes (u8 (4 : SlotId).val) 3 3)) kindAssemble (bytes (u8 (4 : SlotId).val) 3 3)
      ∧ work.slots[(4 : SlotId)].body ≠ .empty) ∧
    (CustodyTakes (asking work kindAssemble (bytes (u8 (47 : SlotId).val) 2 30)) kindAssemble
        (bytes (u8 (47 : SlotId).val) 2 30) ∧ work.slots[(47 : SlotId)].body = .empty ∧
      (KeyKind.derivation .cardMessaging 30).Valid ∧ (KeyKind.derivation .cardMessaging 30).issuerByte = 30) ∧
    work.mode = .operational ∧ work.custody.position = .custody ∧ ¬ ((4 : Byte) = 2 ∨ (4 : Byte) = 3) :=
  ⟨⟨asks _ _ _ rfl rfl rfl, by decide⟩, ⟨asks _ _ _ rfl rfl rfl, rfl, ⟨by decide, by decide⟩, rfl⟩, rfl, rfl, by decide⟩

/-- `work` with the assembly of slot 5 in its final check. -/
def checkingFive : State :=
  work.withSlot 5 { Slot.fresh 5 (.assembling masterAttrs) with assembly := some { part with custodians := [1, 2], checking := true } }

theorem witness_ComponentIsCheckedAndCombined :
    let ask (s : State) (i : SlotId) (custodian : Byte) : State :=
      asking s kindComponent (componentBody i custodian (.k16 2) none)
    (CustodyTakes (ask work 0 1) kindComponent (componentBody 0 1 (.k16 2) none) ∧
      ∀ a p, ¬ ((ask work 0 1).slots[(0 : SlotId)].body = .assembling a ∧ (ask work 0 1).slots[(0 : SlotId)].assembly = some p)) ∧
    (CustodyTakes (ask checkingFive 5 3) kindComponent (componentBody 5 3 (.k16 2) none) ∧
      (ask checkingFive 5 3).slots[(5 : SlotId)].assembly = some { part with custodians := [1, 2], checking := true }) ∧
    (CustodyTakes (ask work 5 8) kindComponent (componentBody 5 8 (.k16 2) none) ∧
      (ask work 5 8).slots[(5 : SlotId)].body = .assembling masterAttrs ∧
      (ask work 5 8).slots[(5 : SlotId)].assembly = some part ∧ part.checking = false ∧ 1 ∈ part.custodians ∧
      (8 : Byte).toNat ∉ part.custodians ∧ (8 : Byte).toNat ≤ 8 ∧ 8 < (9 : Byte).toNat ∧ (0 : Byte).toNat < 1 ∧
      (KeyValue.k16 2).length = masterAttrs.length ∧ (KeyValue.k32 2).length ≠ masterAttrs.length) ∧
    work.mode = .operational ∧ work.custody.position = .custody :=
  ⟨⟨asks _ _ _ rfl rfl rfl, fun _ _ h => SlotBody.noConfusion h.1⟩, ⟨asks _ _ _ rfl rfl rfl, rfl⟩,
    ⟨asks _ _ _ rfl rfl rfl, rfl, rfl, rfl, by decide, by decide, by decide, by decide, by decide, rfl, by decide⟩, rfl, rfl⟩

/-- The engine given to custody for one command. -/
def inProcess (s : State) (p : Process) (op : BlockOp) : State :=
  { s with
    custody := { s.custody with process := some p }
    engine := .custody { planned := 1, performed := 0, op := some op } }

theorem witness_ComponentCheckEnds :
    let op := BlockOp.encipher (.k16 2) 0
    let s (check : CheckValue) (ended : Bool) := inProcess work (.componentCheck 5 2 (.k16 2) check true ended) op
    (s 0 true).engine = .custody { planned := 1, performed := 0, op := some op } ∧
    (s 0 true).custody.process = some (.componentCheck 5 2 (.k16 2) 0 true true) ∧
    (s 0 false).custody.process = some (.componentCheck 5 2 (.k16 2) 0 true false) ∧
    firstThree op.result ≠ 0 ∧
    (s (firstThree op.result) false).custody.process
      = some (.componentCheck 5 2 (.k16 2) (firstThree op.result) true false) ∧
    (s 0 false).slots[(5 : SlotId)].body = .assembling masterAttrs ∧
    (s 0 false).slots[(5 : SlotId)].assembly = some part :=
  ⟨rfl, rfl, rfl, by decide +kernel, rfl, rfl, rfl⟩

theorem witness_FinalCheckEnds :
    let op := BlockOp.encipher (.k16 3) 0
    let s := inProcess checkingFive (.finalCheck 5) op
    s.engine = .custody { planned := 1, performed := 0, op := some op } ∧ s.custody.process = some (.finalCheck 5) ∧
    s.slots[(5 : SlotId)].body = .assembling masterAttrs ∧
    s.slots[(5 : SlotId)].assembly = some { part with custodians := [1, 2], checking := true } ∧
    firstThree op.result ≠ part.expected ∧
    firstThree op.result = { part with expected := firstThree op.result }.expected :=
  ⟨rfl, rfl, rfl, rfl, by decide +kernel, rfl⟩

theorem witness_AssemblyCancelAbandonsAnAssembly :
    CustodyTakes (asking work kindAssemblyCancel [u8 (5 : SlotId).val]) kindAssemblyCancel [u8 (5 : SlotId).val] ∧
    work.mode = .operational ∧ work.custody.position = .custody ∧ work.slots[(5 : SlotId)].body = .assembling masterAttrs ∧
    work.slots[(5 : SlotId)].assembly = some part ∧
    (∀ a p, ¬ (work.slots[(47 : SlotId)].body = .assembling a ∧ work.slots[(47 : SlotId)].assembly = some p)) ∧
    CustodyTakes (asking work kindSlotErase [u8 (5 : SlotId).val]) kindSlotErase [u8 (5 : SlotId).val] :=
  ⟨asks _ _ _ rfl rfl rfl, rfl, rfl, rfl, rfl, fun _ _ h => SlotBody.noConfusion h.1, asks _ _ _ rfl rfl rfl⟩

theorem witness_CustodySwitchIsFiltered :
    let seven (position : SwitchPosition) : State := { work with custody := { work.custody with position := position, count := 7 } }
    work.mode.running = true ∧ contact .low = work.custody.position ∧
    (contact .high ≠ work.custody.position ∧ work.custody.count + 1 < 8) ∧
    (contact .low ≠ (seven .run).custody.position ∧ 8 ≤ (seven .run).custody.count + 1) ∧
    contact .high ≠ (seven .custody).custody.position ∧ 8 ≤ (seven .custody).custody.count + 1 := by decide

theorem witness_StorageKeysAreDrawnAndWritten :
    let op := BlockOp.encipher (.k32 7) 0xA5A5A5A5A5A5A5A5A5A5A5A5A5A5A5A5
    let last : StorageKey := { storageKeyOne with generation := 65535 }
    CustodyTakes (asking fresh kindInitialise []) kindInitialise [] ∧ fresh.mode = .uninitialised ∧
    fresh.custody.position = .custody ∧
    (inProcess fresh (.initialise 7) op).custody.process = some (.initialise 7) ∧
    CustodyTakes (asking work kindStorageRoll []) kindStorageRoll [] ∧ work.mode = .operational ∧
    work.custody.position = .custody ∧ work.storage.current = some storageKeyOne ∧ storageKeyOne.generation < 65535 ∧
    65535 ≤ last.generation ∧ (inProcess work (.storageRoll 7) op).storage.current = some storageKeyOne ∧
    (inProcess work (.storageRoll 7) op).engine = .custody { planned := 1, performed := 0, op := some op } :=
  ⟨asks _ _ _ rfl rfl rfl, rfl, rfl, rfl, asks _ _ _ rfl rfl rfl, rfl, rfl, rfl, by decide, by decide, rfl, rfl⟩

theorem witness_TokenExportWrapsTheKey :
    let op := BlockOp.encipher (.k32 11) 0
    CustodyTakes (asking work kindTokenExport [u8 (40 : SlotId).val]) kindTokenExport [u8 (40 : SlotId).val] ∧
    work.mode = .operational ∧ work.slots[(47 : SlotId)].isActive = false ∧
    work.slots[(40 : SlotId)].body = .active transportAttrs transportContents ∧ work.storage.current = some storageKeyOne ∧
    masterAttrs.length = .len16 ∧ transportAttrs.length = .len32 ∧
    (inProcess work (.tokenExport 4 masterAttrs 0 0 none) op).custody.process = some (.tokenExport 4 masterAttrs 0 0 none) ∧
    (inProcess work (.tokenExport 40 transportAttrs 0 0 none) op).slots[(40 : SlotId)].body
      = .active transportAttrs transportContents ∧
    (inProcess work (.tokenExport 40 transportAttrs 0 0 (some 1)) op).custody.process
      = some (.tokenExport 40 transportAttrs 0 0 (some 1)) :=
  ⟨asks _ _ _ rfl rfl rfl, rfl, rfl, rfl, rfl, rfl, rfl, rfl, rfl, rfl⟩

/-- A token in the form of R44, wrapped under nothing. -/
def tokenFor (a : Attributes) (generation : Nat) (w2 : Option Block) : List Byte :=
  tokenBytes (tokenHeader a generation storageKeyOne.pattern) 1 w2 2

theorem witness_TokenImportMatchesAndUnwraps :
    let t := tokenFor masterAttrs 65535 none
    let rolled : State :=
      { work with storage := { current := some { storageKeyOne with pattern := storageKeyOne.pattern + 1 }, previous := some storageKeyOne } }
    let op := BlockOp.decipher (.k32 11) 1
    let token : Token :=
      { header := 0, attrs := masterAttrs, generation := 1, pattern := 0, w1 := 1, w2 := none, check := 2 }
    let long : Token := { token with attrs := transportAttrs, w2 := some 3 }
    (CustodyTakes (asking work kindTokenImport (u8 (47 : SlotId).val :: t)) kindTokenImport (u8 (47 : SlotId).val :: t) ∧
      work.mode = .operational ∧ work.custody.position = .custody ∧ work.storage.current = some storageKeyOne) ∧
    (work.slots[(47 : SlotId)].body = .empty ∧ work.slots[(4 : SlotId)].body ≠ .empty) ∧
    (masterAttrs.kind.Valid ∧ ((none : Option Block).isSome = true ↔ masterAttrs.length = .len32) ∧
      t = tokenBytes (tokenHeader masterAttrs 65535 storageKeyOne.pattern) 1 none 2) ∧
    (∀ a generation pattern w1 w2 check, ([] : List Byte) ≠ tokenBytes (tokenHeader a generation pattern) w1 w2 check) ∧
    (storageKeyOne.pattern + 1 ≠ storageKeyOne.pattern ∧ rolled.storage.previous = some storageKeyOne) ∧
    (inProcess work (.tokenImport 47 token false 1 none none) op).engine
      = .custody { planned := 1, performed := 0, op := some op } ∧
    token.w2 = none ∧ long.w2 = some 3 ∧
    (if true = true then rolled.storage.previous else rolled.storage.current) = some storageKeyOne := by
  refine ⟨⟨asks _ _ _ rfl rfl rfl, rfl, rfl, rfl⟩, ⟨rfl, by decide⟩, ⟨⟨by decide, by decide⟩, by decide, rfl⟩, ?_,
    ⟨by decide +kernel, rfl⟩, rfl, rfl, rfl, rfl⟩
  intro a g p w1 w2 c h
  have := congrArg List.length h
  simp [tokenBytes] at this

theorem witness_WarrantCommandsAreChecked :
    ((0x47, Instr.warrantList) ∈ (0x40, Instr.warrantOpen) :: (0x47, .warrantList) :: namingCommands ∧
      CustodyTakes (asking fresh 0x47 []) 0x47 [] ∧ bodyFits 0x47 [] = true ∧ fresh.mode = .uninitialised) ∧
    ({ fresh with mode := .locked } : State).mode = .locked ∧
    ((0x43, Instr.warrantExtend) ∈ namingCommands ∧
      CustodyTakes (asking work 0x43 (0 :: be 4 1)) 0x43 (0 :: be 4 1) ∧ bodyFits 0x43 (0 :: be 4 1) = true ∧
      work.mode = .operational) ∧
    (255 : Byte) ≠ 0 ∧ ∀ w ∈ work.warrants, w.id ≠ (255 : Byte).toNat :=
  ⟨⟨by decide, asks _ _ _ rfl rfl rfl, by decide, rfl⟩, rfl, ⟨by decide, asks _ _ _ rfl rfl rfl, by decide, rfl⟩,
    by decide, by decide⟩

theorem witness_WarrantOpenAddsARecord :
    let body (master : Byte) : List Byte := [255, 7, master] ++ be 4 1000000 ++ u8 10 :: List.replicate 10 9 ++ [15]
    1000000 < 4294967296 ∧ (List.replicate 10 (9 : Byte)).length < 256 ∧
    CustodyTakes (asking work kindWarrantOpen (body 48)) kindWarrantOpen (body 48) ∧ 47 < (48 : Byte).toNat ∧
    CustodyTakes (asking work kindWarrantOpen (body 4)) kindWarrantOpen (body 4) ∧ (4 : Byte) = u8 (4 : SlotId).val ∧
    work.mode = .operational :=
  ⟨by decide, by decide, asks _ _ _ rfl rfl rfl, by decide, asks _ _ _ rfl rfl rfl, rfl, rfl⟩

/-- `work` with its warrant in another state. -/
def warrantIn (state : WarrantState) (delivered : Nat) : State :=
  { work with warrants := [{ warrantOne with state := state, delivered := delivered }] }

theorem witness_WarrantsAreHeldExtendedAndClosed :
    (CustodyTakes (asking work kindWarrantHold [1]) kindWarrantHold [1] ∧ work.mode = .operational ∧ (1 : Byte) ≠ 0 ∧
      work.warrant (1 : Byte).toNat = some warrantOne ∧ warrantOne.state = .opened) ∧
    (warrantIn .exhausted 10).warrant 1 = some { warrantOne with state := .exhausted, delivered := 10 } ∧
    WarrantState.exhausted ≠ .opened ∧
    (CustodyTakes (asking work kindWarrantExtend (1 :: be 4 1000000)) kindWarrantExtend (1 :: be 4 1000000) ∧
      1 ≤ 1000000 ∧ 1000000 < 1000001 ∧ 0 < 1) ∧
    ((warrantIn (.closed .tamper) 6).warrant 1 = some { warrantOne with state := .closed .tamper }) ∧
    (∀ r, warrantOne.state ≠ .closed r) ∧
    CustodyTakes (asking work kindWarrantClose [1]) kindWarrantClose [1] :=
  ⟨⟨asks _ _ _ rfl rfl rfl, rfl, by decide, rfl, rfl⟩, rfl, by decide, ⟨asks _ _ _ rfl rfl rfl, by decide, by decide, by decide⟩,
    rfl, fun _ h => WarrantState.noConfusion h, asks _ _ _ rfl rfl rfl⟩

theorem witness_WarrantReleaseResumesAJob :
    CustodyTakes (asking (warrantIn .held 9) kindWarrantRelease [1]) kindWarrantRelease [1] ∧
    (warrantIn .held 9).mode = .operational ∧ (1 : Byte) ≠ 0 ∧
    (warrantIn .held 9).warrant (1 : Byte).toNat = some { warrantOne with state := .held, delivered := 9 } ∧
    warrantOne.state ≠ .held :=
  ⟨asks _ _ _ rfl rfl rfl, rfl, by decide, rfl, by decide⟩

theorem witness_WarrantPurgeRemovesARecord :
    let s := warrantIn (.closed .slotFault) 6
    CustodyTakes (asking s kindWarrantPurge [1]) kindWarrantPurge [1] ∧ s.mode = .operational ∧ (1 : Byte) ≠ 0 ∧
    s.warrant (1 : Byte).toNat = some { warrantOne with state := .closed .slotFault } ∧
    ∀ r, warrantOne.state ≠ .closed r :=
  ⟨asks _ _ _ rfl rfl rfl, rfl, by decide, rfl, fun _ h => WarrantState.noConfusion h⟩

theorem witness_WarrantReports :
    (CustodyTakes (asking work kindWarrantStatus [1]) kindWarrantStatus [1] ∧ work.mode = .operational ∧ (1 : Byte) ≠ 0 ∧
      work.warrant (1 : Byte).toNat = some warrantOne) ∧
    (LaneTakes (onLane work 3 kindWarrantStatus [1]) 3 kindWarrantStatus [1] ∧ inLaneSet warrantOne.lanes 3 = true) ∧
    (LaneTakes (onLane fresh 3 kindWarrantStatus [0]) 3 kindWarrantStatus [0] ∧ fresh.mode = .uninitialised) ∧
    (∀ w, work.warrant (255 : Byte).toNat = some w → inLaneSet w.lanes 3 = false) ∧
    CustodyTakes (asking work kindWarrantList []) kindWarrantList [] :=
  ⟨⟨asks _ _ _ rfl rfl rfl, rfl, by decide, rfl⟩, ⟨laneAsks _ _ _ _ rfl rfl rfl, by decide⟩,
    ⟨laneAsks _ _ _ _ rfl rfl rfl, rfl⟩,
    fun w h => absurd (show (none : Option Warrant) = some w from h) (by simp), asks _ _ _ rfl rfl rfl⟩

theorem witness_LaneBindReplacesTheBinding :
    let body (lane slot cls : Byte) (issuers : IssuerSet) : List Byte :=
      [lane, slot, cls] ++ be 4 issuers.toNat ++ blockBytes 5
    (CustodyTakes (asking work kindLaneBind (body 4 40 1 128)) kindLaneBind (body 4 40 1 128) ∧ 3 < (4 : Byte).toNat ∧
      (0x80000000 : IssuerSet).getLsbD 31 = true ∧ work.mode = .operational) ∧
    (CustodyTakes (asking work kindLaneBind (body 3 40 2 0x40000000)) kindLaneBind (body 3 40 2 0x40000000) ∧
      (3 : Byte) = u8 (3 : LaneId).val ∧ (40 : Byte) = u8 (40 : SlotId).val ∧ (2 : Byte) = Priority.low.byte ∧
      (0x40000000 : IssuerSet) ≠ 0 ∧ (0x40000000 : IssuerSet).getLsbD 0 = false ∧
      (0x40000000 : IssuerSet).getLsbD 31 = false ∧ work.lanes[(3 : LaneId)].run = none ∧
      work.slots[(40 : SlotId)].body = .active transportAttrs transportContents ∧ transportAttrs.kind = .transport) ∧
    work.slots[(47 : SlotId)].isActive = false ∧ masterAttrs.kind ≠ .transport ∧
    granted.lanes[(0 : LaneId)].run.isSome = true :=
  ⟨⟨asks _ _ _ rfl rfl rfl, by decide, by decide, rfl⟩,
    ⟨asks _ _ _ rfl rfl rfl, rfl, rfl, rfl, by decide, by decide, by decide, rfl, rfl, rfl⟩, rfl, by decide, by decide⟩

theorem witness_LaneUnbindFreesTheLane :
    (CustodyTakes (asking work kindLaneUnbind [4]) kindLaneUnbind [4] ∧ 3 < (4 : Byte).toNat ∧ work.mode = .operational) ∧
    (CustodyTakes (asking work kindLaneUnbind [0]) kindLaneUnbind [0] ∧ (0 : Byte) = u8 (0 : LaneId).val ∧
      work.lanes[(0 : LaneId)].transport = some 40 ∧ work.lanes[(0 : LaneId)].run = none) ∧
    work.lanes[(3 : LaneId)].transport = none ∧ granted.lanes[(0 : LaneId)].run.isSome = true ∧
    LaneTakes (onLane work 3 kindRun []) 3 kindRun [] :=
  ⟨⟨asks _ _ _ rfl rfl rfl, by decide, rfl⟩, ⟨asks _ _ _ rfl rfl rfl, rfl, rfl, rfl⟩, rfl, by decide,
    laneAsks _ _ _ _ rfl rfl rfl⟩

theorem witness_SetQuantumRoundsAndClamps :
    CustodyTakes (asking work kindSetQuantum [255]) kindSetQuantum [255] ∧ work.mode = .operational ∧
    CustodyTakes (asking { fresh with mode := .locked } kindSetQuantum [0]) kindSetQuantum [0] :=
  ⟨asks _ _ _ rfl rfl rfl, rfl, asks _ _ _ rfl rfl rfl⟩

/-- The RUN of `cardBody`. -/
def cardForm : RunForm :=
  { tag := 9, warrant := 1, entries := [{ digits := [5, 3, 1, 2, 4, 6, 0, 0, 0, 0, 1, 2, 3, 4, 5, 3], sequence := 1 }] }

theorem witness_RunIsAcceptedOrRefused :
    (LaneTakes (onLane work 0 kindRun cardForm.bytes) 0 kindRun cardForm.bytes ∧ (work.engine = .idle → work.requesters = 0) ∧
      work.mode = .operational ∧ work.lanes[(0 : LaneId)].transport.isSome = true ∧ 1 ≤ cardForm.entries.length ∧
      cardForm.entries.length ≤ 16 ∧ (∀ e ∈ cardForm.entries, e.digits.length ≤ 19) ∧ cardForm.bytes = cardBody ∧
      work.warrant cardForm.warrant.toNat = some warrantOne) ∧
    work.lanes[(3 : LaneId)].transport = none ∧ work.warrant 255 = none ∧
    (LaneTakes (onLane work 0 kindRun []) 0 kindRun [] ∧ ∀ f : RunForm, ([] : List Byte) ≠ f.bytes) :=
  ⟨⟨laneAsks _ _ _ _ rfl rfl rfl, fun _ => rfl, rfl, rfl, by decide, by decide, by decide, by decide, rfl⟩, rfl, rfl,
    laneAsks _ _ _ _ rfl rfl rfl, fun f h => by simp [RunForm.bytes] at h⟩

theorem witness_LaneStatusReportsTheLane :
    LaneTakes (onLane work 3 kindLaneStatus []) 3 kindLaneStatus [] := laneAsks _ _ _ _ rfl rfl rfl

/-- A run of `cardForm` on lane 0 in a state of its own. -/
def cardRun (state : RunState) : Run :=
  { tag := 9, tie := 0, entries := cardForm.entries, next := 1, state := state, stopMark := false, endReason := none }

theorem witness_RunStopActsOnTheRun :
    let s (state : RunState) := work.setLane 0 { laneZero with run := some (cardRun state) }
    let stopped : Run := { cardRun .drainingMore with stopMark := true }
    work.mode.running = true ∧ work.lanes[(0 : LaneId)].run = none ∧
    (s .queued).lanes[(0 : LaneId)].run = some (cardRun .queued) ∧
    (s .active).lanes[(0 : LaneId)].run = some (cardRun .active) ∧
    ((s .drainingMore).lanes[(0 : LaneId)].run = some (cardRun .drainingMore) ∧ (cardRun .drainingMore).stopMark = false) ∧
    ((work.setLane 0 { laneZero with run := some stopped }).lanes[(0 : LaneId)].run = some stopped ∧
      stopped.state = .drainingMore ∧ stopped.stopMark = true) ∧
    (s .drainingFinal).lanes[(0 : LaneId)].run = some (cardRun .drainingFinal) ∧
    ∃ g, granted.engine = .lane g ∧ g.lane = 0 ∧ g.stage = .opening ∧ g.index = 1 := by
  refine ⟨by decide, by decide, by decide, by decide, by decide, by decide, by decide, ⟨_, rfl, rfl, rfl, rfl⟩⟩

theorem witness_EngineIsGrantedInOrder :
    let op : Process := .initialise 7
    let waiting : State := { fresh with requesters := 16, custody := { fresh.custody with process := some op } }
    let queued : State :=
      { work.setLane 0 { laneZero with run := some (cardRun .queued) } with requesters := 1, highPointer := 0 }
    let held (s : State) : State := { s with engine := .custody { planned := 1, performed := 0, op := none } }
    ((held waiting).mode.running = true ∧ (held waiting).engine ≠ .idle ∧ (held waiting).waits .custody = true ∧
      (held waiting).custody.process = some op) ∧
    ((held queued).waits .custody = false ∧ (held queued).waits (.lane 0) = true ∧
      (held queued).lanes[(0 : LaneId)].cls = .high ∧ (held queued).lanes[(0 : LaneId)].run = some (cardRun .queued) ∧
      ∀ m : LaneId, (held queued).waits (.lane m) = true → (held queued).lanes[m].cls = .high →
        turn queued.highPointer 0 ≤ turn queued.highPointer m) ∧
    (work.requesters = 0 ∧ work.engine = .idle) ∧
    (held work).engine = .custody { planned := 1, performed := 0, op := none } ∧
    queued.mode.running = true ∧ queued.engine = .idle ∧ queued.release.engine ≠ .idle := by decide

/-- A grant of lane 0 at its first boundary. -/
def firstGrant : RunGrant :=
  { lane := 0, budget := 3, used := 0, performed := 0, index := 1, results := [], master := some 4, stage := .opening
    stopAt := some 1 }

/-- `work` with that grant, its run and its warrant as given. -/
def walking (g : RunGrant) (r : Run) (w : Warrant) : State :=
  { work.setLane 0 { laneZero with run := some r } with engine := .lane g, warrants := [w] }

theorem witness_WalkTakesOneEntryAtATime :
    let s := walking firstGrant (cardRun .active) warrantOne
    let e : Entry := { digits := [5, 3, 1, 2, 4, 6, 0, 0, 0, 0, 1, 2, 3, 4, 5, 3], sequence := 1 }
    (s.mode.running = true ∧ s.engine = .lane firstGrant ∧ firstGrant.stage = .opening ∧
      s.lanes[firstGrant.lane].run = some (cardRun .active) ∧ 1 ≤ firstGrant.index) ∧
    { firstGrant with index := 2 }.index = (cardRun .active).entries.length + 1 ∧
    (cardRun .active).entries[firstGrant.index - 1]? = some e ∧ { cardRun .active with stopMark := true }.stopMark = true ∧
    (cardRun .active).stopMark = false ∧ (∀ w ∈ (warrantIn .opened 0).warrants, w.serial ≠ 5) ∧
    s.warrants.find? (fun x => x.serial == (cardRun .active).tie) = some warrantOne ∧ warrantOne.state = .opened ∧
    e.refusal warrantOne.digits = none ∧ { e with sequence := 10000 }.refusal warrantOne.digits = some .badSequence ∧
    3 < { firstGrant with used := 3 }.used + 3 ∧ firstGrant.stopAt = some firstGrant.index ∧
    ({ firstGrant with stopAt := some 2 }.stopAt ≠ none ∧ { firstGrant with stopAt := some 2 }.stopAt ≠ some firstGrant.index) ∧ firstGrant.used + 3 ≤ firstGrant.budget ∧
    s.slots[(4 : SlotId)].body = .active masterAttrs masterContents ∧
    masterAttrs.kind = .derivation .cardAuthentication 7 ∧ s.transportKey firstGrant.lane = some (.k32 9) :=
  ⟨⟨rfl, rfl, rfl, rfl, by decide⟩, by decide, by decide, rfl, rfl, by decide, rfl, rfl, by decide, by decide, by decide,
    rfl, by decide, by decide, rfl, rfl, rfl⟩

theorem witness_CardDataAreValidatedAndPacked :
    (List.replicate 19 (9 : Byte)).length ≤ 19 ∧ (∀ d ∈ List.replicate 19 (9 : Byte), d.toNat ≤ 9) ∧ 19 < 20 := by decide

theorem witness_DeliveredEntryMakesTheCardKey :
    let w : Work := { packed := 0, derivation := 0 }
    let op := BlockOp.encipher (.k16 5) 0
    let g (stage : Stage) : RunGrant := { firstGrant with stage := stage }
    let s (stage : Stage) := walking (g stage) (cardRun .active) warrantOne
    ((s (.deriving w op)).engine = .lane (g (.deriving w op)) ∧ (g (.deriving w op)).stage = .deriving w op) ∧
    ((s (.checking w 1 op)).engine = .lane (g (.checking w 1 op)) ∧
      (s (.checking w 1 op)).lanes[(0 : LaneId)].transport = some 40 ∧
      (s (.checking w 1 op)).slots[(40 : SlotId)].body = .active transportAttrs transportContents) ∧
    (s (.keystream w 1 2 op)).engine = .lane (g (.keystream w 1 2 op)) ∧ (s (.keystream w 1 2 op)).mode.running = true ∧
    (s (.keystream w 1 2 op)).lanes[(0 : LaneId)].run = some (cardRun .active) ∧ firstGrant.master = some 4 ∧
    (4 : SlotId) ≠ 40 ∧ (s (.keystream w 1 2 op)).slots[(4 : SlotId)].body = .active masterAttrs masterContents :=
  ⟨⟨rfl, rfl⟩, ⟨rfl, rfl, rfl⟩, rfl, rfl, rfl, rfl, by decide, rfl⟩

/-- The settings of R133, as a TAMPER_SETUP body. -/
def defaultSettings : Vector InputSettings 6 :=
  Vector.ofFn fun i => if i.val < 4 then ⟨.either, .samples3, .erase⟩ else ⟨.off, .samples3, .record⟩

theorem witness_TamperSetupReplacesTheSettings :
    let body := defaultSettings.toList.flatMap InputSettings.bytes ++ [u8 (7 : Fin 8).val, Response.erase.byte]
    (CustodyTakes (asking work kindTamperSetup body) kindTamperSetup body ∧ body.length = 20 ∧
      (work.mode = .uninitialised ∨ work.mode = .operational) ∧ work.custody.position = .custody) ∧
    CustodyTakes (asking fresh kindTamperSetup (List.replicate 20 3)) kindTamperSetup (List.replicate 20 3) ∧
    ∀ (n : Vector InputSettings 6) (threshold : Fin 8) (response : Response),
      List.replicate 20 3 ≠ n.toList.flatMap InputSettings.bytes ++ [u8 threshold.val, response.byte] := by
  refine ⟨⟨asks _ _ _ rfl rfl rfl, by decide, .inr rfl, rfl⟩, asks _ _ _ rfl rfl rfl, ?_⟩
  intro n threshold response h
  have := congrArg List.getLast? h
  rw [List.getLast?_append] at this
  cases response <;> simp [Response.byte] at this

theorem witness_TamperAckClearsTheCauses :
    let locked : State := { fresh with mode := .locked }
    CustodyTakes (asking locked kindTamperAck []) kindTamperAck [] ∧ locked.custody.position = .custody ∧
    locked.mode = .locked ∧
    (∀ i : InputId, locked.tamper.inputs[i].response = .erase →
      locked.tamper.inputs[i].filtered = locked.tamper.inputs[i].quiet) ∧
    thresholdMv locked.tamper.threshold ≤ locked.vmain ∧
    ¬ thresholdMv locked.tamper.threshold ≤ ({ locked with vmain := 2999 } : State).vmain ∧
    CustodyTakes (asking work kindTamperAck []) kindTamperAck [] ∧ work.custody.position = .custody :=
  ⟨asks _ _ _ rfl rfl rfl, rfl, rfl, by decide, by decide, by decide, asks _ _ _ rfl rfl rfl, rfl⟩

theorem witness_DeviceStatusReportsThePart :
    CustodyTakes (asking work kindDeviceStatus []) kindDeviceStatus [] := asks _ _ _ rfl rfl rfl

theorem witness_TamperInputsAreFiltered :
    let counting : State :=
      { work with tamper := { work.tamper with inputs := work.tamper.inputs.set 5 { work.tamper.inputs[5] with count := 2 } } }
    (work.marker = Config.marker ∨ work.mode = .starting .clearing) ∧
    Level.low = work.tamper.inputs[(5 : InputId)].filtered ∧
    (Level.high ≠ work.tamper.inputs[(5 : InputId)].filtered ∧ work.tamper.inputs[(5 : InputId)].count + 1 < 3) ∧
    Level.high ≠ counting.tamper.inputs[(5 : InputId)].filtered ∧ 3 ≤ counting.tamper.inputs[(5 : InputId)].count + 1 :=
  ⟨.inl rfl, by decide⟩

theorem witness_TamperEventsAreRecorded :
    work.mode.inService = true ∧ ({ work with mode := .erasing } : State).mode = .erasing ∧
    (State.reset.mode = .stopped ∨ ∃ p, State.reset.mode = .starting p) := ⟨rfl, rfl, .inr ⟨_, rfl⟩⟩

theorem witness_SupplyMonitorTimesTheSupply :
    let held : State := { work with mode := .stopped, resetHeld := true, vmain := 2501 }
    work.mode.running = true ∧ (work.marker = Config.marker ∨ work.mode = .starting .clearing) ∧
    thresholdMv work.tamper.threshold < 3001 ∧ 2500 ≤ 2999 ∧
    2999 < thresholdMv work.tamper.threshold ∧ held.mode = .stopped ∧ 2500 < held.vmain :=
  ⟨rfl, .inl rfl, by decide⟩

theorem witness_LogicStopsAndStarts :
    let cut : SweepCut := { steps := 5, records := 15 }
    let sweeping : State := { work with mode := .starting .sweep }
    let stopped : State := { work with mode := .stopped, vmain := 2500 }
    cut.steps ≤ 5 ∧ work.mode ≠ .starting .sweep ∧ 2499 < 2500 ∧ 2500 ≤ work.vmain ∧
    work.resetHeld = false ∧ sweeping.mode = .starting .sweep ∧ sweeping.resetHeld = false ∧ stopped.mode = .stopped ∧
    stopped.vmain ≤ 2500 ∧ 2500 < 2501 ∧ ({ stopped with resetHeld := true } : State).resetHeld = true := by decide

theorem witness_StartingChecksTheMarker :
    let pending : State :=
      { State.reset with marker := Config.marker, tamper := { State.reset.tamper with erasePending := true } }
    (State.reset.mode = .starting .check ∧ State.reset.marker ≠ Config.marker) ∧
    (pending.mode = .starting .check ∧ pending.marker = Config.marker ∧ pending.tamper.erasePending = true) ∧
    ({ State.reset with marker := Config.marker } : State).tamper.erasePending = false ∧
    ({ State.reset with mode := .starting .clearing } : State).mode = .starting .clearing :=
  ⟨⟨rfl, lostMarker_ne⟩, ⟨rfl, rfl, rfl⟩, rfl, rfl⟩

theorem witness_SweepRestoresTheTables : ({ work with mode := .starting .sweep } : State).mode = .starting .sweep := rfl

theorem witness_BatteryAndMemoryFail :
    (255 : Nat) ≤ 255 ∧
    (SlotBody.faulty { kind := .derivation .cardMessaging 255, version := 0, length := .len16 }
      { key := .k16 0, check := 0, origin := .imported, uses := 4294967295 }).fieldsOk = true := by decide

theorem witness_CommandsLeaveTheQueue : ∃ t, exec .grant (work.withPending [.linkClear]) = .next t := ⟨_, rfl⟩

/-! ### The laws, on a part at work -/

/-- `work` with a command waiting. -/
def busy : State := work.withPending [.laneClear 0]

theorem busy_steps : ∃ t, step busy = .next t := ⟨_, rfl⟩

theorem busy_sound : MemorySound busy := fun _ _ _ _ h => by cases h

theorem busy_idle (g : RunGrant) : busy.engine ≠ .lane g := fun h => by cases h

theorem busy_not_custody (g : CustodyGrant) : busy.engine ≠ .custody g := fun h => by cases h

theorem busy_process : busy.custody.process = none := rfl

theorem busy_runs : ∀ l : LaneId, busy.lanes[l].run = none := by decide

theorem witness_RefsLawIsKept : RefsLaw busy where
  ids := by decide
  counts := fun _ => by decide
  masters := fun _ => by decide
  issuers := by decide
  transports := fun _ => by decide
  kinds := by decide
  released := fun h => by cases h
  process := fun h => by cases h
  target := fun _ _ h => by cases h

theorem witness_WarrantsKeepTheirTerms : WarrantLaw busy where
  records := by
    intro w hw
    obtain rfl : w = warrantOne := by simpa [busy, work, State.withPending] using hw
    exact ⟨by decide, by decide, fun _ => by decide, fun h => by cases h⟩
  ids := by decide
  serials := by decide
  fresh := by decide
  room := by decide
  entry := fun _ _ h => absurd h (busy_idle _)

theorem witness_GrantsStayWithinTheirBudget : BudgetLaw busy := ⟨by decide, fun _ h => absurd h (busy_idle _)⟩

/-- A part with no run, no command in process and nobody waiting keeps the law of service. -/
theorem quiet_service (s : State) (he : s.engine = .idle) (hw : s.requesters = 0) (hp : s.custody.process = none)
    (hr : ∀ l : LaneId, s.lanes[l].run = none) (hc : ∀ k : Link, (s.link k).CollectHolds) : ServiceLaw s where
  idle := fun _ => hw
  waiting := by
    intro l
    refine ⟨fun h => by simp [State.waits, hw] at h, fun ⟨⟨r, h, _⟩, _⟩ => ?_⟩
    rw [hr l] at h
    cases h
  custody := ⟨fun h => by simp [State.waits, hw] at h, fun h => by simp [hp] at h⟩
  custodyHolds := fun _ h => by simp [he] at h
  laneHolds := fun _ h => by simp [he] at h
  active := fun l r h => by rw [hr l] at h; cases h
  draining := fun l r h => by rw [hr l] at h; cases h
  ended := fun l r h => by rw [hr l] at h; cases h
  empty := fun h => by simp [hp] at h
  collects := hc
  runs := fun _ => hr
  inService := fun h => by simp [hp] at h

theorem witness_ServiceLawIsKept : ServiceLaw busy := by
  refine quiet_service busy rfl rfl rfl busy_runs fun k c r h => ?_
  have lanes : ∀ l : LaneId, (busy.link (.lane l)).collect = none := by decide
  cases k with
  | custody => cases h
  | lane l => rw [lanes l] at h; cases h

theorem witness_CountersAndAssembliesStayInRange : CounterLaw busy ∧ AssemblyLaw busy := by
  refine ⟨⟨?_, ?_, by decide, by decide, by decide, by decide, by decide, ⟨by decide, fun _ h => by cases h⟩⟩,
    ⟨?_, fun _ _ _ _ _ _ h => by cases h⟩⟩
  · intro k
    cases k with
    | custody => decide
    | lane l => revert l; decide
  · intro k
    cases k with
    | custody => decide
    | lane l => revert l; decide
  · intro i p h
    have : ∀ i : SlotId, busy.slots[i].assembly = none ∨ busy.slots[i].assembly = some part := by decide
    rcases this i with h' | h' <;> rw [h'] at h
    · cases h
    · obtain rfl := Option.some.inj h
      exact ⟨by decide, by decide, by decide, by decide⟩

theorem keyOne_pattern : storageKeyOne.pattern = verificationPattern storageKeyOne.key := by simp only [storageKeyOne]

theorem masterContents_check : masterContents.check = checkValue masterContents.key := by simp only [masterContents]

theorem transportContents_check : transportContents.check = checkValue transportContents.key := by
  simp only [transportContents]

theorem witness_StoredKeysStayTrue : StorageLaw busy ∧ CheckLaw busy := by
  have np : ∀ p, busy.custody.process ≠ some p := fun p h => by cases h
  refine ⟨⟨?_, ?_, ?_, fun _ h => absurd h (np _), fun _ h => absurd h (busy_not_custody _),
    fun _ _ h => absurd h (np _), fun _ _ h => absurd h (np _)⟩,
    ⟨?_, fun _ h => absurd h (busy_not_custody _), fun _ _ _ _ h => absurd h (np _), fun _ h => absurd h (np _),
      fun _ _ _ _ _ _ _ _ h => absurd h (np _)⟩⟩
  · intro k h
    obtain rfl := Option.some.inj h
    exact ⟨keyOne_pattern, by decide⟩
  · intro v h
    cases h
  · intro k h _
    obtain rfl := Option.some.inj h
    rfl
  · intro i a c h
    by_cases h4 : i = 4
    · subst h4
      rcases h with h | h
      · obtain ⟨-, rfl⟩ := SlotBody.active.inj (show SlotBody.active masterAttrs masterContents = _ from h)
        exact masterContents_check
      · cases h
    · by_cases h40 : i = 40
      · subst h40
        rcases h with h | h
        · obtain ⟨-, rfl⟩ := SlotBody.active.inj (show SlotBody.active transportAttrs transportContents = _ from h)
          exact transportContents_check
        · cases h
      · have : ∀ i : SlotId, i ≠ 4 → i ≠ 40 → busy.slots[i].body.byte = 0 ∨ busy.slots[i].body.byte = 1 := by decide
        rcases h with h | h <;> have := this i h4 h40 <;> rw [h] at this <;> simp [SlotBody.byte] at this

theorem witness_ModeLawIsKept : ModeLaw busy where
  operational := fun _ => rfl
  clear := fun h => by rcases h with h | h <;> cases h
  kept := fun h => by rcases h with h | h | h <;> cases h
  erasing := fun h => by cases h
  service := fun _ => rfl
  sweep := fun h => by cases h
  valid := fun _ => rfl
  supply := fun _ => by decide
  records := fun _ _ => rfl
  passes := fun _ => rfl
  clearing := fun h => by cases h
  process := fun _ h => by cases h

theorem witness_ChainLawIsKept : ChainLaw busy where
  chains := by
    intro l i key _ _
    have position : ∀ l : LaneId, busy.lanes[l].position = 0 := by decide
    have chain : ∀ l : LaneId, busy.lanes[l].chain = busy.lanes[l].initial := by decide
    exact ⟨0, position l, chain l⟩
  operation := fun _ _ _ _ _ h => absurd h (busy_idle _)

theorem witness_RepliesStayUntilCollected :
    let s := collecting work .custody (some (.deviceStatus [] true)) false
    ServiceLaw s ∧ (∃ t, exec (.laneClear 0) s = .next t) ∧ (s.link .custody).buffer = some (.deviceStatus [] true) := by
  refine ⟨quiet_service _ rfl rfl rfl busy_runs fun k c r h _ e => ?_, ⟨_, rfl⟩, rfl⟩
  have lanes : ∀ l : LaneId, (work.link (.lane l)).collect = none := by decide
  cases k with
  | custody =>
    cases h
    exact e
  | lane l =>
    have : (work.link (.lane l)).collect = some c := h
    rw [lanes l] at this
    cases this

theorem witness_ReportsHideTheKeys :
    let s := collecting work (.lane 0) (some (.laneStatus [])) false
    let other : State := { s with storage := { current := some { storageKeyOne with key := 12 }, previous := none } }
    s.hide = other.hide ∧ s ≠ other ∧ ServiceLaw s ∧
    .deviceStatus ∈ [Instr.slotStatus, .warrantList, .deviceStatus, .tamperAck] ∧
    ∃ k clocked cut, Instr.collectEnd (.lane 0) 4 0 = .collectEnd k clocked cut := by
  refine ⟨by simp only [State.hide, Option.map, StorageKey.hide, collecting, State.setLink, State.setLane, work,
      storageKeyOne], fun h => absurd (congrArg (fun s => s.storage.current.map fun k => k.key) h) (by decide),
    quiet_service _ rfl rfl rfl (by decide) fun k c r h _ e => ?_, by simp, ⟨_, _, _, rfl⟩⟩
  have lane : ∀ l : LaneId, l ≠ 0 → ((collecting work (.lane 0) (some (.laneStatus [])) false).link (.lane l)).collect = none := by
    decide
  cases k with
  | custody => cases h
  | lane l =>
    by_cases hl : l = 0
    · subst hl
      cases h
      exact e
    · rw [lane l hl] at h
      cases h

theorem witness_WarrantStatusHidesOtherWarrants :
    let other : Warrant := { warrantOne with serial := 1, id := 2, lanes := 1 }
    (work.warrants.Pairwise fun a b => a.id < b.id) ∧ ([warrantOne, other].Pairwise fun a b => a.id < b.id) ∧
    (work.warrants.filter fun w => inLaneSet w.lanes 3) = [warrantOne, other].filter fun w => inLaneSet w.lanes 3 := by
  decide

theorem witness_FormsAreReadAsWritten :
    (masterAttrs.kind.Valid ∧ 1 ≤ 65535 ∧ ((none : Option Block).isSome = true ↔ masterAttrs.length = .len32)) ∧
    (readToken (tokenFor masterAttrs 65535 none)).isSome = true ∧
    (1 ≤ cardForm.entries.length ∧ cardForm.entries.length ≤ 16 ∧ ∀ e ∈ cardForm.entries, e.digits.length ≤ 19) ∧
    (readRun cardBody).isSome = true :=
  ⟨⟨⟨by decide, by decide⟩, by decide, by decide⟩, by decide +kernel, by decide, by decide⟩

/-- The custody reply at the end of an export of slot 40, and the token it carries. -/
def exportReply : Option Reply :=
  (next (runCommands [.tokenExport, .tokenExportOperationEnd, .tokenExportOperationEnd]
    (asking work kindTokenExport [u8 (40 : SlotId).val]))).custody.link.buffer

def exportedToken : List Byte := match exportReply with | some (.ok _ _ (_ :: token)) => token | _ => []

theorem witness_ImportRestoresTheExportedKey :
    CustodyTakes (asking work kindTokenExport [u8 (40 : SlotId).val]) kindTokenExport [u8 (40 : SlotId).val] ∧
    work.mode = .operational ∧ work.engine = .idle ∧
    work.slots[(40 : SlotId)].body = .active transportAttrs transportContents ∧ transportAttrs.kind.Valid ∧
    transportContents.key.length = transportAttrs.length ∧ transportContents.check = checkValue transportContents.key ∧
    work.storage.current = some storageKeyOne ∧ storageKeyOne.Lawful ∧
    (exportReply = some (.ok kindTokenExport .none (u8 (40 : SlotId).val :: exportedToken)) ∧ exportedToken.length = 52 ∧
      CustodyTakes (asking work kindTokenImport (u8 (47 : SlotId).val :: exportedToken)) kindTokenImport
        (u8 (47 : SlotId).val :: exportedToken) ∧
      work.custody.position = .custody ∧ work.slots[(47 : SlotId)].body = .empty) :=
  ⟨asks _ _ _ rfl rfl rfl, rfl, rfl, rfl, trivial, rfl, transportContents_check, rfl,
    ⟨keyOne_pattern, by decide⟩, by decide +kernel, by decide +kernel, asks _ _ _ rfl rfl rfl, rfl, rfl⟩

theorem witness_PassesOverwriteTheKeyStore :
    let s : State := { work with mode := .erasing }
    (s.mode = .erasing ∧ s.pending = [] ∧ s.passes.written = 0 ∧ 150 ≤ 150) ∧
      150 ≤ ({ s with passes := { Passes.none with written := 150 } } : State).passes.written := by decide

end Sys2Proof.Tests
end

section
/-! SUPPORT. What a step can do to the tables, said once (R10, R20, R37, R58, R96, R122): the slots, the Storage Unit, the
warrants, the bindings and the custody command in process change in the few ways that `Change` lists, and every other part of
a step keeps them. The laws over these records are then proved for each of those ways. -/

namespace Sys2Proof.Machine

/-! ### What keeps the tables -/

/-- The slots, the Storage Unit, the warrants, the bindings and the command in process are as before, no custody grant is new,
and the device state stays in or out of service and of ERASING. -/
structure TablesKept (s t : State) : Prop where
  service : t.mode.inService = s.mode.inService
  erasing : t.mode = .erasing ↔ s.mode = .erasing
  slots : t.slots = s.slots
  storage : t.storage = s.storage
  warrants : t.warrants = s.warrants
  transports : ∀ l : LaneId, t.lanes[l].transport = s.lanes[l].transport
  process : t.custody.process = s.custody.process
  engine : ∀ g, t.engine = .custody g → s.engine = .custody g

theorem TablesKept.trans {s t u : State} (h : TablesKept s t) (k : TablesKept t u) : TablesKept s u where
  service := k.service.trans h.service
  erasing := k.erasing.trans h.erasing
  slots := k.slots.trans h.slots
  storage := k.storage.trans h.storage
  warrants := k.warrants.trans h.warrants
  transports l := (k.transports l).trans (h.transports l)
  process := k.process.trans h.process
  engine g hg := h.engine g (k.engine g hg)

/-- An update of other fields keeps the tables. -/
theorem TablesKept.of_fields {s t : State} (mode : t.mode = s.mode := by rfl) (slots : t.slots = s.slots := by rfl)
    (storage : t.storage = s.storage := by rfl) (warrants : t.warrants = s.warrants := by rfl)
    (lanes : t.lanes = s.lanes := by rfl) (process : t.custody.process = s.custody.process := by rfl)
    (engine : t.engine = s.engine := by rfl) : TablesKept s t where
  service := by rw [mode]
  erasing := by rw [mode]
  slots := slots
  storage := storage
  warrants := warrants
  transports l := by rw [lanes]
  process := process
  engine g hg := engine ▸ hg

theorem TablesKept.refl (s : State) : TablesKept s s := .of_fields

/-- A new device state of the same standing keeps the tables. -/
theorem TablesKept.setMode (s : State) (m : Mode) (service : m.inService = s.mode.inService)
    (erasing : m = .erasing ↔ s.mode = .erasing) : TablesKept s { s with mode := m } where
  service := service
  erasing := erasing
  slots := rfl
  storage := rfl
  warrants := rfl
  transports _ := rfl
  process := rfl
  engine _ := id

/-- The engine in other hands than custody's keeps the tables. -/
theorem TablesKept.setEngine (s : State) (e : Engine) (h : ∀ g, e ≠ .custody g) : TablesKept s { s with engine := e } where
  service := rfl
  erasing := .rfl
  slots := rfl
  storage := rfl
  warrants := rfl
  transports _ := rfl
  process := rfl
  engine g hg := absurd hg (h g)

/-- The binding of a lane after another lane context is set in its place. -/
theorem State.setLane_transport (s : State) (l m : LaneId) (x : Lane) :
    (s.setLane l x).lanes[m].transport = if l = m then x.transport else s.lanes[m].transport := by
  by_cases h : l = m
  · subst h; rw [if_pos rfl, State.setLane_same]
  · rw [if_neg h, State.setLane_other _ _ _ _ h]

theorem kept_setLane {s : State} {l : LaneId} {x : Lane} (h : x.transport = s.lanes[l].transport := by rfl) :
    TablesKept s (s.setLane l x) where
  service := rfl
  erasing := .rfl
  slots := rfl
  storage := rfl
  warrants := rfl
  transports m := by
    rw [State.setLane_transport]
    split
    · rename_i e; rw [h, e]
    · rfl
  process := rfl
  engine _ := id

theorem kept_setLink (s : State) (k : Link) (x : LinkState) : TablesKept s (s.setLink k x) := by
  cases k with
  | custody => exact .of_fields
  | lane l => exact kept_setLane

theorem kept_reply (s : State) (k : Link) (r : Reply) : TablesKept s (s.reply k r) := kept_setLink s k _

theorem kept_popFrame (s : State) (k : Link) : TablesKept s (s.popFrame k) := kept_setLink s k _

theorem kept_frameError (s : State) (k : Link) : TablesKept s (s.frameError k) := kept_setLink s k _

theorem kept_withdraw (s : State) (r : Requester) : TablesKept s (s.withdraw r) := .of_fields

theorem kept_setPointer (s : State) (l : LaneId) : TablesKept s (s.setPointer l) := by
  unfold State.setPointer
  split <;> exact .of_fields

theorem kept_setLane_engine {s : State} {l : LaneId} {x : Lane} {e : Engine} (out : ∀ g, e ≠ .custody g)
    (h : x.transport = s.lanes[l].transport := by rfl) : TablesKept s { s.setLane l x with engine := e } :=
  (kept_setLane h).trans (.setEngine _ e out)

/-- A lane grant that begins keeps the tables. -/
theorem kept_beginRunGrant (s : State) (l : LaneId) : TablesKept s (s.beginRunGrant l) := by
  unfold State.beginRunGrant
  dsimp only
  split
  · exact kept_withdraw s _
  · refine ((kept_withdraw s (.lane l)).trans (kept_setPointer _ l)).trans ?_
    exact kept_setLane_engine fun _ => by simp

theorem kept_runStop (s : State) (l : LaneId) : TablesKept s (s.runStop l) := by
  unfold State.runStop
  dsimp only
  split
  · exact .refl s
  · split
    · refine .trans ?_ (kept_withdraw _ (.lane l))
      exact kept_setLane
    · exact kept_setLane
    · split
      · exact .refl s
      · exact kept_setLane
    · exact .refl s

theorem Lane.moveOn_transport (x : Lane) : x.moveOn.transport = x.transport := by
  unfold Lane.moveOn
  split
  · rfl
  · split
    · split <;> rfl
    · split <;> rfl
    · rfl
    · rfl

theorem kept_notice (s : State) : TablesKept s s.notice := by
  unfold State.notice
  split
  · exact kept_reply s _ _
  · exact .refl s

/-! ### The ways the tables change -/

/-- The custody command in process replaced. -/
def State.inProcess (s : State) (p : Option Process) : State := { s with custody := { s.custody with process := p } }

/-- What holds of a final check and of a roll from their beginning on (R25, R42). -/
def Process.Admitted (s : State) : Process → Prop
  | .finalCheck i => ∃ a p, s.slots[i].assemblyOf = some (a, p) ∧ p.checking = true
  | .storageRoll _ => ∀ k, s.storage.current = some k → k.generation < maxGeneration
  | .componentCheck _ _ _ _ _ _ | .initialise _ | .tokenExport _ _ _ _ _ | .tokenImport _ _ _ _ _ _ => True

/-- The change to the part is that some slots nothing uses are EMPTY. -/
structure Blanked (s t : State) : Prop where
  rest : t = { s with slots := t.slots }
  slots : ∀ i : SlotId, t.slots[i] = s.slots[i] ∨
    t.slots[i] = Slot.blank i ∧ (s.slots[i].isActive = false ∨ s.slots[i].refs = 0)

/-- A change to a warrant record that its references do not see (R62 to R64, R69). -/
structure Warrant.SameUse (w v : Warrant) : Prop where
  id : v.id = w.id
  issuer : v.issuer = w.issuer
  master : v.master = w.master
  live : v.live = w.live

/-- The ways a step changes the slots, the Storage Unit, the warrants, the bindings or the command in process. A step makes
some of these changes one after another. -/
inductive Change : State → State → Prop
  | frame {s t} (h : TablesKept s t) : Change s t
  /-- Custody receives the engine, and the key of its operation is read (R120, R125). -/
  | grant (s) : Change s s.beginCustodyGrant
  /-- A custody command is in process from now on (R27, R52). -/
  | begins {s} (p : Process) (free : s.custody.process = none) (service : s.mode.inService = true) (ok : p.Admitted s)
      (target : ∀ i, p.target = some i → s.slots[i].isActive = false) : Change s (s.inProcess (some p))
  /-- The command in process goes on to its next operation (R122). -/
  | goesOn {s} (g : CustodyGrant) (p q : Process) (now : s.custody.process = some q) (ok : p.Admitted s)
      (target : ∀ i, p.target = some i → s.slots[i].isActive = false ∨ q.target = some i) : Change s (s.nextOp g p)
  /-- A change to RUN has emptied the slot of the component in process (R33). -/
  | abandons {s} (i c v k l e e') (now : s.custody.process = some (.componentCheck i c v k l e)) :
      Change s (s.inProcess (some (.componentCheck i c v k l e')))
  /-- The command in process ends, with the engine out of custody's hands (R33, R122). -/
  | finishes (s) (e : Engine) (out : ∀ g, e ≠ .custody g) : Change s { s.inProcess none with engine := e }
  /-- A component is combined (R24, R25). -/
  | combines {s} (i a p p') (part : s.slots[i].assemblyOf = some (a, p))
      (free : ∀ j, s.custody.process ≠ some (.finalCheck j)) :
      Change s (s.setAssembly i p')
  /-- A final check finds the expected check value, and the slot becomes ACTIVE (R26). -/
  | passes {s} (g op i a p c) (engine : s.engine = .custody g) (now : s.custody.process = some (.finalCheck i))
      (op_eq : g.op = some op) (part : s.slots[i].assemblyOf = some (a, p)) (key : c.key = p.accumulator)
      (check : c.check = firstThree op.result) :
      Change s { (s.writeSlot i (.active a c) 0 none).inProcess none with engine := .idle }
  /-- An import finds the token's check value, and the slot becomes ACTIVE (R50). -/
  | imports {s} (g op i t b n k1 k2 a c) (engine : s.engine = .custody g)
      (now : s.custody.process = some (.tokenImport i t b n k1 k2)) (op_eq : g.op = some op)
      (key : recovered t k1 k2 = some c.key) (check : c.check = firstThree op.result) :
      Change s { (s.writeSlot i (.active a c) 0 none).inProcess none with engine := .idle }
  /-- The first storage key is written, and the part becomes OPERATIONAL (R41). -/
  | initialises {s} (g op d) (engine : s.engine = .custody g) (now : s.custody.process = some (.initialise d))
      (op_eq : g.op = some op) :
      Change s {
        ({ s with storage := ⟨some (storageKey d 1 op.result), none⟩, mode := .operational } : State).inProcess none with
        engine := .idle }
  /-- The storage key is rolled (R42). -/
  | rolls {s} (g op d old) (engine : s.engine = .custody g) (now : s.custody.process = some (.storageRoll d))
      (op_eq : g.op = some op) (current : s.storage.current = some old) :
      Change s {
        ({ s with storage := ⟨some (storageKey d (old.generation + 1) op.result), some old⟩ } : State).inProcess none with
        engine := .idle }
  /-- An EMPTY slot is reserved (R21). -/
  | assembles {s} (i a p) (free : s.custody.process = none) (empty : s.slots[i].body = .empty) :
      Change s (s.writeSlot i (.assembling a) 0 (some p))
  /-- Slots that nothing uses become EMPTY (R17, R26, R28, R32). -/
  | blanks {s t} (h : Blanked s t) : Change s t
  /-- A warrant is opened (R61). -/
  | opens {s} (w : Warrant) (service : s.mode.inService = true) (live : w.live = true) (ok : s.openRefusal w = none) :
      Change s (s.addWarrant w)
  /-- A warrant is held, released or extended (R62 to R64). -/
  | revises {s} (w : Warrant) (f : Warrant → Warrant) (mem : w ∈ s.warrants) (same : w.SameUse (f w)) :
      Change s (s.setWarrant w.id f)
  /-- A card is debited (R69). -/
  | debits (s) (tie : Nat) : Change s (s.debitTied tie)
  /-- A warrant is closed (R65). -/
  | closes {s} (w : Warrant) (r : CloseReason) (mem : w ∈ s.warrants) (live : w.live = true) :
      Change s ((s.setWarrant w.id fun x => { x with state := .closed r }).lowerRefs w.master)
  /-- A CLOSED warrant is purged (R66). -/
  | purges {s} (w : Warrant) (mem : w ∈ s.warrants) (closed : w.live = false) : Change s (s.removeWarrant w.id)
  /-- A lane is bound (R98). -/
  | binds {s} (l : LaneId) (i : SlotId) (x : Lane) (service : s.mode.inService = true)
      (ok : s.slots[i].transportRefusal = none) (now : x.transport = some i) :
      Change s ((s.moveRefs s.lanes[l].transport i).setLane l x)
  /-- A lane is unbound (R99). -/
  | unbinds {s} (l : LaneId) (i : SlotId) (x : Lane) (before : s.lanes[l].transport = some i) (now : x.transport = none) :
      Change s ((s.lowerRefs i).setLane l x)
  /-- A slot's key is used once more (R9). -/
  | uses (s) (i : SlotId) : Change s (s.raiseUses i)
  /-- An erase begins (R141). -/
  | erases (s) : Change s s.eraseBegin
  /-- The passes make a write (R142). -/
  | overwrites {s} (h : s.mode = .erasing) : Change s s.overwriteNext
  /-- An erase completes (R142). -/
  | completes {s} (h : s.mode = .erasing) :
      Change s { s with slots := Vector.ofFn Slot.blank, storage := { current := none, previous := none }, mode := .locked }
  /-- A sweep is cut off (R154). -/
  | cuts {s} (n : Nat) (records : BitVec 256) (h : s.mode = .starting .sweep) :
      Change s ((s.sweepFirst n).partly (s.sweepFirst (n + 1)) records)
  /-- The volatile state is lost, on a stop or at the entry to STARTING (R150, R158). -/
  | restarts (s) (m : Mode) (service : m.inService = false) (erasing : m ≠ .erasing) :
      Change s { s.volatileStart with mode := m }
  /-- A battery-loss clearing ends (R151, R155). -/
  | clears {s} (m : Mode) (h : s.mode = .starting .clearing) : Change s { s.clearDomain with mode := m }
  /-- The sweep ends (R154, R155). -/
  | sweeps {s} (m : Mode) (h : s.mode = .starting .sweep) (erasing : m ≠ .erasing) : Change s { s.sweep with mode := m }

/-- Some of these changes, one after another. -/
abbrev Changes : State → State → Prop := Relation.ReflTransGen Change

theorem Change.one {s t : State} (h : Change s t) : Changes s t := .single h

theorem TablesKept.changes {s t : State} (h : TablesKept s t) : Changes s t := (Change.frame h).one

/-! ### The shared operations -/

theorem changes_choose (s : State) : Changes s s.choose := by
  obtain ⟨_, h⟩ | ⟨_, h⟩ | ⟨l, _, h⟩ := s.choose_cases
  · rw [h]
  · rw [h]; exact (Change.grant s).one
  · rw [h]; exact (kept_beginRunGrant s l).changes

theorem changes_join (s : State) (r : Requester) : Changes s (s.join r) := by
  have hk : TablesKept s { s with requesters := s.requesters ||| r.bit } := .of_fields
  obtain ⟨_, h⟩ | ⟨_, h⟩ := s.join_cases r
  · rw [h]; exact hk.changes.trans (changes_choose _)
  · rw [h]; exact hk.changes

theorem changes_release (s : State) : Changes s s.release :=
  (TablesKept.setEngine s .idle fun _ => by simp).changes.trans (changes_choose _)

theorem changes_answerRun (s : State) (l : LaneId) (body : List Byte) : Changes s (s.answerRun l body) := by
  unfold State.answerRun
  split
  · exact (kept_reply s _ _).changes
  · refine .trans ?_ (changes_join _ _)
    exact (kept_setLane).changes

theorem kept_answerLaneStatus (s : State) (l : LaneId) (body : List Byte) : TablesKept s (s.answerLaneStatus l body) := by
  unfold State.answerLaneStatus
  split <;> exact kept_reply s _ _

theorem kept_answerWarrantStatus (s : State) (l : LaneId) (body : List Byte) :
    TablesKept s (s.answerWarrantStatus l body) := by
  unfold State.answerWarrantStatus
  split
  · exact kept_reply s _ _
  · split
    · exact kept_reply s _ _
    · split
      · exact kept_reply s _ _
      · split <;> exact kept_reply s _ _

theorem changes_serveLane (s : State) (l : LaneId) (f : Frame) : Changes s (s.serveLane l f) := by
  refine ((kept_popFrame s (.lane l)).trans (kept_withdraw _ (.lane l))).changes.trans ?_
  unfold State.serveLane
  dsimp only
  split
  · exact changes_answerRun _ l f.body
  · split
    · exact (kept_answerLaneStatus _ l f.body).changes
    · split
      · exact (kept_answerWarrantStatus _ l f.body).changes
      · exact (kept_reply _ _ _).changes

theorem changes_considerHead (s : State) (l : LaneId) : Changes s (s.considerHead l) := by
  have hr : Changes s (match s.lanes[l].run with
      | some r => if r.state = .queued then s.join (.lane l) else s
      | none => s) := by
    split
    · split
      · exact changes_join s _
      · exact .refl
    · exact .refl
  unfold State.considerHead
  dsimp only
  split
  · exact hr
  · split
    · exact changes_serveLane s l _
    · exact hr

theorem changes_handOn (s : State) (k : Link) (r : Reply) : Changes s (s.handOn k r) := by
  cases k with
  | custody =>
    unfold State.handOn
    dsimp only
    split
    · exact (TablesKept.of_fields).changes
    · exact .refl
  | lane l =>
    unfold State.handOn
    refine Relation.ReflTransGen.trans ?_ (changes_considerHead _ l)
    split
    · exact (kept_setLane (Lane.moveOn_transport _)).changes
    · exact .refl

theorem changes_endWalk (s : State) (g : RunGrant) (r : Run) (results : List EntryResult) (next : Nat)
    (reason : Option EndReason) : Changes s (s.endWalk g r results next reason) := by
  refine .trans ?_ (changes_release _)
  exact (kept_setLane).changes

theorem changes_walkOn (s : State) (g : RunGrant) : Changes s (s.walkOn g) := by
  unfold State.walkOn
  split
  · exact .refl
  · dsimp only
    split
    · exact (kept_setLane_engine fun _ => by simp).changes
    · split
      · exact (changes_endWalk _ _ _ _ _ _).trans (kept_runStop _ _).changes
      · exact changes_endWalk _ _ _ _ _ _
    · exact changes_endWalk _ _ _ _ _ _

theorem changes_raiseUsesOf (s : State) (i : Option SlotId) : Changes s (s.raiseUsesOf i) := by
  cases i with
  | none => exact .refl
  | some i => exact (Change.uses s i).one

theorem kept_advanceChain (s : State) (l : LaneId) (o : Block) : TablesKept s (s.advanceChain l o) := kept_setLane

theorem changes_completeEntry (s : State) (g : RunGrant) (tie : Nat) (o : Block) :
    Changes s (s.completeEntry g tie o) := by
  unfold State.completeEntry
  dsimp only
  refine .trans ?_ (kept_advanceChain _ g.lane o).changes
  exact ((Change.debits s tie).one.trans (changes_raiseUsesOf _ g.master)).trans (changes_raiseUsesOf _ _)

theorem changes_orderErase (s : State) : Changes s s.orderErase := by
  unfold State.orderErase
  split
  · exact (Change.erases s).one
  · exact (Change.erases s).one
  · exact (Change.erases s).one
  · exact .refl
  · exact (TablesKept.of_fields).changes
  · exact (TablesKept.of_fields).changes

theorem changes_tamperEvent (s : State) (x : Source) (r : Response) : Changes s (s.tamperEvent x r) := by
  have hk : TablesKept s { s with tamper := s.tamper.record x } := .of_fields
  unfold State.tamperEvent
  dsimp only
  split
  · exact (hk.trans (kept_notice _)).changes
  · exact hk.changes.trans (changes_orderErase _)

theorem changes_sampleInput (s : State) (i : InputId) (v : Level) : Changes s (s.sampleInput i v) := by
  unfold State.sampleInput
  dsimp only
  split
  · exact (TablesKept.of_fields).changes.trans (changes_tamperEvent _ _ _)
  · exact (TablesKept.of_fields).changes

/-- Samples taken one after another make what each of them makes. -/
theorem changes_foldl {α : Type} {f : State → α → State} (h : ∀ s v, Changes s (f s v)) (s : State) (vs : List α) :
    Changes s (vs.foldl f s) := by
  induction vs generalizing s with
  | nil => exact .refl
  | cons v vs ih => exact (h s v).trans (ih _)

/-- A slot with an assembly is ASSEMBLING (R6). -/
theorem Slot.isActive_of_assemblyOf {sl : Slot} {x : Attributes × Assembly} (h : sl.assemblyOf = some x) :
    sl.isActive = false := by
  unfold Slot.assemblyOf at h
  split at h
  · rename_i hb _; simp [Slot.isActive, hb]
  · simp at h

theorem Slot.isActive_of_abandoned {sl : Slot} (h : sl.abandoned = true) : sl.isActive = false := by
  unfold Slot.abandoned at h
  split at h
  · simp at h
  · rename_i ho; exact Slot.isActive_of_assemblyOf ho

theorem changes_abandonAssemblies (s : State) : Changes s s.abandonAssemblies := by
  refine (Change.blanks ⟨rfl, fun i => ?_⟩).one
  have hi : s.abandonAssemblies.slots[i] = if s.slots[i].abandoned then Slot.blank i else s.slots[i] := by
    simp [State.abandonAssemblies]
  rw [hi]
  split
  · rename_i h; exact .inr ⟨rfl, .inl (Slot.isActive_of_abandoned h)⟩
  · exact .inl rfl

theorem changes_abandonComponent (s : State) : Changes s s.abandonComponent := by
  unfold State.abandonComponent
  split
  · rename_i i c v k l e hp
    split
    · split
      · exact (Change.abandons i c v k l e true hp).one
      all_goals
        rename_i he
        refine (Change.finishes s s.engine fun g => by rw [he]; simp).one.trans ?_
        exact ((kept_withdraw _ .custody).trans (kept_reply _ _ _)).changes
    · exact .refl
  · exact .refl

theorem changes_sampleSwitch (s : State) (pin : Level) : Changes s (s.sampleSwitch pin) := by
  unfold State.sampleSwitch
  split
  dsimp only
  split
  · rename_i position count _ _ _
    have hk : TablesKept s { s with custody := { s.custody with position := position, count := count } } := .of_fields
    exact (hk.changes.trans (changes_abandonComponent _)).trans (changes_abandonAssemblies _)
  · exact (TablesKept.of_fields).changes

theorem changes_startProcess {s : State} {p : Process} (free : s.custody.process = none)
    (service : s.mode.inService = true) (ok : p.Admitted s)
    (target : ∀ i, p.target = some i → s.slots[i].isActive = false) : Changes s (s.startProcess p) :=
  (Change.begins p free service ok target).one.trans (changes_join _ _)

theorem changes_reply_choose (s : State) (r : Reply) : Changes s (s.reply .custody r).choose :=
  (kept_reply s _ r).changes.trans (changes_choose _)

theorem changes_endProcess (s : State) (r : Reply) : Changes s (s.endProcess r) :=
  (Change.finishes s .idle fun _ => by simp).one.trans (changes_reply_choose _ r)

/-! ### The outcome of a command -/

/-- A next state, if there is one, comes of changes. -/
def Leads (s : State) (r : Res) : Prop := ∀ t, r = .next t → Changes s t

theorem Leads.next {s t : State} (h : Changes s t) : Leads s (.next t) := fun _ e => by cases e; exact h

theorem Leads.fault (s : State) (f : Fault) : Leads s (.fault f) := fun _ e => by cases e

theorem Leads.kept {s t : State} (h : TablesKept s t) : Leads s (.next t) := .next h.changes

theorem Leads.same (s : State) : Leads s (.next s) := .next .refl

theorem Leads.after {s t : State} {r : Res} (h : Changes s t) (k : Leads t r) : Leads s r := fun u hu => h.trans (k u hu)

theorem Leads.refuse (s : State) (kind : Byte) (c : Code) : Leads s (.next (s.custodyRefuse kind c)) :=
  .kept (kept_reply s _ _)

/-- No custody command is in process, and the part is in service. -/
structure State.Free (s : State) : Prop where
  process : s.custody.process = none
  service : s.mode.inService = true

theorem leads_takeCustody {s : State} {kind : Byte} {act : List Byte → State → Res}
    (h : ∀ body u, u.Free → Leads u (act body u)) : Leads s (s.takeCustody kind act) := by
  obtain e | ⟨f, rest, _, hr, _, e⟩ := s.takeCustody_cases kind act
  · rw [e]; exact .same s
  · rw [e]
    simp only [State.custodyReady, Bool.and_eq_true, Option.isNone_iff_eq_none] at hr
    obtain ⟨⟨hs, _⟩, hp⟩ := hr
    exact .after (kept_popFrame s .custody).changes (h _ _ ⟨by simpa using hp, by simpa using hs⟩)

theorem leads_readCustody {α : Type} {s : State} {kind : Byte} {form : Option α} {act : α → State → Res}
    (h : ∀ x, Leads s (act x s)) : Leads s (s.readCustody kind form act) := by
  obtain ⟨_, e⟩ | ⟨x, _, e⟩ := s.readCustody_cases kind form act
  · rw [e]; exact .refuse s _ _
  · rw [e]; exact h x

theorem leads_gated {s : State} {kind : Byte} {r : GateRow} {act : State → Res} (h : Leads s (act s)) :
    Leads s (s.gated kind r act) := by
  obtain ⟨c, _, e⟩ | ⟨_, e⟩ := s.gated_cases kind r act
  · rw [e]; exact .refuse s _ _
  · rw [e]; exact h

theorem leads_gatedSlot {s : State} {kind : Byte} {r : GateRow} {slot : Byte} {act : SlotId → State → Res}
    (h : ∀ i, Leads s (act i s)) : Leads s (s.gatedSlot kind r slot act) := by
  obtain ⟨c, e⟩ | ⟨i, _, _, e⟩ := s.gatedSlot_cases kind r slot act
  · rw [e]; exact .refuse s _ _
  · rw [e]; exact h i

theorem leads_served {s : State} {kind : Byte} {act : State → Res} (h : Leads s (act s)) :
    Leads s (s.served kind act) := by
  obtain ⟨c, e⟩ | ⟨_, e⟩ := s.served_cases kind act
  · rw [e]; exact .refuse s _ _
  · rw [e]; exact h

theorem leads_withWarrant {s : State} {kind id : Byte} {act : Warrant → State → Res}
    (h : ∀ w ∈ s.warrants, Leads s (act w s)) : Leads s (s.withWarrant kind id act) := by
  obtain ⟨c, e⟩ | ⟨w, _, hw, e⟩ := s.withWarrant_cases kind id act
  · rw [e]; exact .refuse s _ _
  · rw [e]; exact h w (List.mem_of_find?_eq_some hw)

theorem leads_takeLane (s : State) (l : LaneId) (kinds : Byte → Bool) : Leads s (s.takeLane l kinds) := by
  obtain e | ⟨f, _, _, _, _, e⟩ := s.takeLane_cases l kinds
  · rw [e]; exact .same s
  · rw [e]; exact .next (changes_serveLane s l f)

end Sys2Proof.Machine
end

section
/-! SUPPORT. Every command, and so every step, makes its next state by the changes that `Change` lists. -/

namespace Sys2Proof.Machine

/-! ### The custody commands -/

theorem changes_nextOp {s : State} {g : CustodyGrant} {p q : Process} (now : s.custody.process = some q)
    (ok : p.Admitted s) (target : ∀ i, p.target = some i → s.slots[i].isActive = false ∨ q.target = some i) :
    Changes s (s.nextOp g p) := (Change.goesOn g p q now ok target).one

theorem leads_slotStatus (s : State) : Leads s (execSlotStatus s) :=
  leads_takeCustody fun _ u _ => leads_readCustody fun _ => leads_gatedSlot fun _ => .kept (kept_reply u _ _)

/-- One slot that nothing uses becomes EMPTY. -/
theorem blanked_emptySlot {s : State} {i : SlotId} (h : s.slots[i].isActive = false ∨ s.slots[i].refs = 0) :
    Blanked s (s.emptySlot i) where
  rest := rfl
  slots j := by
    by_cases e : i = j
    · subst e; exact .inr ⟨State.emptySlot_same s i, h⟩
    · exact .inl (State.emptySlot_other s i j e)

theorem leads_slotErase (s : State) : Leads s (execSlotErase s) := by
  refine leads_takeCustody fun _ u _ => leads_readCustody fun _ => leads_gatedSlot fun i => ?_
  split
  · exact .refuse u _ _
  · split
    · exact .refuse u _ _
    · rename_i hu
      simp only [Bool.or_eq_true, decide_eq_true_eq, not_or, Nat.not_lt, Nat.le_zero] at hu
      exact .next ((Change.blanks (blanked_emptySlot (.inr hu.1))).one.trans (kept_reply _ _ _).changes)

theorem leads_assemble (s : State) : Leads s (execAssemble s) := by
  refine leads_takeCustody fun _ u hu => leads_readCustody fun f => leads_gatedSlot fun i => ?_
  split
  · exact .refuse u _ _
  · rename_i he
    split
    · exact .refuse u _ _
    · rename_i a _
      exact .next ((Change.assembles i a _ hu.process (not_not.1 he)).one.trans (kept_reply _ _ _).changes)

/-- The record of a slot after its assembly part is changed. -/
theorem State.setAssembly_same (s : State) (i : SlotId) (p : Assembly) :
    (s.setAssembly i p).slots[i] = { s.slots[i] with assembly := some p } := by simp [State.setAssembly]

theorem State.setAssembly_other (s : State) (i j : SlotId) (p : Assembly) (h : i ≠ j) :
    (s.setAssembly i p).slots[j] = s.slots[j] := by
  have : i.val ≠ j.val := fun e => h (Fin.ext e)
  simp [State.setAssembly, this]

/-- A slot with an assembly has the new part as its assembly. -/
theorem State.assemblyOf_setAssembly {s : State} {i : SlotId} {a : Attributes} {p : Assembly}
    (h : s.slots[i].assemblyOf = some (a, p)) (p' : Assembly) :
    (s.setAssembly i p').slots[i].assemblyOf = some (a, p') := by
  rw [State.setAssembly_same]
  unfold Slot.assemblyOf at h ⊢
  split at h
  · rename_i hb _
    obtain ⟨rfl, _⟩ := Prod.mk.inj (Option.some.inj h)
    simp only [hb]
  · simp at h

/-- With the list full the final check may follow a combined component (R25). -/
theorem admitted_finalCheck {s : State} {i : SlotId} {a : Attributes} {p : Assembly} (c : Nat) (v : KeyValue)
    (h : s.slots[i].assemblyOf = some (a, p)) (last : p.lastDue = true) :
    (Process.finalCheck i).Admitted (s.setAssembly i (p.combine c v)) :=
  ⟨a, p.combine c v, State.assemblyOf_setAssembly h _, last⟩

theorem changes_acceptComponent {s : State} {i : SlotId} {a : Attributes} {p : Assembly} (f : ComponentForm) (hs : s.Free)
    (h : s.slots[i].assemblyOf = some (a, p)) : Changes s (s.acceptComponent i p f) := by
  unfold State.acceptComponent
  dsimp only
  split
  · exact changes_startProcess hs.process hs.service trivial nofun
  · refine (Change.combines i a p (p.combine f.custodian.toNat f.value) h fun j => by rw [hs.process]; simp).one.trans ?_
    split
    · rename_i hl
      refine changes_startProcess hs.process hs.service (admitted_finalCheck _ _ h hl) fun j hj => ?_
      obtain rfl := Option.some.inj hj
      exact Slot.isActive_of_assemblyOf (State.assemblyOf_setAssembly h _)
    · exact (kept_reply _ _ _).changes

theorem leads_component (s : State) : Leads s (execComponent s) := by
  refine leads_takeCustody fun _ u hu => leads_readCustody fun f => leads_gatedSlot fun i => ?_
  split
  · exact .refuse u _ _
  · rename_i ho; exact .next (changes_acceptComponent f hu ho)
  · exact .same u

theorem leads_componentCheckEnd (s : State) : Leads s (execComponentCheckEnd s) := by
  unfold execComponentCheckEnd
  split
  · rename_i g i c v k l e hg hp
    split
    · exact .fault s _
    · dsimp only
      split
      · exact .next (changes_endProcess s _)
      · split
        · exact .next (changes_endProcess s _)
        · split
          · exact .fault s _
          · rename_i a p ho
            have hc : Changes s (s.setAssembly i (p.combine c v)) :=
              (Change.combines i a p _ ho fun j => by rw [hp]; simp).one
            split
            · rename_i hl
              refine .next (hc.trans (changes_nextOp hp (admitted_finalCheck _ _ ho hl) fun j hj => ?_))
              obtain rfl := Option.some.inj hj
              exact .inl (Slot.isActive_of_assemblyOf (State.assemblyOf_setAssembly ho _))
            · exact .next (hc.trans (changes_endProcess _ _))
  · exact .same s

theorem leads_finalCheckEnd (s : State) : Leads s (execFinalCheckEnd s) := by
  unfold execFinalCheckEnd
  split
  · rename_i g i hg hp
    split
    · exact .fault s _
    · exact .fault s _
    · rename_i op a p hop ho
      dsimp only
      split
      · exact .next ((Change.passes g op i a p _ hg hp hop ho rfl rfl).one.trans (changes_reply_choose _ _))
      · exact .next ((Change.blanks (blanked_emptySlot (.inl (Slot.isActive_of_assemblyOf ho)))).one.trans
          (changes_endProcess _ _))
  · exact .same s

theorem leads_assemblyCancel (s : State) : Leads s (execAssemblyCancel s) := by
  refine leads_takeCustody fun _ u _ => leads_readCustody fun _ => leads_gatedSlot fun i => ?_
  split
  · exact .refuse u _ _
  · rename_i ho
    split
    · exact .refuse u _ _
    · exact .next ((Change.blanks (blanked_emptySlot (.inl (Slot.isActive_of_assemblyOf ho)))).one.trans
        (kept_reply _ _ _).changes)

theorem leads_custodySwitchChange (samples : List Level) (s : State) : Leads s (execCustodySwitchChange samples s) := by
  unfold execCustodySwitchChange
  split
  · exact .next (changes_foldl changes_sampleSwitch s samples)
  · exact .same s

/-- A drawn storage key moves the Random Source on and nothing else (R40). -/
theorem kept_draw (s : State) : TablesKept s s.draw.2 := .of_fields

theorem leads_initialise (s : State) : Leads s (execInitialise s) := by
  refine leads_takeCustody fun _ u hu => leads_readCustody fun _ => leads_gated ?_
  refine .next ((kept_draw u).changes.trans (changes_startProcess ?_ ?_ trivial nofun))
  · exact hu.process
  · exact hu.service

theorem leads_initialisePatternEnd (s : State) : Leads s (execInitialisePatternEnd s) := by
  unfold execInitialisePatternEnd
  split
  · rename_i g d hg hp
    split
    · exact .fault s _
    · rename_i op hop
      exact .next ((Change.initialises g op d hg hp hop).one.trans (changes_reply_choose _ _))
  · exact .same s

theorem leads_storageRoll (s : State) : Leads s (execStorageRoll s) := by
  refine leads_takeCustody fun _ u hu => leads_readCustody fun _ => leads_gated ?_
  split
  · exact .fault u _
  · rename_i k hk
    split
    · exact .refuse u _ _
    · rename_i hm
      refine .next ((kept_draw u).changes.trans (changes_startProcess ?_ ?_ (fun k' hk' => ?_) nofun))
      · exact hu.process
      · exact hu.service
      · obtain rfl := Option.some.inj (hk.symm.trans hk')
        omega

theorem leads_storageRollPatternEnd (s : State) : Leads s (execStorageRollPatternEnd s) := by
  unfold execStorageRollPatternEnd
  split
  · rename_i g d hg hp
    split
    · exact .fault s _
    · exact .fault s _
    · rename_i op old hop hc
      exact .next ((Change.rolls g op d old hg hp hop hc).one.trans (changes_reply_choose _ _))
  · exact .same s

theorem leads_tokenExport (s : State) : Leads s (execTokenExport s) := by
  refine leads_takeCustody fun _ u hu => leads_readCustody fun _ => leads_gatedSlot fun i => ?_
  split
  · exact .refuse u _ _
  · exact .fault u _
  · exact .next (changes_startProcess hu.process hu.service trivial nofun)

theorem leads_tokenExportOperationEnd (s : State) : Leads s (execTokenExportOperationEnd s) := by
  unfold execTokenExportOperationEnd
  split
  · rename_i g i a h c w1 hg hp
    split
    · exact .fault s _
    · split
      · exact .next (changes_endProcess s _)
      · exact .next (changes_nextOp hp trivial fun _ hj => .inr hj)
      · exact .next (changes_endProcess s _)
  · exact .same s

/-- An EMPTY slot is not ACTIVE. -/
theorem Slot.isActive_of_empty {sl : Slot} (h : sl.body = .empty) : sl.isActive = false := by
  simp [Slot.isActive, h]

theorem leads_tokenImport (s : State) : Leads s (execTokenImport s) := by
  refine leads_takeCustody fun _ u hu => leads_readCustody fun f => leads_gatedSlot fun i => ?_
  split
  · exact .refuse u _ _
  · rename_i he
    split
    · exact .refuse u _ _
    · split
      · exact .kept (kept_reply u _ _)
      · refine .next (changes_startProcess hu.process hu.service trivial fun j hj => ?_)
        obtain rfl := Option.some.inj hj
        exact Slot.isActive_of_empty (not_not.1 he)

theorem changes_endImport {s : State} {g : CustodyGrant} {op : BlockOp} {i : SlotId} {t : Token} {b : Bool} {n : Nat}
    {k1 k2 : Option Block} {key : KeyValue} (hg : s.engine = .custody g)
    (hp : s.custody.process = some (.tokenImport i t b n k1 k2)) (hop : g.op = some op)
    (hk : recovered t k1 k2 = some key) : Changes s (s.endImport i t b n key (firstThree op.result)) := by
  unfold State.endImport
  split
  · rename_i hc
    exact (Change.imports g op i t b n k1 k2 t.attrs ⟨key, t.check, .imported, 0⟩ hg hp hop hk hc.symm).one.trans
      (changes_reply_choose _ _)
  · exact changes_endProcess s _

theorem leads_tokenImportOperationEnd (s : State) : Leads s (execTokenImportOperationEnd s) := by
  unfold execTokenImportOperationEnd
  split
  · rename_i g i t b n k1 k2 hg hp
    split
    · exact .fault s _
    · rename_i op hop
      split
      · exact .next (changes_nextOp hp trivial fun _ hj => .inr hj)
      · exact .next (changes_nextOp hp trivial fun _ hj => .inr hj)
      · rename_i hw
        exact .next (changes_endImport hg hp hop (by simp only [recovered, hw]))
      · rename_i hw
        exact .next (changes_endImport hg hp hop (by simp only [recovered, hw]))
  · exact .same s

/-- A record whose form is in range is OPEN (R61). -/
theorem WarrantForm.record_live {f : WarrantForm} {n : Nat} {w : Warrant} (h : f.record n = some w) : w.live = true := by
  unfold WarrantForm.record at h
  split at h
  · simp at h
  · split at h
    · rw [← Option.some.inj h]; rfl
    · simp at h

theorem leads_warrantOpen (s : State) : Leads s (execWarrantOpen s) := by
  refine leads_takeCustody fun _ u hu => leads_readCustody fun f => leads_served ?_
  split
  · exact .refuse u _ _
  · rename_i w hw
    split
    · exact .refuse u _ _
    · rename_i ho
      exact .next ((Change.opens w hu.service (WarrantForm.record_live hw) ho).one.trans (kept_reply _ _ _).changes)

theorem leads_warrantHold (s : State) : Leads s (execWarrantHold s) := by
  refine leads_takeCustody fun _ u _ => leads_readCustody fun _ => leads_withWarrant fun w hw => ?_
  split
  · exact .refuse u _ _
  · rename_i ho
    exact .next ((Change.revises w _ hw ⟨rfl, rfl, rfl, by simp [Warrant.live, not_not.1 ho]⟩).one.trans
      (kept_reply _ _ _).changes)

theorem leads_warrantRelease (s : State) : Leads s (execWarrantRelease s) := by
  refine leads_takeCustody fun _ u _ => leads_readCustody fun _ => leads_withWarrant fun w hw => ?_
  split
  · exact .refuse u _ _
  · rename_i ho
    exact .next ((Change.revises w _ hw ⟨rfl, rfl, rfl, by simp [Warrant.live, not_not.1 ho]⟩).one.trans
      (kept_reply _ _ _).changes)

/-- An extend leaves a live warrant live (R64). -/
theorem Warrant.extend_live (w : Warrant) (add : Nat) : (w.extend add).live = w.live := by
  cases h : w.state with
  | exhausted => by_cases hd : w.delivered < extendedTotal w.total add <;> simp [Warrant.extend, Warrant.live, h, hd]
  | opened => simp [Warrant.extend, Warrant.live, h]
  | held => simp [Warrant.extend, Warrant.live, h]
  | closed r => simp [Warrant.extend, Warrant.live, h]

theorem leads_warrantExtend (s : State) : Leads s (execWarrantExtend s) := by
  refine leads_takeCustody fun _ u _ => leads_readCustody fun f => leads_withWarrant fun w hw => ?_
  split
  · exact .refuse u _ _
  · split
    · exact .refuse u _ _
    · exact .next ((Change.revises w (fun x => x.extend f.2) hw ⟨rfl, rfl, rfl, w.extend_live f.2⟩).one.trans
        (kept_reply _ _ _).changes)

theorem leads_warrantClose (s : State) : Leads s (execWarrantClose s) := by
  refine leads_takeCustody fun _ u _ => leads_readCustody fun _ => leads_withWarrant fun w hw => ?_
  split
  · exact .refuse u _ _
  · rename_i hl
    exact .next ((Change.closes w .byCommand hw (by simpa using hl)).one.trans (kept_reply _ _ _).changes)

theorem leads_warrantPurge (s : State) : Leads s (execWarrantPurge s) := by
  refine leads_takeCustody fun _ u _ => leads_readCustody fun _ => leads_withWarrant fun w hw => ?_
  split
  · exact .refuse u _ _
  · rename_i hl
    exact .next ((Change.purges w hw (by simpa using hl)).one.trans (kept_reply _ _ _).changes)

theorem leads_warrantStatus (k : Link) (s : State) : Leads s (execWarrantStatus k s) := by
  cases k with
  | custody =>
    unfold execWarrantStatus
    dsimp only
    exact leads_takeCustody fun _ u _ => leads_readCustody fun _ => leads_withWarrant fun _ _ => .kept (kept_reply u _ _)
  | lane l =>
    unfold execWarrantStatus
    exact leads_takeLane s l _

theorem leads_warrantList (s : State) : Leads s (execWarrantList s) :=
  leads_takeCustody fun _ u _ => leads_readCustody fun _ => leads_served (.kept (kept_reply u _ _))

theorem leads_laneBind (s : State) : Leads s (execLaneBind s) := by
  refine leads_takeCustody fun _ u hu => leads_readCustody fun f => leads_served ?_
  split
  · exact .refuse u _ _
  · rename_i b _
    split
    · exact .refuse u _ _
    · split
      · exact .refuse u _ _
      · rename_i ht
        exact .next ((Change.binds b.lane b.slot _ hu.service ht rfl).one.trans (kept_reply _ _ _).changes)

theorem leads_laneUnbind (s : State) : Leads s (execLaneUnbind s) := by
  refine leads_takeCustody fun _ u _ => leads_readCustody fun _ => leads_served ?_
  split
  · exact .refuse u _ _
  · rename_i l _
    dsimp only
    split
    · exact .refuse u _ _
    · rename_i i hi
      split
      · exact .refuse u _ _
      · exact .next ((Change.unbinds l i _ hi rfl).one.trans (kept_reply _ _ _).changes)

theorem leads_setQuantum (s : State) : Leads s (execSetQuantum s) := by
  refine leads_takeCustody fun _ u _ => leads_readCustody fun v => ?_
  split
  · exact .refuse u _ _
  · have hk : TablesKept u { u with quantum := quantumOf v.toNat } := .of_fields
    exact .kept (hk.trans (kept_reply _ _ _))

theorem leads_tamperSetup (raw : BitVec 6) (s : State) : Leads s (execTamperSetup raw s) := by
  refine leads_takeCustody fun _ u _ => leads_readCustody fun _ => leads_gated ?_
  split
  · exact .refuse u _ _
  · rename_i n _
    have hk : TablesKept u { u with tamper := u.tamper.setUp n raw } := .of_fields
    exact .kept (hk.trans (kept_reply _ _ _))

theorem leads_tamperAck (s : State) : Leads s (execTamperAck s) := by
  refine leads_takeCustody fun _ u _ => leads_readCustody fun _ => leads_gated ?_
  have hk : TablesKept u { u with tamper := u.tamper.acknowledge } := .of_fields
  split
  · rename_i hm
    split
    · exact .refuse u _ _
    · refine .kept ((hk.trans (.setMode _ .uninitialised ?_ ?_)).trans (kept_reply _ _ _))
      · simp [hm, Mode.inService]
      · simp [hm]
  · exact .kept (hk.trans (kept_reply _ _ _))

theorem leads_deviceStatus (s : State) : Leads s (execDeviceStatus s) :=
  leads_takeCustody fun _ u _ => leads_readCustody fun _ => .kept (kept_reply u _ _)

/-! ### The links and the lanes -/

theorem changes_receive (s : State) (k : Link) (bytes : List Byte) : Changes s (s.receive k bytes) := by
  unfold State.receive
  split
  · split
    · split
      · split
        · cases k with
          | custody =>
            unfold State.immediate
            exact (kept_setLink s .custody _).changes
          | lane l =>
            unfold State.immediate
            dsimp only
            split
            · exact (kept_runStop s l).changes
            · exact (kept_setLink s (.lane l) _).changes
        · exact (kept_frameError s k).changes
      · exact (kept_setLink s k _).changes
    · exact (kept_frameError s k).changes
  · exact (kept_frameError s k).changes

theorem leads_requestTransfer (k : Link) (x : Shifted) (s : State) : Leads s (execRequestTransfer k x s) := by
  unfold execRequestTransfer
  split
  · have hk : TablesKept s (s.shiftOut k (List.replicate x.bytes.length 0)) := kept_setLink s k _
    refine .next (hk.changes.trans ?_)
    unfold State.receiveTransfer
    split
    · exact changes_receive _ k _
    · exact (kept_frameError _ k).changes
  · exact .same s

theorem leads_collectBegin (k : Link) (s : State) : Leads s (execCollectBegin k s) := by
  unfold execCollectBegin
  split
  · exact .kept (kept_setLink s k _)
  · exact .same s

theorem leads_collectEnd (k : Link) (clocked cut : Nat) (s : State) : Leads s (execCollectEnd k clocked cut s) := by
  unfold execCollectEnd
  split
  · exact .same s
  · dsimp only
    split
    · exact .kept (kept_setLink s k _)
    · exact .next ((kept_setLink s k _).changes.trans (changes_handOn _ k _))

theorem leads_unknownRequest (k : Link) (s : State) : Leads s (execUnknownRequest k s) := by
  cases k with
  | custody =>
    unfold execUnknownRequest
    dsimp only
    split
    · exact .same s
    · split
      · exact .same s
      · exact leads_takeCustody fun _ u _ => .refuse u _ _
  | lane l =>
    unfold execUnknownRequest
    exact leads_takeLane s l _

theorem leads_linkClear (s : State) : Leads s (execLinkClear s) := by
  unfold execLinkClear
  split
  · exact .kept (kept_setLink s _ _)
  · exact .same s

theorem leads_laneClear (l : LaneId) (s : State) : Leads s (execLaneClear l s) := by
  unfold execLaneClear
  split
  · exact .kept (kept_setLink s _ _)
  · exact .same s

theorem leads_runStop (stop : Stop) (s : State) : Leads s (execRunStop stop s) := by
  unfold execRunStop
  split
  · obtain e | ⟨g, n, m, _, _, _, _, _, e⟩ := s.takeStop_cases stop
    · rw [e]; exact .kept (kept_runStop s _)
    · rw [e]; exact .kept (.setEngine s _ fun _ => by simp)
  · exact .same s

theorem leads_run (l : LaneId) (s : State) : Leads s (execRun l s) := leads_takeLane s l _

theorem leads_laneStatus (l : LaneId) (s : State) : Leads s (execLaneStatus l s) := leads_takeLane s l _

/-! ### The engine -/

theorem leads_grant (s : State) : Leads s (execGrant s) := by
  have walks : ∀ u : State, Leads u (match u.engine with
      | .lane g => match g.stage with
        | .opening => .next (u.walkOn g)
        | .deriving _ _ => .next u
        | .checking _ _ _ => .next u
        | .keystream _ _ _ _ => .next u
        | .withheld => .next u
      | .idle => .next u
      | .custody _ => .next u) := by
    intro u
    split
    · split
      · exact .next (changes_walkOn u _)
      all_goals exact .same u
    · exact .same u
    · exact .same u
  unfold execGrant
  split
  · exact .same s
  · refine .after ?_ (walks _)
    split
    · exact changes_choose s
    · exact .refl
    · exact .refl

theorem leads_cardKeyDerivationEnd (s : State) : Leads s (execCardKeyDerivationEnd s) := by
  unfold execCardKeyDerivationEnd
  split
  · split
    · exact .kept (.setEngine s _ fun _ => by simp)
    · exact .fault s _
    all_goals exact .same s
  · exact .same s
  · exact .same s

theorem leads_cardCheckValueEnd (s : State) : Leads s (execCardCheckValueEnd s) := by
  unfold execCardCheckValueEnd
  split
  · split
    · exact .kept (.setEngine s _ fun _ => by simp)
    · exact .fault s _
    all_goals exact .same s
  · exact .same s
  · exact .same s

theorem leads_keystreamBlockEnd (s : State) : Leads s (execKeystreamBlockEnd s) := by
  unfold execKeystreamBlockEnd
  split
  · split
    · split
      · exact .same s
      · exact .next ((changes_completeEntry s _ _ _).trans (changes_walkOn _ _))
    · exact .fault s _
    all_goals exact .same s
  · exact .same s
  · exact .same s

/-! ### The Tamper Monitor and the erase -/

theorem leads_tamperInputEdge (i : InputId) (samples : List Level) (s : State) :
    Leads s (execTamperInputEdge i samples s) := by
  unfold execTamperInputEdge
  split
  · exact .next (changes_foldl (fun u v => changes_sampleInput u i v) s samples)
  · exact .same s

theorem leads_eraseComplete (s : State) : Leads s (execEraseComplete s) := by
  unfold execEraseComplete
  split
  · rename_i hm
    exact .next ((Change.completes hm).one.trans (TablesKept.of_fields).changes)
  · exact .same s

theorem leads_supplyAboveThreshold (mv : Nat) (s : State) : Leads s (execSupplyAboveThreshold mv s) := by
  unfold execSupplyAboveThreshold
  split
  · split <;> exact .kept .of_fields
  · exact .same s

theorem leads_supplyBelowThreshold (mv : Nat) (s : State) : Leads s (execSupplyBelowThreshold mv s) := by
  unfold execSupplyBelowThreshold
  split
  · split <;> exact .kept .of_fields
  · exact .same s

theorem leads_supplyTimerExpiry (s : State) : Leads s (execSupplyTimerExpiry s) := by
  unfold execSupplyTimerExpiry
  split
  · exact .next ((TablesKept.of_fields).changes.trans (changes_tamperEvent _ _ _))
  · exact .same s

/-! ### Stopping and starting -/

theorem changes_stopLogic (s : State) (cut : SweepCut) : Changes s (s.stopLogic cut) := by
  refine .trans (b := s.cutSweep cut) ?_ (Change.restarts _ .stopped rfl (by simp)).one
  unfold State.cutSweep
  split
  · rename_i h; exact (Change.cuts _ _ h).one
  · exact .refl

theorem kept_keepDomain (s : State) : TablesKept s s.keepDomain := by
  unfold State.keepDomain
  split
  · exact .refl s
  · exact .of_fields

theorem changes_enterStarting (s : State) : Changes s s.enterStarting :=
  (Change.restarts s (.starting .check) rfl (by simp)).one

/-- The supply or RESET stops the logic if it runs. -/
theorem changes_stopIfRunning (s : State) (cut : SweepCut) : Changes s (if s.mode.running then s.stopLogic cut else s) := by
  split
  · exact changes_stopLogic s cut
  · exact .refl

theorem leads_mainSupplyLoss (mv : Nat) (cut : SweepCut) (s : State) : Leads s (execMainSupplyLoss mv cut s) := by
  have hk (u : State) : TablesKept u { u with vmain := mv } := .of_fields
  unfold execMainSupplyLoss
  split
  · exact .next ((changes_stopIfRunning s cut).trans ((hk _).trans (kept_keepDomain _)).changes)
  · exact .same s

theorem leads_resetAssert (cut : SweepCut) (s : State) : Leads s (execResetAssert cut s) := by
  have hk (u : State) : TablesKept u { u with resetHeld := true } := .of_fields
  unfold execResetAssert
  split
  · exact .next ((changes_stopIfRunning s cut).trans (hk _).changes)
  · exact .same s

theorem leads_mainSupplyRise (mv : Nat) (s : State) : Leads s (execMainSupplyRise mv s) := by
  have hk : TablesKept s { s with vmain := mv } := .of_fields
  unfold execMainSupplyRise
  split
  · dsimp only
    split
    · exact .kept hk
    · exact .next (hk.changes.trans (changes_enterStarting _))
  · exact .same s

theorem leads_resetRelease (s : State) : Leads s (execResetRelease s) := by
  have hk : TablesKept s { s with resetHeld := false } := .of_fields
  unfold execResetRelease
  split
  · dsimp only
    split
    · exact .next (hk.changes.trans (changes_enterStarting _))
    · exact .kept hk
  · exact .same s

theorem leads_validityCheck (raw : BitVec 6) (s : State) : Leads s (execValidityCheck raw s) := by
  unfold execValidityCheck
  split
  · rename_i hm
    split
    · have hk : TablesKept s { s with tamper := Tamper.default (levelOf raw) } := .of_fields
      exact .kept (hk.trans (.setMode _ (.starting .clearing) (by simp [hm, Mode.inService]) (by simp [hm])))
    · split
      · exact .next (Change.erases s).one
      · exact .kept (.setMode _ (.starting .sweep) (by simp [hm, Mode.inService]) (by simp [hm]))
  · exact .same s

theorem leads_batteryLossClearingEnd (s : State) : Leads s (execBatteryLossClearingEnd s) := by
  unfold execBatteryLossClearingEnd
  split
  · rename_i hm
    split
    · exact .next ((Change.clears s.mode hm).one.trans (Change.erases s.clearDomain).one)
    · exact .next (Change.clears .uninitialised hm).one
  · exact .same s

/-- What a sweep leads to in any device state, it leads to in the one R155 gives, or at the start of an erase. -/
theorem changes_afterSweep {s u : State} (hu : u.mode ≠ .erasing)
    (h : ∀ m : Mode, m ≠ .erasing → Changes s { u with mode := m }) : Changes s u.afterSweep := by
  unfold State.afterSweep
  split
  · exact (h u.mode hu).trans (Change.erases u).one
  · split
    · exact h .operational (by simp)
    · split
      · exact h .uninitialised (by simp)
      · exact h .locked (by simp)

theorem leads_sweepEnd (s : State) : Leads s (execSweepEnd s) := by
  unfold execSweepEnd
  split
  · rename_i hm
    have hmode : s.sweep.mode = .starting .sweep := (State.sweepFirst_mode s 6).trans hm
    exact .next (changes_afterSweep (by rw [hmode]; simp) fun m he => (Change.sweeps m hm he).one)
  · exact .same s

theorem leads_backupBatteryFailure (b : Bool) (s : State) : Leads s (execBackupBatteryFailure b s) := by
  have hk (u : State) (b : Bool) : TablesKept u { u with battery := b } := .of_fields
  exact .kept (((hk s false).trans (kept_keepDomain _)).trans (hk _ b))

/-! ### Every step -/

/-- Every command changes the tables in these ways only, but for a fault of the battery-backed memory (R13). -/
theorem leads_exec (c : Instr) (s : State) (sound : ∀ i b n w, c ≠ .batteryBackedMemoryFault i b n w) :
    Leads s (exec c s) := by
  cases c with
  | requestTransfer k x => exact leads_requestTransfer k x s
  | collectBegin k => exact leads_collectBegin k s
  | collectEnd k clocked cut => exact leads_collectEnd k clocked cut s
  | unknownRequest k => exact leads_unknownRequest k s
  | slotStatus => exact leads_slotStatus s
  | slotErase => exact leads_slotErase s
  | assemble => exact leads_assemble s
  | component => exact leads_component s
  | componentCheckEnd => exact leads_componentCheckEnd s
  | finalCheckEnd => exact leads_finalCheckEnd s
  | assemblyCancel => exact leads_assemblyCancel s
  | custodySwitchChange samples => exact leads_custodySwitchChange samples s
  | initialise => exact leads_initialise s
  | initialisePatternEnd => exact leads_initialisePatternEnd s
  | storageRoll => exact leads_storageRoll s
  | storageRollPatternEnd => exact leads_storageRollPatternEnd s
  | tokenExport => exact leads_tokenExport s
  | tokenExportOperationEnd => exact leads_tokenExportOperationEnd s
  | tokenImport => exact leads_tokenImport s
  | tokenImportOperationEnd => exact leads_tokenImportOperationEnd s
  | warrantOpen => exact leads_warrantOpen s
  | warrantHold => exact leads_warrantHold s
  | warrantRelease => exact leads_warrantRelease s
  | warrantExtend => exact leads_warrantExtend s
  | warrantClose => exact leads_warrantClose s
  | warrantPurge => exact leads_warrantPurge s
  | warrantStatus k => exact leads_warrantStatus k s
  | warrantList => exact leads_warrantList s
  | laneBind => exact leads_laneBind s
  | laneUnbind => exact leads_laneUnbind s
  | setQuantum => exact leads_setQuantum s
  | tamperSetup raw => exact leads_tamperSetup raw s
  | tamperAck => exact leads_tamperAck s
  | deviceStatus => exact leads_deviceStatus s
  | linkClear => exact leads_linkClear s
  | run l => exact leads_run l s
  | laneStatus l => exact leads_laneStatus l s
  | runStop stop => exact leads_runStop stop s
  | laneClear l => exact leads_laneClear l s
  | grant => exact leads_grant s
  | cardKeyDerivationEnd => exact leads_cardKeyDerivationEnd s
  | cardCheckValueEnd => exact leads_cardCheckValueEnd s
  | keystreamBlockEnd => exact leads_keystreamBlockEnd s
  | tamperInputEdge i samples => exact leads_tamperInputEdge i samples s
  | eraseComplete => exact leads_eraseComplete s
  | supplyAboveThreshold mv => exact leads_supplyAboveThreshold mv s
  | supplyBelowThreshold mv => exact leads_supplyBelowThreshold mv s
  | supplyTimerExpiry => exact leads_supplyTimerExpiry s
  | mainSupplyLoss mv cut => exact leads_mainSupplyLoss mv cut s
  | resetAssert cut => exact leads_resetAssert cut s
  | mainSupplyRise mv => exact leads_mainSupplyRise mv s
  | resetRelease => exact leads_resetRelease s
  | validityCheck raw => exact leads_validityCheck raw s
  | batteryLossClearingEnd => exact leads_batteryLossClearingEnd s
  | sweepEnd => exact leads_sweepEnd s
  | backupBatteryFailure b => exact leads_backupBatteryFailure b s
  | batteryBackedMemoryFault i b n w => exact absurd rfl (sound i b n w)

/-- So does every step: that of a command, and the passes' next write with none waiting. -/
theorem step_changes {s t : State} (sound : MemorySound s) (h : step s = .next t) : Changes s t := by
  cases hp : s.pending with
  | nil =>
    rw [step_of_nil hp] at h
    obtain rfl := Host.Outcome.next.inj h
    by_cases hm : s.mode = .erasing
    · rw [State.tick_erasing hm]; exact (Change.overwrites hm).one
    · rw [State.tick_idle hm]
  | cons c cs =>
    simp only [step, hp] at h
    have hk : TablesKept s (s.withPending cs) := .of_fields
    refine hk.changes.trans (leads_exec c _ (fun i b n w e => sound i b n w ?_) t h)
    rw [hp, e]; rfl

end Sys2Proof.Machine
end

section
/-! SUPPORT. What references see of a slot, how the count of R10 moves with warrants and bindings, and what a sweep, whole or
cut off, can do to the tables (R10, R58, R74, R96, R154). -/

namespace Sys2Proof.Machine

/-! ### What a reference sees of a slot -/

/-- The kind of an ACTIVE slot: all that a warrant or a binding sees of the slot it names (R58, R96). -/
def Slot.activeKind (sl : Slot) : Option KeyKind :=
  match sl.body with
  | .active a _ => some a.kind
  | .empty => none
  | .assembling _ => none
  | .faulty _ _ => none

theorem Slot.activeKind_congr {a b : Slot} (h : a.body = b.body) : a.activeKind = b.activeKind := by
  simp only [Slot.activeKind, h]

theorem Slot.isActive_congr {a b : Slot} (h : a.body = b.body) : a.isActive = b.isActive := by
  simp only [Slot.isActive, h]

theorem Slot.isActive_eq (sl : Slot) : sl.isActive = sl.activeKind.isSome := by
  cases h : sl.body <;> simp [Slot.isActive, Slot.activeKind, h]

theorem Slot.isActive_eq_false (sl : Slot) : sl.isActive = false ↔ sl.activeKind = none := by
  rw [Slot.isActive_eq]; simp

theorem Slot.masterRefusal_eq_none (sl : Slot) (n : Nat) :
    sl.masterRefusal n = none ↔ ∃ p, sl.activeKind = some (.derivation p n) := by
  cases h : sl.body with
  | active a c => cases hk : a.kind <;> simp [Slot.masterRefusal, Slot.activeKind, h, hk]
  | empty => simp [Slot.masterRefusal, Slot.activeKind, h]
  | assembling a => simp [Slot.masterRefusal, Slot.activeKind, h]
  | faulty a c => simp [Slot.masterRefusal, Slot.activeKind, h]

theorem Slot.transportRefusal_eq_none (sl : Slot) : sl.transportRefusal = none ↔ sl.activeKind = some .transport := by
  cases h : sl.body with
  | active a c => cases hk : a.kind <;> simp [Slot.transportRefusal, Slot.activeKind, h, hk]
  | empty => simp [Slot.transportRefusal, Slot.activeKind, h]
  | assembling a => simp [Slot.transportRefusal, Slot.activeKind, h]
  | faulty a c => simp [Slot.transportRefusal, Slot.activeKind, h]

@[simp] theorem Slot.blank_activeKind (i : SlotId) : (Slot.blank i).activeKind = none := rfl
@[simp] theorem Slot.blank_refs (i : SlotId) : (Slot.blank i).refs = 0 := rfl
@[simp] theorem Slot.blank_assemblyOf (i : SlotId) : (Slot.blank i).assemblyOf = none := rfl

/-- A use more leaves what references see (R9). -/
theorem State.raiseUses_activeKind (s : State) (i j : SlotId) :
    (s.raiseUses i).slots[j].activeKind = s.slots[j].activeKind := by
  by_cases h : i = j
  · subst h
    rw [State.raiseUses, State.writeSlot_same]
    cases hb : s.slots[i].body <;> simp only [Slot.activeKind, SlotBody.raiseUses, hb]
  · rw [State.raiseUses, State.writeSlot_other _ _ _ _ _ _ h]

theorem State.raiseUses_refs (s : State) (i j : SlotId) : (s.raiseUses i).slots[j].refs = s.slots[j].refs := by
  by_cases h : i = j
  · subst h; rw [State.raiseUses, State.writeSlot_same]
  · rw [State.raiseUses, State.writeSlot_other _ _ _ _ _ _ h]

theorem State.setRefs_body (s : State) (i j : SlotId) (n : Nat) : (s.setRefs i n).slots[j].body = s.slots[j].body := by
  by_cases h : i = j
  · subst h; rw [State.setRefs, State.writeSlot_same]
  · rw [State.setRefs, State.writeSlot_other _ _ _ _ _ _ h]

theorem State.setRefs_assembly (s : State) (i j : SlotId) (n : Nat) :
    (s.setRefs i n).slots[j].assembly = s.slots[j].assembly := by
  by_cases h : i = j
  · subst h; rw [State.setRefs, State.writeSlot_same]
  · rw [State.setRefs, State.writeSlot_other _ _ _ _ _ _ h]

theorem State.setRefs_refs (s : State) (i j : SlotId) (n : Nat) :
    (s.setRefs i n).slots[j].refs = if i = j then n else s.slots[j].refs := by
  by_cases h : i = j
  · subst h; rw [State.setRefs, State.writeSlot_same, if_pos rfl]
  · rw [State.setRefs, State.writeSlot_other _ _ _ _ _ _ h, if_neg h]

/-! ### The count of R10 -/

/-- A live warrant on the slot, which the count counts. -/
def Warrant.on (i : SlotId) (w : Warrant) : Bool := w.live && w.master == i

theorem Warrant.on_iff {i : SlotId} {w : Warrant} : w.on i = true ↔ w.live = true ∧ w.master = i := by
  simp [Warrant.on]

theorem Warrant.countP_on_live {w : Warrant} (h : w.live = true) (i : SlotId) (ws : List Warrant) :
    (w :: ws).countP (Warrant.on i) = ws.countP (Warrant.on i) + if w.master = i then 1 else 0 := by
  simp [List.countP_cons, Warrant.on, h]

theorem Warrant.countP_on_closed {w : Warrant} (h : w.live = false) (i : SlotId) (ws : List Warrant) :
    (w :: ws).countP (Warrant.on i) = ws.countP (Warrant.on i) := by
  simp [Warrant.on, h]

/-- The count as a sum over the records and over the bindings. -/
theorem State.countRefs_eq (s : State) (i : SlotId) :
    s.countRefs i = s.warrants.countP (Warrant.on i) + (s.lanes.toList.map Lane.transport).count (some i) := by
  unfold State.countRefs
  rw [List.countP_eq_length_filter, List.count_eq_countP, List.countP_map, List.countP_eq_length_filter]
  rfl

theorem bindings_congr {v w : Vector Lane 4} (h : ∀ l : LaneId, v[l].transport = w[l].transport) :
    v.toList.map Lane.transport = w.toList.map Lane.transport := by
  apply List.ext_getElem
  · simp
  · intro n hn _
    have h4 : n < 4 := by simpa using hn
    simpa using h ⟨n, h4⟩

/-- The count moves with the bindings as they are. -/
theorem State.countRefs_congr {s t : State} (hw : t.warrants = s.warrants)
    (hl : ∀ l : LaneId, t.lanes[l].transport = s.lanes[l].transport) (i : SlotId) : t.countRefs i = s.countRefs i := by
  rw [State.countRefs_eq, State.countRefs_eq, hw, bindings_congr hl]

/-- And with the number of live warrants on the slot. -/
theorem State.countRefs_warrants {s t : State} {us ws : List Warrant} (hs : s.warrants = us) (ht : t.warrants = ws)
    (hl : ∀ l : LaneId, t.lanes[l].transport = s.lanes[l].transport) (i : SlotId) :
    t.countRefs i + us.countP (Warrant.on i) = s.countRefs i + ws.countP (Warrant.on i) := by
  rw [State.countRefs_eq, State.countRefs_eq, bindings_congr hl, hs, ht]; omega

theorem State.mem_bindings {s : State} {i : SlotId} :
    some i ∈ s.lanes.toList.map Lane.transport ↔ ∃ l : LaneId, s.lanes[l].transport = some i := by
  constructor
  · intro h
    obtain ⟨n, hn, e⟩ := List.getElem_of_mem h
    have h4 : n < 4 := by simpa using hn
    exact ⟨⟨n, h4⟩, by simpa using e⟩
  · rintro ⟨l, e⟩
    exact List.mem_map.2 ⟨s.lanes[l], by simp, e⟩

/-- A slot is counted exactly if something names it. -/
theorem State.countRefs_eq_zero {s : State} {i : SlotId} : s.countRefs i = 0 ↔
    (∀ w ∈ s.warrants, w.live = true → w.master ≠ i) ∧ ∀ l : LaneId, s.lanes[l].transport ≠ some i := by
  rw [State.countRefs_eq, Nat.add_eq_zero_iff, List.countP_eq_zero, List.count_eq_zero, State.mem_bindings, not_exists]
  refine and_congr (forall₂_congr fun w _ => ?_) .rfl
  rw [Warrant.on_iff, not_and]

/-- Setting a lane moves one binding. -/
theorem State.countRefs_setLane (s : State) (l : LaneId) (x : Lane) (i : SlotId) :
    (s.setLane l x).countRefs i + (if s.lanes[l].transport = some i then 1 else 0) =
      s.countRefs i + (if x.transport = some i then 1 else 0) := by
  have hlen : l.val < (s.lanes.toList.map Lane.transport).length := by simp
  have hset : (s.setLane l x).lanes.toList.map Lane.transport =
      (s.lanes.toList.map Lane.transport).set l.val x.transport := by
    simp [State.setLane, Vector.toList_set, List.map_set]
  have hget : (s.lanes.toList.map Lane.transport)[l.val] = s.lanes[l].transport := by simp
  rw [State.countRefs_eq, State.countRefs_eq, hset, State.setLane_warrants, List.count_set hlen, hget]
  have hpos : s.lanes[l].transport = some i → 0 < (s.lanes.toList.map Lane.transport).count (some i) := fun e =>
    List.count_pos_iff.2 (State.mem_bindings.2 ⟨l, e⟩)
  by_cases h : s.lanes[l].transport = some i
  · have := hpos h
    by_cases hx : x.transport = some i <;> simp only [beq_iff_eq, h, hx, if_true, if_false] <;> omega
  · by_cases hx : x.transport = some i <;> simp only [beq_iff_eq, h, hx, if_true, if_false] <;> omega

/-! ### The warrant table -/

theorem insertWarrant_perm (w : Warrant) (ws : List Warrant) : (insertWarrant w ws).Perm (w :: ws) := by
  induction ws with
  | nil => exact .refl _
  | cons x xs ih =>
    unfold insertWarrant
    split
    · exact .refl _
    · exact (ih.cons x).trans (.swap w x xs)

/-- A record of a new id is added in its place (R56). -/
theorem insertWarrant_pairwise {w : Warrant} {ws : List Warrant} (h : ws.Pairwise fun a b => a.id < b.id)
    (fresh : ∀ x ∈ ws, x.id ≠ w.id) : (insertWarrant w ws).Pairwise fun a b => a.id < b.id := by
  induction ws with
  | nil => simp [insertWarrant]
  | cons x xs ih =>
    obtain ⟨hx, hxs⟩ := List.pairwise_cons.1 h
    unfold insertWarrant
    split
    · rename_i hlt
      refine List.pairwise_cons.2 ⟨fun y hy => ?_, h⟩
      obtain rfl | hy := List.mem_cons.1 hy
      · exact hlt
      · exact hlt.trans (hx y hy)
    · rename_i hge
      have hne := fresh x List.mem_cons_self
      refine List.pairwise_cons.2 ⟨fun y hy => ?_, ih hxs fun y hy => fresh y (List.mem_cons_of_mem _ hy)⟩
      obtain rfl | hy := List.mem_cons.1 ((insertWarrant_perm w xs).mem_iff.1 hy)
      · omega
      · exact hx y hy

/-- With ids in ascending order, a change to the record of an id is a change to one record, and its removal that of one. -/
theorem State.warrants_split {s : State} (ids : s.warrants.Pairwise fun a b => a.id < b.id) {w : Warrant}
    (hw : w ∈ s.warrants) : ∃ l r, s.warrants = l ++ w :: r ∧
      (∀ f, (s.setWarrant w.id f).warrants = l ++ f w :: r) ∧ (s.removeWarrant w.id).warrants = l ++ r := by
  obtain ⟨l, r, e⟩ := List.append_of_mem hw
  rw [e, List.pairwise_append, List.pairwise_cons] at ids
  obtain ⟨_, ⟨hr, _⟩, hl⟩ := ids
  have nl : ∀ x ∈ l, x.id ≠ w.id := fun x hx => Nat.ne_of_lt (hl x hx w List.mem_cons_self)
  have nr : ∀ x ∈ r, x.id ≠ w.id := fun x hx => Nat.ne_of_gt (hr x hx)
  refine ⟨l, r, e, fun f => ?_, ?_⟩
  · have keep : ∀ xs : List Warrant, (∀ x ∈ xs, x.id ≠ w.id) → xs.map (fun x => if x.id = w.id then f x else x) = xs :=
      fun xs hx => (List.map_congr_left fun x m => if_neg (hx x m)).trans (List.map_id' xs)
    simp only [State.setWarrant, e, List.map_append, List.map_cons, if_true, keep l nl, keep r nr]
  · have keep : ∀ xs : List Warrant, (∀ x ∈ xs, x.id ≠ w.id) → xs.filter (fun x => x.id != w.id) = xs :=
      fun xs hx => List.filter_eq_self.2 fun x m => by simpa using hx x m
    simp only [State.removeWarrant, e, List.filter_append, keep l nl]
    rw [List.filter_cons_of_neg (by simp), keep r nr]

/-! ### The sweep, whole or cut off -/

/-- What a sweep can make of a slot record: as it was, an ACTIVE one FAULTY, or EMPTY. -/
inductive Slot.Swept (a : Slot) : Slot → Prop
  | same {b : Slot} (body : b.body = a.body) (assembly : b.assembly = a.assembly) : Slot.Swept a b
  | faulted {b : Slot} (at' : Attributes) (c : Contents) (before : a.body = .active at' c) (body : b.body = .faulty at' c)
      (assembly : b.assembly = a.assembly) : Slot.Swept a b
  | emptied {b : Slot} (body : b.body = .empty) (assembly : b.assembly = none) : Slot.Swept a b

theorem Slot.Swept.refl (a : Slot) : Slot.Swept a a := .same rfl rfl

theorem Slot.Swept.trans {a b c : Slot} (h : Slot.Swept a b) (k : Slot.Swept b c) : Slot.Swept a c := by
  cases k with
  | emptied kb ka => exact .emptied kb ka
  | same kb ka =>
    cases h with
    | emptied hb ha => exact .emptied (kb.trans hb) (ka.trans ha)
    | same hb ha => exact .same (kb.trans hb) (ka.trans ha)
    | faulted t x before hb ha => exact .faulted t x before (kb.trans hb) (ka.trans ha)
  | faulted t x before kb ka =>
    cases h with
    | emptied hb _ => simp [hb] at before
    | same hb ha => exact .faulted t x (hb.symm.trans before) kb (ka.trans ha)
    | faulted _ _ _ hb _ => simp [hb] at before

/-- What a sweep leaves ACTIVE is as references saw it. -/
theorem Slot.Swept.activeKind {a b : Slot} (h : Slot.Swept a b) : b.activeKind = a.activeKind ∨ b.activeKind = none := by
  cases h with
  | same hb _ => exact .inl (Slot.activeKind_congr hb)
  | faulted _ _ _ hb _ => exact .inr (by simp only [Slot.activeKind, hb])
  | emptied hb _ => exact .inr (by simp only [Slot.activeKind, hb])

/-- No assembly comes of a sweep. -/
theorem Slot.Swept.assemblyOf {a b : Slot} (h : Slot.Swept a b) : b.assemblyOf = a.assemblyOf ∨ b.assemblyOf = none := by
  cases h with
  | same hb ha => exact .inl (by simp only [Slot.assemblyOf, hb, ha])
  | faulted _ _ _ hb _ => exact .inr (by simp only [Slot.assemblyOf, hb])
  | emptied hb _ => exact .inr (by simp only [Slot.assemblyOf, hb])

/-- What a sweep can make of a warrant record: as it was, or closed (R74). -/
structure Warrant.Swept (w v : Warrant) : Prop where
  id : v.id = w.id
  issuer : v.issuer = w.issuer
  master : v.master = w.master
  live : v.live = true → w.live = true

theorem Warrant.Swept.refl (w : Warrant) : w.Swept w := ⟨rfl, rfl, rfl, fun h => h⟩

theorem Warrant.Swept.trans {u v w : Warrant} (h : u.Swept v) (k : v.Swept w) : u.Swept w :=
  ⟨k.id.trans h.id, k.issuer.trans h.issuer, k.master.trans h.master, h.live ∘ k.live⟩

theorem Warrant.closeLive_swept (w : Warrant) (r : CloseReason) : w.Swept (w.closeLive r) := by
  unfold Warrant.closeLive
  split
  · rename_i h; exact ⟨rfl, rfl, rfl, fun _ => h⟩
  · exact .refl w

/-- No warrant that has been closed is live. -/
theorem Warrant.closeLive_live (w : Warrant) (r : CloseReason) : (w.closeLive r).live = false := by
  unfold Warrant.closeLive
  split
  · rfl
  · rename_i h; simpa using h

/-- What the steps of a sweep, or a part of them, can do to the tables. -/
structure SweptTo (s t : State) : Prop where
  slots : ∀ i : SlotId, Slot.Swept s.slots[i] t.slots[i]
  warrants : List.Forall₂ Warrant.Swept s.warrants t.warrants
  lanes : ∀ (l : LaneId) (i : SlotId), t.lanes[l].transport = some i → s.lanes[l].transport = some i

/-- A change to the slots only. -/
theorem SweptTo.of_slots {s : State} {v : Vector Slot 48} (h : ∀ i : SlotId, Slot.Swept s.slots[i] v[i]) :
    SweptTo s { s with slots := v } := ⟨h, List.forall₂_same.2 fun w _ => .refl w, fun _ _ => id⟩

/-- A change to the lanes only. -/
theorem SweptTo.of_lanes {s : State} {v : Vector Lane 4}
    (h : ∀ (l : LaneId) (i : SlotId), v[l].transport = some i → s.lanes[l].transport = some i) :
    SweptTo s { s with lanes := v } := ⟨fun _ => .refl _, List.forall₂_same.2 fun w _ => .refl w, h⟩

theorem SweptTo.refl (s : State) : SweptTo s s := .of_slots fun _ => .refl _

theorem Warrant.Swept.list_trans {us vs ws : List Warrant} (h : List.Forall₂ Warrant.Swept us vs)
    (k : List.Forall₂ Warrant.Swept vs ws) : List.Forall₂ Warrant.Swept us ws := by
  induction h generalizing ws with
  | nil => exact k
  | cons hu _ ih =>
    cases k with
    | cons kv ks => exact .cons (hu.trans kv) (ih ks)

theorem SweptTo.trans {s t u : State} (h : SweptTo s t) (k : SweptTo t u) : SweptTo s u :=
  ⟨fun i => (h.slots i).trans (k.slots i), Warrant.Swept.list_trans h.warrants k.warrants,
    fun l i e => h.lanes l i (k.lanes l i e)⟩

theorem Slot.swept_sweepAssembly (sl : Slot) (i : SlotId) : sl.Swept (sl.sweepAssembly i) := by
  unfold Slot.sweepAssembly
  split
  · exact .emptied rfl rfl
  all_goals exact .refl sl

theorem Slot.swept_checkIntegrity (sl : Slot) (i : SlotId) : sl.Swept (sl.checkIntegrity i) := by
  unfold Slot.checkIntegrity
  split
  · rename_i a c hb
    split
    · exact .refl sl
    · exact .faulted a c hb rfl rfl
  all_goals exact .refl sl

theorem State.swept_sweepReference (s : State) (i : SlotId) : s.slots[i].Swept (s.sweepReference i) := by
  unfold State.sweepReference
  split
  · exact .refl _
  · exact .same rfl rfl

theorem State.sweepLane_transport {s : State} {x : Lane} {i : SlotId} (h : (s.sweepLane x).transport = some i) :
    x.transport = some i ∧ s.slots[i].isActive = true := by
  unfold State.sweepLane at h
  split at h
  · rename_i hn; simp [hn] at h
  · rename_i j hj
    split at h
    · rename_i ha
      obtain rfl := Option.some.inj (hj.symm.trans h)
      exact ⟨hj, ha⟩
    · simp at h

theorem Lane.resetChain_transport (x : Lane) : x.resetChain.transport = x.transport := by
  unfold Lane.resetChain
  split <;> rfl

/-- The lanes and slots that a step writes anew, by number. -/
theorem ofFn_get {α : Type} {n : Nat} (f : Fin n → α) (i : Fin n) : (Vector.ofFn f)[i] = f i := by simp

theorem sweptTo_sweepAssemblies (s : State) : SweptTo s s.sweepAssemblies :=
  .of_slots fun i => by rw [ofFn_get]; exact Slot.swept_sweepAssembly _ i

theorem sweptTo_sweepIntegrity (s : State) : SweptTo s s.sweepIntegrity :=
  .of_slots fun i => by rw [ofFn_get]; exact Slot.swept_checkIntegrity _ i

theorem sweptTo_sweepWarrants (s : State) : SweptTo s s.sweepWarrants where
  slots _ := .refl _
  warrants := by
    refine List.forall₂_map_right_iff.2 (List.forall₂_same.2 fun w _ => ?_)
    split
    · exact .refl w
    · exact Warrant.closeLive_swept w _
  lanes _ _ := id

theorem sweptTo_sweepLanes (s : State) : SweptTo s s.sweepLanes :=
  .of_lanes fun l i h => by rw [ofFn_get] at h; exact (State.sweepLane_transport h).1

theorem sweptTo_sweepReferences (s : State) : SweptTo s s.sweepReferences :=
  .of_slots fun i => by rw [ofFn_get]; exact s.swept_sweepReference i

theorem sweptTo_resetChains (s : State) : SweptTo s s.resetChains :=
  .of_lanes fun l i h => by rw [ofFn_get, Lane.resetChain_transport] at h; exact h

/-- So is every step of a sweep. -/
theorem sweptTo_of_mem {g : State → State} (h : g ∈ sweepSteps) (s : State) : SweptTo s (g s) := by
  simp only [sweepSteps, List.mem_cons, List.not_mem_nil, or_false] at h
  obtain rfl | rfl | rfl | rfl | rfl | rfl := h
  · exact sweptTo_sweepAssemblies s
  · exact sweptTo_sweepIntegrity s
  · exact sweptTo_sweepWarrants s
  · exact sweptTo_sweepLanes s
  · exact sweptTo_sweepReferences s
  · exact sweptTo_resetChains s

theorem sweptTo_foldl (gs : List (State → State)) (h : ∀ g ∈ gs, g ∈ sweepSteps) (s : State) :
    SweptTo s (gs.foldl (fun s f => f s) s) := by
  induction gs generalizing s with
  | nil => exact .refl s
  | cons g gs ih =>
    exact (sweptTo_of_mem (h g List.mem_cons_self) s).trans (ih (fun x hx => h x (List.mem_cons_of_mem _ hx)) _)

theorem sweptTo_sweepFirst (s : State) (n : Nat) : SweptTo s (s.sweepFirst n) :=
  sweptTo_foldl _ (fun _ h => List.mem_of_mem_take h) s

/-- One step more of the sweep. -/
theorem sweptTo_sweepFirst_succ (s : State) (n : Nat) : SweptTo (s.sweepFirst n) (s.sweepFirst (n + 1)) := by
  unfold State.sweepFirst
  rw [List.take_add_one, List.foldl_append]
  refine sweptTo_foldl _ (fun g hg => ?_) _
  exact List.mem_of_getElem? (Option.mem_toList.1 hg)

/-- A step made on some records only. -/
theorem SweptTo.partly {s t : State} (h : SweptTo s t) (records : BitVec 256) : SweptTo s (s.partly t records) where
  slots i := by
    rw [State.partly_slot]
    split
    · exact h.slots i
    · exact .refl _
  warrants := by
    have hw := h.warrants
    simp only [State.partly]
    generalize s.warrants = us, t.warrants = vs at hw
    induction hw with
    | nil => exact .nil
    | cons hu _ ih =>
      refine .cons ?_ ih
      dsimp only
      split
      · exact hu
      · exact .refl _
  lanes l i e := by
    rw [State.partly_lane] at e
    split at e
    · exact h.lanes l i e
    · exact e

/-- The sweep that was cut off had made some steps, and the next on some records (R154). -/
theorem sweptTo_cut (s : State) (n : Nat) (records : BitVec 256) :
    SweptTo s ((s.sweepFirst n).partly (s.sweepFirst (n + 1)) records) :=
  (sweptTo_sweepFirst s n).trans ((sweptTo_sweepFirst_succ s n).partly records)

/-- The ids stay as they were. -/
theorem SweptTo.ids {s t : State} (h : SweptTo s t) (ids : s.warrants.Pairwise fun a b => a.id < b.id) :
    t.warrants.Pairwise fun a b => a.id < b.id := by
  have e : s.warrants.map Warrant.id = t.warrants.map Warrant.id := by
    have hw := h.warrants
    generalize s.warrants = us, t.warrants = vs at hw
    induction hw with
    | nil => rfl
    | cons hu _ ih => rw [List.map_cons, List.map_cons, ih, hu.id]
  have hm : (s.warrants.map Warrant.id).Pairwise (· < ·) := List.pairwise_map.2 ids
  rw [e] at hm
  exact List.pairwise_map.1 hm

/-- A live record was live before. -/
theorem SweptTo.mem {s t : State} (h : SweptTo s t) {v : Warrant} (hv : v ∈ t.warrants) : ∃ w ∈ s.warrants, w.Swept v := by
  have hw := h.warrants
  generalize s.warrants = us, t.warrants = vs at hw hv
  induction hw with
  | nil => simp at hv
  | cons hu _ ih =>
    obtain rfl | hv := List.mem_cons.1 hv
    · exact ⟨_, List.mem_cons_self, hu⟩
    · obtain ⟨w, hw, hs⟩ := ih hv
      exact ⟨w, List.mem_cons_of_mem _ hw, hs⟩

/-! ### After the whole sweep -/

theorem State.sweepReferences_slot (s : State) (i : SlotId) : s.sweepReferences.slots[i] = s.sweepReference i := by
  rw [State.sweepReferences, ofFn_get]

theorem State.sweepReference_body (s : State) (i : SlotId) : (s.sweepReference i).body = s.slots[i].body := by
  unfold State.sweepReference
  split <;> rfl

theorem State.sweepReference_refs (s : State) (i : SlotId) : (s.sweepReference i).refs = s.countRefs i := by
  unfold State.sweepReference
  split
  · assumption
  · rfl

theorem State.resetChains_transport (s : State) (l : LaneId) :
    s.resetChains.lanes[l].transport = s.lanes[l].transport := by
  rw [State.resetChains, ofFn_get, Lane.resetChain_transport]

theorem State.sweep_eq (s : State) : s.sweep = (s.sweepFirst 4).sweepReferences.resetChains := rfl

/-- The last steps of the sweep leave the bodies that the integrity check left. -/
theorem State.sweep_body (s : State) (i : SlotId) : s.sweep.slots[i].body = (s.sweepFirst 2).slots[i].body := by
  rw [State.sweep_eq, State.resetChains_slots, State.sweepReferences_slot, State.sweepReference_body,
    State.sweepFirst_four, State.sweepLanes_slots, State.sweepFirst_three, State.sweepWarrants_slots]

/-- The sweep leaves every reference count as R10 gives it. -/
theorem State.sweep_refs (s : State) (i : SlotId) : s.sweep.slots[i].refs = s.sweep.countRefs i := by
  rw [State.sweep_eq, State.resetChains_slots, State.sweepReferences_slot, State.sweepReference_refs]
  refine (State.countRefs_congr ?_ (fun l => ?_) i).symm
  · rw [State.resetChains_warrants, State.sweepReferences_warrants]
  · rw [State.resetChains_transport, State.sweepReferences_lanes]

/-- The sweep leaves live only the warrants whose master slot is ACTIVE (R74). -/
theorem State.sweep_masters (s : State) {w : Warrant} (hw : w ∈ s.sweep.warrants) (live : w.live = true) :
    s.sweep.slots[w.master].isActive = true := by
  rw [State.sweep_eq, State.resetChains_warrants, State.sweepReferences_warrants, State.sweepFirst_four,
    State.sweepLanes_warrants, State.sweepFirst_three, State.sweepWarrants] at hw
  obtain ⟨v, _, e⟩ := List.mem_map.1 hw
  rw [Slot.isActive_congr (s.sweep_body w.master)]
  split at e
  · rename_i ha; rw [← e]; exact ha
  · rw [← e, Warrant.closeLive_live] at live; simp at live

/-- And BOUND only the lanes whose transport slot is (R116). -/
theorem State.sweep_transports (s : State) {l : LaneId} {i : SlotId} (h : s.sweep.lanes[l].transport = some i) :
    s.sweep.slots[i].isActive = true := by
  rw [State.sweep_eq, State.resetChains_transport, State.sweepReferences_lanes, State.sweepFirst_four,
    State.sweepLanes, ofFn_get] at h
  rw [Slot.isActive_congr (s.sweep_body i), ← State.sweepWarrants_slots, ← State.sweepFirst_three]
  exact (State.sweepLane_transport h).2

end Sys2Proof.Machine
end

section
/-! PROOFS. The law of reference counts through every change to the tables (R10, R58, R96): RefsLawIsKept. -/

namespace Sys2Proof.Machine

/-! ### Carrying the law over -/

/-- In service nothing names a slot that is not ACTIVE. -/
theorem RefsLaw.unnamed {s : State} (h : RefsLaw s) (service : s.mode.inService = true) {i : SlotId}
    (inactive : s.slots[i].isActive = false) : s.countRefs i = 0 := by
  refine State.countRefs_eq_zero.2 ⟨fun w hw live e => ?_, fun l e => ?_⟩
  · subst e
    have := h.masters service w hw live
    rw [inactive] at this; simp at this
  · have := h.transports service l i e
    rw [inactive] at this; simp at this

theorem RefsLaw.master_active {s : State} (h : RefsLaw s) (service : s.mode.inService = true) {w : Warrant}
    (hw : w ∈ s.warrants) (live : w.live = true) {i : SlotId} (e : w.master = i) : s.slots[i].activeKind.isSome = true := by
  subst e
  rw [← Slot.isActive_eq]
  exact h.masters service w hw live

theorem RefsLaw.master_kind {s : State} (h : RefsLaw s) {w : Warrant} (hw : w ∈ s.warrants) (live : w.live = true)
    {i : SlotId} (e : w.master = i) (active : s.slots[i].activeKind.isSome = true) :
    ∃ p, s.slots[i].activeKind = some (.derivation p w.issuer) := by
  subst e
  rw [← Slot.isActive_eq] at active
  exact (Slot.masterRefusal_eq_none _ _).1 (h.issuers w hw live active)

/-- The law goes over to a state whose references are old ones, or new ones to a fit slot in service, and whose slots are as
references saw them, unnamed, or out of service no longer ACTIVE. -/
theorem RefsLaw.carry {s t : State} (h : RefsLaw s) (service : t.mode.inService = true → s.mode.inService = true)
    (erasing : t.mode = .erasing → s.mode = .erasing) (ids : t.warrants.Pairwise fun a b => a.id < b.id)
    (live : ∀ w ∈ t.warrants, w.live = true →
      (∃ v ∈ s.warrants, v.live = true ∧ v.master = w.master ∧ v.issuer = w.issuer) ∨
        s.mode.inService = true ∧ t.slots[w.master].masterRefusal w.issuer = none)
    (bound : ∀ (l : LaneId) (i : SlotId), t.lanes[l].transport = some i →
      s.lanes[l].transport = some i ∨ s.mode.inService = true ∧ t.slots[i].transportRefusal = none)
    (slots : ∀ i : SlotId, t.slots[i].activeKind = s.slots[i].activeKind ∨ t.countRefs i = 0 ∨
      t.slots[i].activeKind = none ∧ t.mode.inService = false)
    (counts : t.mode.inService = true → ∀ i : SlotId, t.slots[i].refs = t.countRefs i)
    (process : t.custody.process.isSome = true → t.mode.inService = true)
    (target : ∀ (p : Process) (i : SlotId), t.custody.process = some p → p.target = some i →
      t.slots[i].isActive = false) : RefsLaw t where
  ids := ids
  counts := counts
  process := process
  target := target
  masters ht w hw hl := by
    rw [Slot.isActive_eq]
    obtain ⟨v, hv, hvl, hm, _⟩ | ⟨_, hn⟩ := live w hw hl
    · obtain e | e | ⟨_, e⟩ := slots w.master
      · rw [e]; exact h.master_active (service ht) hv hvl hm
      · exact absurd rfl ((State.countRefs_eq_zero.1 e).1 w hw hl)
      · rw [ht] at e; simp at e
    · obtain ⟨p, e⟩ := (Slot.masterRefusal_eq_none _ _).1 hn
      rw [e]; rfl
  issuers w hw hl ha := by
    obtain ⟨v, hv, hvl, hm, hi⟩ | ⟨_, hn⟩ := live w hw hl
    · rw [Slot.masterRefusal_eq_none]
      rw [Slot.isActive_eq] at ha
      obtain e | e | ⟨e, _⟩ := slots w.master
      · rw [e] at ha ⊢
        rw [← hi]
        exact h.master_kind hv hvl hm ha
      · exact absurd rfl ((State.countRefs_eq_zero.1 e).1 w hw hl)
      · rw [e] at ha; simp at ha
    · exact hn
  transports ht l i hi := by
    rw [Slot.isActive_eq]
    obtain hs | ⟨_, hn⟩ := bound l i hi
    · obtain e | e | ⟨_, e⟩ := slots i
      · rw [e, ← Slot.isActive_eq]; exact h.transports (service ht) l i hs
      · exact absurd hi ((State.countRefs_eq_zero.1 e).2 l)
      · rw [ht] at e; simp at e
    · rw [(Slot.transportRefusal_eq_none _).1 hn]; rfl
  kinds l i hi ha := by
    obtain hs | ⟨_, hn⟩ := bound l i hi
    · rw [Slot.transportRefusal_eq_none]
      rw [Slot.isActive_eq] at ha
      obtain e | e | ⟨e, _⟩ := slots i
      · have := h.kinds l i hs
        rw [Slot.isActive_eq, Slot.transportRefusal_eq_none, ← e] at this
        exact this ha
      · exact absurd hi ((State.countRefs_eq_zero.1 e).2 l)
      · rw [e] at ha; simp at ha
    · exact hn
  released ht := by
    have hs : s.mode.inService ≠ true := by rw [erasing ht]; simp [Mode.inService]
    obtain ⟨noWarrant, noLane⟩ := h.released (erasing ht)
    refine ⟨fun w hw => Bool.eq_false_iff.2 fun hl => ?_, fun l => Option.eq_none_iff_forall_ne_some.2 fun i hi => ?_⟩
    · obtain ⟨v, hv, hvl, _⟩ | ⟨hn, _⟩ := live w hw hl
      · rw [noWarrant v hv] at hvl; simp at hvl
      · exact hs hn
    · obtain e | ⟨hn, _⟩ := bound l i hi
      · rw [noLane l] at e; simp at e
      · exact hs hn

/-- The law goes over where no warrant or binding changes, and a slot is as references saw and counted it, or, if nothing
used it, no longer ACTIVE. -/
theorem RefsLaw.of_slots {s t : State} (h : RefsLaw s) (service : t.mode.inService = s.mode.inService)
    (erasing : t.mode = .erasing ↔ s.mode = .erasing) (warrants : t.warrants = s.warrants)
    (transports : ∀ l : LaneId, t.lanes[l].transport = s.lanes[l].transport)
    (slots : ∀ i : SlotId, t.slots[i].activeKind = s.slots[i].activeKind ∧ t.slots[i].refs = s.slots[i].refs ∨
      t.slots[i].activeKind = none ∧ t.slots[i].refs = 0 ∧ (s.slots[i].isActive = false ∨ s.slots[i].refs = 0))
    (process : t.custody.process.isSome = true → s.mode.inService = true)
    (target : ∀ (p : Process) (i : SlotId), t.custody.process = some p → p.target = some i →
      s.slots[i].isActive = false) : RefsLaw t := by
  have count (i : SlotId) : t.countRefs i = s.countRefs i := State.countRefs_congr warrants transports i
  have unused (hs : s.mode.inService = true) (i : SlotId) (hi : s.slots[i].isActive = false ∨ s.slots[i].refs = 0) :
      s.countRefs i = 0 := by
    obtain hi | hi := hi
    · exact h.unnamed hs hi
    · rw [← h.counts hs i]; exact hi
  refine h.carry (fun ht => service ▸ ht) erasing.1 (warrants ▸ h.ids)
    (fun w hw hl => .inl ⟨w, warrants ▸ hw, hl, rfl, rfl⟩) (fun l i hi => .inl (transports l ▸ hi)) (fun i => ?_)
    (fun ht i => ?_) (fun hp => service ▸ process hp) (fun p i hp hi => ?_)
  · obtain ⟨e, _⟩ | ⟨e, _, hu⟩ := slots i
    · exact .inl e
    · cases hs : s.mode.inService with
      | true => exact .inr (.inl (by rw [count, unused hs i hu]))
      | false => exact .inr (.inr ⟨e, service.trans hs⟩)
  · rw [count]
    obtain ⟨_, e⟩ | ⟨_, e, hu⟩ := slots i
    · rw [e]; exact h.counts (service ▸ ht) i
    · rw [e, unused (service ▸ ht) i hu]
  · have hs := target p i hp hi
    rw [Slot.isActive_eq_false] at hs ⊢
    obtain ⟨e, _⟩ | ⟨e, _⟩ := slots i
    · rw [e, hs]
    · exact e

/-- A part whose warrants are all CLOSED, whose lanes are all UNBOUND and which has no command in process is lawful. -/
theorem RefsLaw.of_released {s : State} (ids : s.warrants.Pairwise fun a b => a.id < b.id)
    (warrants : ∀ w ∈ s.warrants, w.live = false) (lanes : ∀ l : LaneId, s.lanes[l].transport = none)
    (refs : s.mode.inService = true → ∀ i : SlotId, s.slots[i].refs = 0) (process : s.custody.process = none) :
    RefsLaw s where
  ids := ids
  counts hs i := by
    rw [refs hs i, State.countRefs_eq_zero.2 ⟨fun w hw hl => ?_, fun l e => ?_⟩]
    · rw [warrants w hw] at hl; simp at hl
    · rw [lanes l] at e; simp at e
  masters _ w hw hl := by rw [warrants w hw] at hl; simp at hl
  issuers w hw hl := by rw [warrants w hw] at hl; simp at hl
  transports _ l i e := by rw [lanes l] at e; simp at e
  kinds l i e := by rw [lanes l] at e; simp at e
  released _ := ⟨warrants, lanes⟩
  process hp := by rw [process] at hp; simp at hp
  target p i hp := by rw [process] at hp; simp at hp

/-- Out of service no command is in process. -/
theorem RefsLaw.process_none {s : State} (h : RefsLaw s) (hs : s.mode.inService = false) : s.custody.process = none := by
  cases hp : s.custody.process with
  | none => rfl
  | some p =>
    have := h.process (by rw [hp]; rfl)
    rw [hs] at this; simp at this

/-! ### The changes one by one -/

theorem RefsLaw.frame {s t : State} (h : RefsLaw s) (k : TablesKept s t) : RefsLaw t :=
  h.of_slots k.service k.erasing k.warrants k.transports (fun i => .inl (by rw [k.slots]; exact ⟨rfl, rfl⟩))
    (fun hp => h.process (k.process ▸ hp)) (fun p i hp => h.target p i (k.process ▸ hp))

/-- The command in process changes, and the engine with it. -/
theorem RefsLaw.withProcess {s : State} (h : RefsLaw s) (p : Option Process) (e : Engine)
    (service : p.isSome = true → s.mode.inService = true)
    (target : ∀ (q : Process) (i : SlotId), p = some q → q.target = some i → s.slots[i].isActive = false) :
    RefsLaw { s.inProcess p with engine := e } :=
  h.of_slots (t := { s.inProcess p with engine := e }) rfl .rfl rfl (fun _ => rfl) (fun _ => .inl ⟨rfl, rfl⟩) service target

/-- With no command in process the law asks nothing of one. -/
theorem RefsLaw.withoutProcess {s : State} (h : RefsLaw s) (e : Engine) :
    RefsLaw { s.inProcess none with engine := e } :=
  h.withProcess none e (by simp) fun _ _ hp => by simp at hp

theorem RefsLaw.grant {s : State} (h : RefsLaw s) : RefsLaw s.beginCustodyGrant :=
  h.of_slots (by rw [State.beginCustodyGrant_mode]) (by rw [State.beginCustodyGrant_mode])
    (by rw [State.beginCustodyGrant_warrants]) (fun _ => by rw [State.beginCustodyGrant_lanes])
    (fun _ => .inl (by rw [State.beginCustodyGrant_slots]; exact ⟨rfl, rfl⟩))
    (fun hp => h.process (by rwa [State.beginCustodyGrant_custody] at hp))
    (fun p i hp => h.target p i (by rwa [State.beginCustodyGrant_custody] at hp))

/-- A slot with an assembly is seen alike with any assembly part. -/
theorem State.setAssembly_body (s : State) (i j : SlotId) (p : Assembly) :
    (s.setAssembly i p).slots[j].body = s.slots[j].body := by
  by_cases e : i = j
  · subst e; rw [State.setAssembly_same]
  · rw [State.setAssembly_other _ _ _ _ e]

theorem State.setAssembly_refs (s : State) (i j : SlotId) (p : Assembly) :
    (s.setAssembly i p).slots[j].refs = s.slots[j].refs := by
  by_cases e : i = j
  · subst e; rw [State.setAssembly_same]
  · rw [State.setAssembly_other _ _ _ _ e]

theorem RefsLaw.combines {s : State} (h : RefsLaw s) (i : SlotId) (p : Assembly) : RefsLaw (s.setAssembly i p) :=
  h.of_slots rfl .rfl rfl (fun _ => rfl)
    (fun j => .inl ⟨Slot.activeKind_congr (s.setAssembly_body i j p), s.setAssembly_refs i j p⟩) h.process h.target

theorem RefsLaw.uses {s : State} (h : RefsLaw s) (i : SlotId) : RefsLaw (s.raiseUses i) :=
  h.of_slots rfl .rfl rfl (fun _ => rfl) (fun j => .inl ⟨s.raiseUses_activeKind i j, s.raiseUses_refs i j⟩) h.process
    h.target

theorem RefsLaw.assembles {s : State} (h : RefsLaw s) (i : SlotId) (a : Attributes) (p : Assembly)
    (empty : s.slots[i].body = .empty) : RefsLaw (s.writeSlot i (.assembling a) 0 (some p)) := by
  refine h.of_slots rfl .rfl rfl (fun _ => rfl) (fun j => ?_) h.process h.target
  by_cases e : i = j
  · subst e
    rw [State.writeSlot_same]
    exact .inr ⟨rfl, rfl, .inl (Slot.isActive_of_empty empty)⟩
  · rw [State.writeSlot_other _ _ _ _ _ _ e]
    exact .inl ⟨rfl, rfl⟩

theorem RefsLaw.blanks {s t : State} (h : RefsLaw s) (b : Blanked s t) : RefsLaw t := by
  obtain ⟨rest, slots⟩ := b
  rw [rest]
  refine h.of_slots (t := { s with slots := t.slots }) rfl .rfl rfl (fun _ => rfl) (fun i => ?_) h.process h.target
  obtain e | ⟨e, hu⟩ := slots i
  · exact .inl ⟨congrArg Slot.activeKind e, congrArg Slot.refs e⟩
  · exact .inr ⟨congrArg Slot.activeKind e, congrArg Slot.refs e, hu⟩

/-- The slot of the command in process becomes ACTIVE with nothing counted against it (R26, R50). -/
theorem RefsLaw.activates {s : State} (h : RefsLaw s) {p : Process} {i : SlotId} (now : s.custody.process = some p)
    (target : p.target = some i) (b : SlotBody) :
    RefsLaw { (s.writeSlot i b 0 none).inProcess none with engine := .idle } := by
  have service : s.mode.inService = true := h.process (by rw [now]; rfl)
  have unnamed : s.countRefs i = 0 := h.unnamed service (h.target p i now target)
  refine h.carry id id h.ids (fun w hw hl => .inl ⟨w, hw, hl, rfl, rfl⟩) (fun l j => .inl) (fun j => ?_) (fun hs j => ?_)
    (fun hp => by simp [State.inProcess] at hp) (fun q j hq => by simp [State.inProcess] at hq)
  · by_cases e : i = j
    · subst e; exact .inr (.inl unnamed)
    · exact .inl (congrArg Slot.activeKind (State.writeSlot_other s i j b 0 none e))
  · by_cases e : i = j
    · subst e
      exact (congrArg Slot.refs (State.writeSlot_same s i b 0 none)).trans unnamed.symm
    · exact (congrArg Slot.refs (State.writeSlot_other s i j b 0 none e)).trans (h.counts hs j)

theorem Warrant.SameUse.countP_on {us ws : List Warrant} (h : List.Forall₂ Warrant.SameUse us ws) (i : SlotId) :
    ws.countP (Warrant.on i) = us.countP (Warrant.on i) := by
  induction h with
  | nil => rfl
  | @cons u v _ _ k _ ih =>
    have e : v.on i = u.on i := by simp only [Warrant.on, k.live, k.master]
    simp only [List.countP_cons, ih, e]

/-- Changes to records that references do not see. -/
theorem RefsLaw.of_warrants {s : State} (h : RefsLaw s) {ws : List Warrant}
    (same : List.Forall₂ Warrant.SameUse s.warrants ws) :
    RefsLaw { s with warrants := ws } := by
  have swept : SweptTo s { s with warrants := ws } :=
    ⟨fun _ => .refl _, same.imp fun _ _ k => ⟨k.id, k.issuer, k.master, fun hl => k.live ▸ hl⟩, fun _ _ => id⟩
  refine h.carry (t := { s with warrants := ws }) id id (swept.ids h.ids) (fun w hw hl => ?_) (fun _ _ => .inl)
    (fun _ => .inl rfl) (fun hs i => ?_) h.process h.target
  · obtain ⟨v, hv, k⟩ := swept.mem hw
    exact .inl ⟨v, hv, k.live hl, k.master.symm, k.issuer.symm⟩
  · have := State.countRefs_warrants (s := s) (t := { s with warrants := ws }) (ws := ws) rfl rfl (fun _ => rfl) i
    have e := Warrant.SameUse.countP_on same i
    exact (h.counts hs i).trans (by omega)

theorem RefsLaw.revises {s : State} (h : RefsLaw s) {w : Warrant} {f : Warrant → Warrant} (mem : w ∈ s.warrants)
    (same : w.SameUse (f w)) : RefsLaw (s.setWarrant w.id f) := by
  obtain ⟨l, r, e, set, _⟩ := State.warrants_split h.ids mem
  refine h.of_warrants (ws := (s.setWarrant w.id f).warrants) ?_
  have refl (xs : List Warrant) : List.Forall₂ Warrant.SameUse xs xs := List.forall₂_same.2 fun _ _ => ⟨rfl, rfl, rfl, rfl⟩
  rw [e, set f]
  exact List.rel_append (refl l) (.cons same (refl r))

theorem Warrant.sameUse_debit (w : Warrant) : w.SameUse w.debit := by
  refine ⟨rfl, rfl, rfl, ?_⟩
  by_cases d : w.delivered + 1 = w.total <;> cases h : w.state <;> simp [Warrant.live, Warrant.debit, h, d]

theorem RefsLaw.debits {s : State} (h : RefsLaw s) (tie : Nat) : RefsLaw (s.debitTied tie) := by
  refine h.of_warrants (List.forall₂_map_right_iff.2 (List.forall₂_same.2 fun w _ => ?_))
  split
  · exact w.sameUse_debit
  · exact ⟨rfl, rfl, rfl, rfl⟩

/-- The law goes over where slots are seen as before, and only references and counts change. -/
theorem RefsLaw.recount {s t : State} (h : RefsLaw s) (mode : t.mode = s.mode) (custody : t.custody = s.custody)
    (ids : t.warrants.Pairwise fun a b => a.id < b.id)
    (live : ∀ w ∈ t.warrants, w.live = true →
      (∃ v ∈ s.warrants, v.live = true ∧ v.master = w.master ∧ v.issuer = w.issuer) ∨
        s.mode.inService = true ∧ s.slots[w.master].masterRefusal w.issuer = none)
    (bound : ∀ (l : LaneId) (i : SlotId), t.lanes[l].transport = some i →
      s.lanes[l].transport = some i ∨ s.mode.inService = true ∧ s.slots[i].transportRefusal = none)
    (kinds : ∀ i : SlotId, t.slots[i].activeKind = s.slots[i].activeKind)
    (counts : s.mode.inService = true → ∀ i : SlotId, t.slots[i].refs = t.countRefs i) : RefsLaw t := by
  refine h.carry (fun ht => mode ▸ ht) (fun ht => mode ▸ ht) ids (fun w hw hl => ?_) (fun l i hi => ?_)
    (fun i => .inl (kinds i)) (fun ht => counts (mode ▸ ht)) (fun hp => mode ▸ h.process (custody ▸ hp))
    (fun p i hp hi => ?_)
  · refine (live w hw hl).imp_right fun ⟨hs, hn⟩ => ⟨hs, ?_⟩
    rw [Slot.masterRefusal_eq_none] at hn ⊢
    rwa [kinds]
  · refine (bound l i hi).imp_right fun ⟨hs, hn⟩ => ⟨hs, ?_⟩
    rw [Slot.transportRefusal_eq_none] at hn ⊢
    rwa [kinds]
  · have := h.target p i (custody ▸ hp) hi
    rw [Slot.isActive_eq_false] at this ⊢
    rwa [kinds]

theorem RefsLaw.purges {s : State} (h : RefsLaw s) {w : Warrant} (mem : w ∈ s.warrants) (closed : w.live = false) :
    RefsLaw (s.removeWarrant w.id) := by
  obtain ⟨l, r, e, _, removed⟩ := State.warrants_split h.ids mem
  refine h.recount rfl rfl (h.ids.sublist List.filter_sublist)
    (fun v hv hl => .inl ⟨v, List.mem_of_mem_filter hv, hl, rfl, rfl⟩) (fun _ _ => .inl) (fun _ => rfl) (fun hs i => ?_)
  have := State.countRefs_warrants e removed (fun _ => rfl) i
  rw [List.countP_append, List.countP_append, Warrant.countP_on_closed closed] at this
  exact (h.counts hs i).trans (by omega)

/-- A slot whose count is set is seen as before. -/
theorem State.setRefs_activeKind (s : State) (i j : SlotId) (n : Nat) :
    (s.setRefs i n).slots[j].activeKind = s.slots[j].activeKind := Slot.activeKind_congr (s.setRefs_body i j n)

theorem RefsLaw.closes {s : State} (h : RefsLaw s) {w : Warrant} (r : CloseReason) (mem : w ∈ s.warrants)
    (live : w.live = true) :
    RefsLaw ((s.setWarrant w.id fun x => { x with state := .closed r }).lowerRefs w.master) := by
  obtain ⟨xs, ys, e, set, _⟩ := State.warrants_split h.ids mem
  let u := s.setWarrant w.id fun x => { x with state := .closed r }
  have swept : SweptTo s u := by
    refine ⟨fun _ => .refl _, ?_, fun _ _ => id⟩
    have refl (zs : List Warrant) : List.Forall₂ Warrant.Swept zs zs := List.forall₂_same.2 fun z _ => .refl z
    rw [e, set]
    exact List.rel_append (refl xs) (.cons ⟨rfl, rfl, rfl, fun _ => live⟩ (refl ys))
  refine h.recount (t := u.lowerRefs w.master) rfl rfl (swept.ids h.ids) (fun v hv hl => ?_) (fun _ _ => .inl)
    (fun i => u.setRefs_activeKind _ i _) (fun hs i => ?_)
  · obtain ⟨x, hx, k⟩ := swept.mem hv
    exact .inl ⟨x, hx, k.live hl, k.master.symm, k.issuer.symm⟩
  · have count := State.countRefs_warrants (t := u.lowerRefs w.master) e (set _) (fun _ => rfl) i
    rw [List.countP_append, List.countP_append, Warrant.countP_on_live live, Warrant.countP_on_closed rfl] at count
    rw [State.lowerRefs, State.setRefs_refs]
    change (if w.master = i then s.slots[w.master].refs - 1 else s.slots[i].refs) = (u.lowerRefs w.master).countRefs i
    rw [h.counts hs, h.counts hs]
    by_cases hi : w.master = i
    · subst hi
      rw [if_pos rfl] at count ⊢
      omega
    · rw [if_neg hi] at count ⊢
      omega

theorem RefsLaw.opens {s : State} (h : RefsLaw s) {w : Warrant} (service : s.mode.inService = true) (live : w.live = true)
    (ok : s.openRefusal w = none) : RefsLaw (s.addWarrant w) := by
  have fresh : ∀ x ∈ s.warrants, x.id ≠ w.id := by
    unfold State.openRefusal at ok
    split at ok
    · simp at ok
    · rename_i hn
      simpa [State.warrant] using hn
  have fit : s.slots[w.master].masterRefusal w.issuer = none := by
    unfold State.openRefusal at ok
    split at ok
    · simp at ok
    · split at ok
      · simp at ok
      · exact ok
  have perm := insertWarrant_perm w s.warrants
  let u : State := { s with warrants := insertWarrant w s.warrants, nextSerial := s.nextSerial + 1 }
  refine h.recount (t := u.raiseRefs w.master) rfl rfl (insertWarrant_pairwise h.ids fresh) (fun v hv hl => ?_)
    (fun _ _ => .inl) (fun i => u.setRefs_activeKind _ i _) (fun hs i => ?_)
  · obtain rfl | hv := List.mem_cons.1 (perm.mem_iff.1 hv)
    · exact .inr ⟨service, fit⟩
    · exact .inl ⟨v, hv, hl, rfl, rfl⟩
  · have count := State.countRefs_warrants (s := s) (t := u.raiseRefs w.master) (ws := u.warrants) rfl rfl (fun _ => rfl) i
    rw [show u.warrants = insertWarrant w s.warrants from rfl, perm.countP_eq, Warrant.countP_on_live live] at count
    rw [State.raiseRefs, State.setRefs_refs]
    change (if w.master = i then s.slots[w.master].refs + 1 else s.slots[i].refs) = (u.raiseRefs w.master).countRefs i
    rw [h.counts hs, h.counts hs]
    by_cases hi : w.master = i
    · subst hi
      rw [if_pos rfl] at count ⊢
      omega
    · rw [if_neg hi] at count ⊢
      omega

/-- The counts after the references of a binding are moved; the slot bound before has been counted. -/
theorem State.moveRefs_refs (s : State) (old : Option SlotId) (new i : SlotId)
    (counted : old = some i → 0 < s.slots[i].refs) :
    (s.moveRefs old new).slots[i].refs + (if old = some i then 1 else 0) =
      s.slots[i].refs + (if some new = some i then 1 else 0) := by
  unfold State.moveRefs
  by_cases same : old = some new
  · rw [if_pos same, same]
  · rw [if_neg same, State.raiseRefs, State.setRefs_refs]
    cases old with
    | none =>
      by_cases hn : new = i
      · subst hn; simp [State.lowerRefsOf]
      · simp [State.lowerRefsOf, hn]
    | some j =>
      have hnj : j ≠ new := fun e => same (by rw [e])
      simp only [State.lowerRefsOf, State.lowerRefs, State.setRefs_refs, Option.some.injEq]
      by_cases hn : new = i
      · subst hn; simp [hnj]
      · by_cases hj : j = i
        · subst hj
          have := counted rfl
          simp only [hn, if_true, if_false]
          omega
        · simp [hn, hj]

/-- Moving references leaves the slots' bodies and assembly parts. -/
theorem State.moveRefs_record (s : State) (old : Option SlotId) (new i : SlotId) :
    (s.moveRefs old new).slots[i].body = s.slots[i].body ∧ (s.moveRefs old new).slots[i].assembly = s.slots[i].assembly := by
  unfold State.moveRefs
  split
  · exact ⟨rfl, rfl⟩
  · rw [State.raiseRefs, State.setRefs_body, State.setRefs_assembly]
    cases old with
    | none => exact ⟨rfl, rfl⟩
    | some j => exact ⟨s.setRefs_body j i _, s.setRefs_assembly j i _⟩

/-- Moving references changes slots only. -/
theorem State.moveRefs_rest (s : State) (old : Option SlotId) (new : SlotId) :
    ∃ v, s.moveRefs old new = { s with slots := v } := by
  unfold State.moveRefs
  split
  · exact ⟨_, rfl⟩
  · cases old <;> exact ⟨_, rfl⟩

theorem RefsLaw.binds {s : State} (h : RefsLaw s) {l : LaneId} {i : SlotId} {x : Lane} (service : s.mode.inService = true)
    (ok : s.slots[i].transportRefusal = none) (now : x.transport = some i) :
    RefsLaw ((s.moveRefs s.lanes[l].transport i).setLane l x) := by
  obtain ⟨v, e⟩ := s.moveRefs_rest s.lanes[l].transport i
  have kinds (j : SlotId) : v[j].activeKind = s.slots[j].activeKind := by
    have := (s.moveRefs_record s.lanes[l].transport i j).1
    rw [e] at this
    exact Slot.activeKind_congr this
  have refs (j : SlotId) (hj : s.lanes[l].transport = some j → 0 < s.slots[j].refs) :=
    s.moveRefs_refs s.lanes[l].transport i j hj
  rw [e] at refs ⊢
  refine h.recount (t := { s with slots := v }.setLane l x) rfl rfl h.ids (fun w hw hl => .inl ⟨w, hw, hl, rfl, rfl⟩)
    (fun m j hj => ?_) kinds (fun hs j => ?_)
  · rw [State.setLane_transport] at hj
    split at hj
    · obtain rfl := Option.some.inj (now.symm.trans hj)
      exact .inr ⟨service, ok⟩
    · exact .inl hj
  · have count := s.countRefs_setLane l x j
    have refs := refs j fun hj => by
      rw [h.counts hs]
      exact Nat.pos_of_ne_zero fun hz => (State.countRefs_eq_zero.1 hz).2 l hj
    rw [h.counts hs] at refs
    rw [now] at count
    change v[j].refs = (s.setLane l x).countRefs j
    change v[j].refs + _ = _ at refs
    omega

theorem RefsLaw.unbinds {s : State} (h : RefsLaw s) {l : LaneId} {i : SlotId} {x : Lane}
    (before : s.lanes[l].transport = some i) (now : x.transport = none) : RefsLaw ((s.lowerRefs i).setLane l x) := by
  refine h.recount rfl rfl h.ids (fun w hw hl => .inl ⟨w, hw, hl, rfl, rfl⟩) (fun m j hj => ?_)
    (fun j => s.setRefs_activeKind i j _) (fun hs j => ?_)
  · rw [State.setLane_transport] at hj
    split at hj
    · rw [now] at hj; simp at hj
    · exact .inl hj
  · have count := s.countRefs_setLane l x j
    rw [now, before] at count
    simp only [Option.some.injEq, reduceCtorEq, if_false] at count
    change (s.setRefs i (s.slots[i].refs - 1)).slots[j].refs = (s.setLane l x).countRefs j
    rw [State.setRefs_refs, h.counts hs, h.counts hs]
    by_cases hj : i = j
    · subst hj
      rw [if_pos rfl] at count ⊢
      omega
    · rw [if_neg hj] at count ⊢
      omega

/-- The start of an erase closes every warrant and unbinds every lane (R141). -/
theorem RefsLaw.erases {s : State} (h : RefsLaw s) : RefsLaw s.eraseBegin := by
  refine .of_released (List.pairwise_map.2 (h.ids.imp fun {a b} hab => ?_)) (fun w hw => ?_) (fun l => ?_)
    (fun hs => by simp [State.eraseBegin, Mode.inService] at hs) rfl
  · rw [(a.closeLive_swept .tamper).id, (b.closeLive_swept .tamper).id]; exact hab
  · obtain ⟨v, _, rfl⟩ := List.mem_map.1 hw
    exact v.closeLive_live _
  · rw [State.eraseBegin, ofFn_get]; rfl

theorem RefsLaw.overwrites {s : State} (h : RefsLaw s) (hm : s.mode = .erasing) : RefsLaw s.overwriteNext := by
  obtain ⟨warrants, lanes⟩ := h.released hm
  refine .of_released ?_ ?_ ?_ (fun hs => ?_) ?_
  · rw [State.overwriteNext_warrants]; exact h.ids
  · rw [State.overwriteNext_warrants]; exact warrants
  · rw [State.overwriteNext_lanes]; exact lanes
  · rw [State.overwriteNext_mode, hm] at hs; simp [Mode.inService] at hs
  · rw [State.overwriteNext_custody]; exact h.process_none (by rw [hm]; rfl)

theorem RefsLaw.completes {s : State} (h : RefsLaw s) (hm : s.mode = .erasing) :
    RefsLaw { s with slots := Vector.ofFn Slot.blank, storage := { current := none, previous := none }, mode := .locked } := by
  obtain ⟨warrants, lanes⟩ := h.released hm
  exact .of_released h.ids warrants lanes (fun _ i => by rw [ofFn_get]; rfl) (h.process_none (by rw [hm]; rfl))

theorem RefsLaw.clears {s : State} (h : RefsLaw s) (m : Mode) (hm : s.mode = .starting .clearing) :
    RefsLaw { s.clearDomain with mode := m } :=
  .of_released .nil (by simp [State.clearDomain]) (fun l => by simp only [State.clearDomain, ofFn_get]; rfl)
    (fun _ i => by simp only [State.clearDomain, ofFn_get]; rfl) (h.process_none (by rw [hm]; rfl))

/-- A sweep, whole or cut off, keeps the law as long as it is not over. -/
theorem RefsLaw.swept {s t : State} (h : RefsLaw s) (k : SweptTo s t) (hs : s.mode = .starting .sweep)
    (mode : t.mode = s.mode) (custody : t.custody = s.custody) : RefsLaw t := by
  have out : t.mode.inService = false := by rw [mode, hs]; rfl
  have idle : t.custody.process = none := by rw [custody]; exact h.process_none (by rw [hs]; rfl)
  refine h.carry (fun ht => ?_) (fun ht => mode ▸ ht) (k.ids h.ids) (fun v hv hl => ?_) (fun l i hi => .inl (k.lanes l i hi))
    (fun i => ?_) (fun ht => ?_) (fun hp => ?_) (fun p i hp => ?_)
  · rw [out] at ht; simp at ht
  · obtain ⟨w, hw, u⟩ := k.mem hv
    exact .inl ⟨w, hw, u.live hl, u.master.symm, u.issuer.symm⟩
  · exact (k.slots i).activeKind.imp_right fun e => .inr ⟨e, out⟩
  · rw [out] at ht; simp at ht
  · rw [idle] at hp; simp at hp
  · rw [idle] at hp; simp at hp

/-- The end of the sweep makes the counts true (R154). -/
theorem RefsLaw.sweeps {s : State} (h : RefsLaw s) (m : Mode) (hs : s.mode = .starting .sweep) (hm : m ≠ .erasing) :
    RefsLaw { s.sweep with mode := m } := by
  have custody : s.sweep.custody = s.custody := State.sweepFirst_custody s 6
  have k : RefsLaw s.sweep := h.swept (sweptTo_sweepFirst s 6) hs (State.sweepFirst_mode s 6) custody
  have idle : s.sweep.custody.process = none := by rw [custody]; exact h.process_none (by rw [hs]; rfl)
  have counts := s.sweep_refs
  have masters := @State.sweep_masters s
  have transports := @State.sweep_transports s
  generalize s.sweep = u at k idle counts masters transports
  exact
    { ids := k.ids
      counts := fun _ => counts
      masters := fun _ _ hw hl => masters hw hl
      issuers := k.issuers
      transports := fun _ _ _ hi => transports hi
      kinds := k.kinds
      released := fun he => absurd he hm
      process := fun hp => by rw [idle] at hp; simp at hp
      target := fun p i hp => by rw [idle] at hp; simp at hp }

theorem State.volatileStart_slot (s : State) (i : SlotId) :
    s.volatileStart.slots[i] = { s.slots[i] with assembly := none } := by simp only [State.volatileStart, ofFn_get]

theorem State.volatileStart_transport (s : State) (l : LaneId) :
    s.volatileStart.lanes[l].transport = s.lanes[l].transport := by
  simp only [State.volatileStart, ofFn_get, Lane.start]

theorem State.volatileStart_process (s : State) : s.volatileStart.custody.process = none := by
  simp only [State.volatileStart, Custody.start]

theorem RefsLaw.restarts {s : State} (h : RefsLaw s) (m : Mode) (service : m.inService = false) (erasing : m ≠ .erasing) :
    RefsLaw { s.volatileStart with mode := m } := by
  have warrants : s.volatileStart.warrants = s.warrants := s.volatileStart_warrants
  have lanes := s.volatileStart_transport
  have kinds (i : SlotId) : s.volatileStart.slots[i].activeKind = s.slots[i].activeKind := by
    rw [State.volatileStart_slot]; rfl
  have idle := s.volatileStart_process
  generalize s.volatileStart = u at warrants lanes kinds idle
  refine h.carry (t := { u with mode := m }) (fun hm => ?_) (fun hm => absurd hm erasing) (warrants ▸ h.ids)
    (fun w hw hl => .inl ⟨w, warrants ▸ hw, hl, rfl, rfl⟩) (fun l i hi => .inl (lanes l ▸ hi)) (fun i => .inl (kinds i))
    (fun hm => ?_) (fun hp => ?_) (fun p i hp => ?_)
  · rw [service] at hm; simp at hm
  · rw [service] at hm; simp at hm
  · rw [idle] at hp; simp at hp
  · rw [idle] at hp; simp at hp

/-- A storage key is written, and the part is OPERATIONAL or stays in its state (R41, R42). -/
theorem RefsLaw.storesKey {s : State} (h : RefsLaw s) (m : Mode) (u : StorageUnit) (hm : m.inService = s.mode.inService)
    (he : m = .erasing ↔ s.mode = .erasing) : RefsLaw { s with storage := u, mode := m } :=
  h.of_slots (t := { s with storage := u, mode := m }) hm he rfl (fun _ => rfl) (fun _ => .inl ⟨rfl, rfl⟩) h.process
    h.target

/-! ### Every change, and every step -/

theorem RefsLaw.change {s t : State} (h : RefsLaw s) (c : Change s t) : RefsLaw t := by
  cases c with
  | frame k => exact h.frame k
  | grant => exact h.grant
  | begins p free service ok target =>
    exact h.withProcess (some p) s.engine (fun _ => service) fun q i e => by obtain rfl := Option.some.inj e; exact target i
  | goesOn g p q now ok target =>
    refine h.withProcess (some p) _ (fun _ => h.process (by rw [now]; rfl)) fun p' i e hi => ?_
    obtain rfl := Option.some.inj e
    exact (target i hi).elim id (h.target q i now)
  | abandons i c v k l e e' now =>
    refine h.withProcess (some _) s.engine (fun _ => h.process (by rw [now]; rfl)) fun p j e hj => ?_
    obtain rfl := Option.some.inj e
    simp [Process.target] at hj
  | finishes e out => exact h.withoutProcess e
  | combines i a p p' part free => exact h.combines i p'
  | passes g op i a p c engine now => exact h.activates now rfl _
  | imports g op i t b n k1 k2 a c engine now => exact h.activates now rfl _
  | initialises g op d engine now =>
    have service : s.mode.inService = true := h.process (by rw [now]; rfl)
    have k := h.storesKey .operational ⟨some (storageKey d 1 op.result), none⟩ service.symm
      ⟨nofun, fun he => by rw [he] at service; simp [Mode.inService] at service⟩
    exact k.withoutProcess .idle
  | rolls g op d old engine now =>
    have k := h.storesKey s.mode ⟨some (storageKey d (old.generation + 1) op.result), some old⟩ rfl .rfl
    exact k.withoutProcess .idle
  | assembles i a p free empty => exact h.assembles i a p empty
  | blanks b => exact h.blanks b
  | opens w service live ok => exact h.opens service live ok
  | revises w f mem same => exact h.revises mem same
  | debits tie => exact h.debits tie
  | closes w r mem live => exact h.closes r mem live
  | purges w mem closed => exact h.purges mem closed
  | binds l i x service ok now => exact h.binds service ok now
  | unbinds l i x before now => exact h.unbinds before now
  | uses i => exact h.uses i
  | erases => exact h.erases
  | overwrites hm => exact h.overwrites hm
  | completes hm => exact h.completes hm
  | cuts n records hm =>
    exact h.swept (sweptTo_cut s n records) hm (by rw [State.partly_mode, State.sweepFirst_mode])
      (by rw [State.partly_custody, State.sweepFirst_custody])
  | restarts m service erasing => exact h.restarts m service erasing
  | clears m hm => exact h.clears m hm
  | sweeps m hm erasing => exact h.sweeps m hm erasing

/-- What every change keeps, every step keeps. -/
theorem Changes.keep {P : State → Prop} (h : ∀ {s t}, P s → Change s t → P t) {s t : State} (hs : P s) (c : Changes s t) :
    P t := by
  induction c with
  | refl => exact hs
  | tail _ c ih => exact h ih c

/-- Settles O47: the law is kept by every change a step can make to the tables. -/
theorem refsLawIsKept : Obligations.RefsLawIsKept :=
  fun _ _ h sound e => Changes.keep RefsLaw.change h (step_changes sound e)

end Sys2Proof.Machine
end

section
/-! PROOFS. The laws of storage keys and of check values through every change to the tables (R4, R37 to R39):
StoredKeysStayTrue. -/

namespace Sys2Proof.Machine

/-! ### The custody command in process and its grant -/

/-- A custody grant serves a command in process (R122). -/
def State.HolderServes (s : State) : Prop := ∀ g, s.engine = .custody g → s.custody.process.isSome = true

/-- What a change does with the custody command in process: it is the one before or one just admitted, and its grant is the one
before or has just read its key; of a component check the laws below say nothing. -/
structure CustodyMoves (s t : State) : Prop where
  holder : t.HolderServes
  admitted : ∀ p, t.custody.process = some p → s.custody.process = some p ∨ p.Admitted t
  reads : ∀ p g, t.custody.process = some p → t.engine = .custody g →
    s.custody.process = some p ∧ s.engine = .custody g ∨ g.op = t.custodyOp p ∨
      ∃ i c v k l e, p = .componentCheck i c v k l e

/-- Custody and its grant are left alone. -/
theorem CustodyMoves.of_same {s t : State} (holder : s.HolderServes)
    (process : t.custody.process = s.custody.process := by rfl)
    (engine : ∀ g, t.engine = .custody g → s.engine = .custody g := by exact fun _ => id) :
    CustodyMoves s t where
  holder g hg := process ▸ holder g (engine g hg)
  admitted _ hp := .inl (process ▸ hp)
  reads _ g hp hg := .inl ⟨process ▸ hp, engine g hg⟩

/-- No custody command is in process any more, and the engine is out of custody's hands. -/
theorem CustodyMoves.of_out {s t : State} (process : t.custody.process = none) (engine : ∀ g, t.engine ≠ .custody g) :
    CustodyMoves s t where
  holder g hg := absurd hg (engine g)
  admitted _ hp := by rw [process] at hp; simp at hp
  reads _ g _ hg := absurd hg (engine g)

theorem CustodyMoves.grant {s : State} (holder : s.HolderServes) : CustodyMoves s s.beginCustodyGrant := by
  unfold State.beginCustodyGrant
  dsimp only
  split
  · exact .of_same holder
  · rename_i p hp
    change s.custody.process = some p at hp
    exact
      { holder := fun _ _ => by change s.custody.process.isSome = true; rw [hp]; rfl
        admitted := fun _ => .inl
        reads := fun q g hq hg => by
          obtain rfl := Option.some.inj (hp.symm.trans hq)
          obtain rfl := Engine.custody.inj hg
          cases p <;> exact .inr (.inl rfl) }

theorem Change.custodyMoves {s t : State} (holder : s.HolderServes) (c : Change s t) : CustodyMoves s t := by
  cases c with
  | frame k => exact .of_same holder k.process k.engine
  | grant => exact .grant holder
  | begins p free service ok target =>
    have out (g : CustodyGrant) : s.engine ≠ .custody g := fun hg => by have := holder g hg; rw [free] at this; simp at this
    exact
      { holder := fun g hg => absurd hg (out g)
        admitted := fun q hq => by obtain rfl := Option.some.inj hq; exact .inr (by cases p <;> exact ok)
        reads := fun _ g _ hg => absurd hg (out g) }
  | goesOn g p q now ok target =>
    exact
      { holder := fun _ _ => rfl
        admitted := fun p' hp => by obtain rfl := Option.some.inj hp; exact .inr (by cases p <;> exact ok)
        reads := fun p' g' hp hg => by
          obtain rfl := Option.some.inj hp
          obtain rfl := Engine.custody.inj hg
          exact .inr (.inl (by cases p <;> rfl)) }
  | abandons i c v k l e e' now =>
    exact
      { holder := fun _ _ => rfl
        admitted := fun p hp => by obtain rfl := Option.some.inj hp; exact .inr trivial
        reads := fun p g hp _ => by
          obtain rfl := Option.some.inj hp
          exact .inr (.inr ⟨i, c, v, k, l, e', rfl⟩) }
  | finishes e out => exact .of_out rfl out
  | combines => exact .of_same holder
  | passes => exact .of_out rfl nofun
  | imports => exact .of_out rfl nofun
  | initialises => exact .of_out rfl nofun
  | rolls => exact .of_out rfl nofun
  | assembles => exact .of_same holder
  | blanks b => rw [b.rest]; exact .of_same holder
  | opens => exact .of_same holder
  | revises => exact .of_same holder
  | debits => exact .of_same holder
  | closes => exact .of_same holder
  | purges => exact .of_same holder
  | binds l i x =>
    obtain ⟨v, e⟩ := s.moveRefs_rest s.lanes[l].transport i
    rw [e]
    exact .of_same holder
  | unbinds => exact .of_same holder
  | uses => exact .of_same holder
  | erases => exact .of_out rfl nofun
  | overwrites =>
    exact .of_same holder (by rw [State.overwriteNext_custody])
      (fun g hg => by rwa [State.overwriteNext_engine] at hg)
  | completes => exact .of_same holder
  | cuts n records =>
    refine .of_same holder (by rw [State.partly_custody, State.sweepFirst_custody]) (fun g hg => ?_)
    rwa [State.partly_engine, State.sweepFirst_engine] at hg
  | restarts => exact .of_out rfl nofun
  | clears => exact .of_same holder
  | sweeps m =>
    have custody : s.sweep.custody = s.custody := State.sweepFirst_custody s 6
    have engine : s.sweep.engine = s.engine := State.sweepFirst_engine s 6
    generalize s.sweep = u at custody engine
    exact .of_same holder (congrArg Custody.process custody) fun g hg => engine ▸ hg

/-! ### Storage keys -/

/-- The law of storage keys goes over with the storage keys, and where they are gone. -/
theorem StorageLaw.carry {s t : State} (h : StorageLaw s) (m : CustodyMoves s t)
    (storage : t.storage = s.storage ∨ t.storage = { current := none, previous := none }) : StorageLaw t := by
  have drawn (p : Process) (g : CustodyGrant) (op : BlockOp) (hp : t.custody.process = some p) (hg : t.engine = .custody g)
      (own : t.custodyOp p = some op) (free : ∀ i c v k l e, p ≠ .componentCheck i c v k l e)
      (old : s.custody.process = some p → s.engine = .custody g → g.op = some op) : g.op = some op := by
    obtain ⟨hs, he⟩ | e | ⟨i, c, v, k, l, e, rfl⟩ := m.reads p g hp hg
    · exact old hs he
    · rw [e, own]
    · exact absurd rfl (free i c v k l e)
  have current : ∀ k, t.storage.current = some k → s.storage = t.storage ∧ s.storage.current = some k := fun k hk => by
    obtain e | e := storage
    · exact ⟨e.symm, e ▸ hk⟩
    · rw [e] at hk; simp at hk
  have previous : ∀ v, t.storage.previous = some v → s.storage = t.storage ∧ s.storage.previous = some v := fun v hv => by
    obtain e | e := storage
    · exact ⟨e.symm, e ▸ hv⟩
    · rw [e] at hv; simp at hv
  exact
    { current := fun k hk => h.current k (current k hk).2
      previous := fun v hv => by
        obtain ⟨e, hs⟩ := previous v hv
        rw [← e]
        exact h.previous v hs
      first := fun k hk hv => by
        obtain ⟨e, hs⟩ := current k hk
        exact h.first k hs (e ▸ hv)
      roll := fun d hp k hk => (m.admitted _ hp).elim (fun hs => h.roll d hs k (current k hk).2) fun ok => ok k hk
      holder := m.holder
      initialiseOp := fun d g hp hg => drawn _ g _ hp hg rfl nofun (h.initialiseOp d g)
      rollOp := fun d g hp hg => drawn _ g _ hp hg rfl nofun (h.rollOp d g) }

/-- A part with lawful keys and no custody command in process. -/
theorem StorageLaw.of_out {s : State} (current : ∀ k, s.storage.current = some k → k.Lawful)
    (previous : ∀ v, s.storage.previous = some v →
      v.Lawful ∧ ∃ k, s.storage.current = some k ∧ k.generation = v.generation + 1)
    (first : ∀ k, s.storage.current = some k → s.storage.previous = none → k.generation = 1)
    (process : s.custody.process = none) (engine : ∀ g, s.engine ≠ .custody g) : StorageLaw s where
  current := current
  previous := previous
  first := first
  roll d hp := by rw [process] at hp; simp at hp
  holder g hg := absurd hg (engine g)
  initialiseOp d g _ hg := absurd hg (engine g)
  rollOp d g _ hg := absurd hg (engine g)

/-- The pattern operation on a drawn key makes a lawful storage key (R38). -/
theorem storageKey_lawful (d : BitVec 256) {n : Nat} (h : 1 ≤ n ∧ n ≤ maxGeneration) :
    (storageKey d n (BlockOp.encipher (.k32 d) patternBlock).result).Lawful := ⟨rfl, h⟩

theorem StorageLaw.change {s t : State} (h : StorageLaw s) (c : Change s t) : StorageLaw t := by
  have m := c.custodyMoves h.holder
  cases c with
  | initialises g op d engine now op_eq =>
    obtain rfl := Option.some.inj (op_eq.symm.trans (h.initialiseOp d g now engine))
    refine .of_out (fun k hk => ?_) nofun (fun k hk _ => ?_) rfl nofun
    · obtain rfl := Option.some.inj hk
      exact storageKey_lawful d (by decide)
    · obtain rfl := Option.some.inj hk
      rfl
  | rolls g op d old engine now op_eq current =>
    obtain rfl := Option.some.inj (op_eq.symm.trans (h.rollOp d g now engine))
    have room := h.roll d now old current
    refine .of_out (fun k hk => ?_) (fun v hv => ?_) nofun rfl nofun
    · obtain rfl := Option.some.inj hk
      exact storageKey_lawful d ⟨by omega, by omega⟩
    · obtain rfl := Option.some.inj hv
      exact ⟨h.current old current, _, rfl, rfl⟩
  | frame k => exact h.carry m (.inl k.storage)
  | grant => exact h.carry m (.inl (by rw [State.beginCustodyGrant_storage]))
  | blanks b => exact h.carry m (.inl (by rw [b.rest]))
  | overwrites =>
    refine h.carry m ?_
    rw [State.overwriteNext_storage]
    split
    · exact .inr rfl
    · exact .inl rfl
  | completes => exact h.carry m (.inr rfl)
  | clears => exact h.carry m (.inr rfl)
  | binds l i x =>
    obtain ⟨v, e⟩ := s.moveRefs_rest s.lanes[l].transport i
    rw [e] at m ⊢
    exact h.carry m (.inl rfl)
  | cuts n records => exact h.carry m (.inl (by rw [State.partly_storage, State.sweepFirst_storage]))
  | sweeps =>
    have storage : s.sweep.storage = s.storage := State.sweepFirst_storage s 6
    generalize s.sweep = u at storage m
    exact h.carry m (.inl storage)
  | begins => exact h.carry m (.inl rfl)
  | goesOn => exact h.carry m (.inl rfl)
  | abandons => exact h.carry m (.inl rfl)
  | finishes => exact h.carry m (.inl rfl)
  | combines => exact h.carry m (.inl rfl)
  | passes => exact h.carry m (.inl rfl)
  | imports => exact h.carry m (.inl rfl)
  | assembles => exact h.carry m (.inl rfl)
  | opens => exact h.carry m (.inl rfl)
  | revises => exact h.carry m (.inl rfl)
  | debits => exact h.carry m (.inl rfl)
  | closes => exact h.carry m (.inl rfl)
  | purges => exact h.carry m (.inl rfl)
  | unbinds => exact h.carry m (.inl rfl)
  | uses => exact h.carry m (.inl rfl)
  | erases => exact h.carry m (.inl rfl)
  | restarts =>
    have storage := s.volatileStart_storage
    generalize s.volatileStart = u at storage m
    exact h.carry m (.inl storage)

/-- A fault of the battery-backed memory does not reach the storage keys or the custody command in process. -/
theorem StorageLaw.memoryFault {s t : State} (h : StorageLaw s) {i : SlotId} {b : SlotBody} {n : Nat} {w : BitVec 32}
    (e : exec (.batteryBackedMemoryFault i b n w) s = .next t) : StorageLaw t := by
  simp only [exec, execBatteryBackedMemoryFault] at e
  split at e
  · obtain rfl := Host.Outcome.next.inj e
    exact h.carry (.of_same h.holder) (.inl rfl)
  · obtain rfl := Host.Outcome.next.inj e
    exact h

theorem StorageLaw.step {s t : State} (h : StorageLaw s) (e : step s = .next t) : StorageLaw t := by
  by_cases sound : MemorySound s
  · exact Changes.keep StorageLaw.change h (step_changes sound e)
  · simp only [MemorySound, not_forall, not_not] at sound
    obtain ⟨i, b, n, w, hd⟩ := sound
    obtain ⟨cs, hp⟩ : ∃ cs, s.pending = .batteryBackedMemoryFault i b n w :: cs := by
      cases hp : s.pending with
      | nil => rw [hp] at hd; simp at hd
      | cons c cs => rw [hp] at hd; exact ⟨cs, by rw [Option.some.inj hd]⟩
    simp only [Machine.step, hp] at e
    exact StorageLaw.memoryFault (s := s.withPending cs) (h.carry (.of_same h.holder) (.inl rfl)) e

/-! ### Check values -/

/-- The key and the check value of an ACTIVE or FAULTY record. -/
def SlotBody.held : SlotBody → Option (KeyValue × CheckValue)
  | .active _ c => some (c.key, c.check)
  | .faulty _ c => some (c.key, c.check)
  | .empty => none
  | .assembling _ => none

theorem SlotBody.held_eq_some {b : SlotBody} {x : KeyValue × CheckValue} :
    b.held = some x ↔ ∃ a c, (b = .active a c ∨ b = .faulty a c) ∧ (c.key, c.check) = x := by
  cases b <;> simp [SlotBody.held]

theorem SlotBody.held_raiseUses (b : SlotBody) : b.raiseUses.held = b.held := by cases b <;> rfl

/-- A slot keeps its key with its check value, and its assembly, or has none. -/
structure Slot.KeyKept (a b : Slot) : Prop where
  held : b.body.held = a.body.held ∨ b.body.held = none
  part : b.assemblyOf = a.assemblyOf ∨ b.assemblyOf = none

theorem Slot.KeyKept.of_record {a b : Slot} (body : b.body = a.body) (assembly : b.assembly = a.assembly) :
    a.KeyKept b := ⟨.inl (by rw [body]), .inl (by simp only [Slot.assemblyOf, body, assembly])⟩

theorem Slot.KeyKept.refl (a : Slot) : a.KeyKept a := .of_record rfl rfl

theorem Slot.KeyKept.blank (a : Slot) (i : SlotId) : a.KeyKept (Slot.blank i) := ⟨.inr rfl, .inr rfl⟩

theorem Slot.Swept.keyKept {a b : Slot} (h : a.Swept b) : a.KeyKept b := by
  refine ⟨?_, h.assemblyOf⟩
  cases h with
  | same hb _ => exact .inl (by rw [hb])
  | faulted _ _ ha hb _ => exact .inl (by rw [ha, hb]; rfl)
  | emptied hb _ => exact .inr (by rw [hb]; rfl)

theorem State.keyKept_setRefs (s : State) (i j : SlotId) (n : Nat) : s.slots[j].KeyKept (s.setRefs i n).slots[j] :=
  .of_record (s.setRefs_body i j n) (s.setRefs_assembly i j n)

theorem State.keyKept_raiseUses (s : State) (i j : SlotId) : s.slots[j].KeyKept (s.raiseUses i).slots[j] := by
  by_cases e : i = j
  · subst e
    rw [State.raiseUses, State.writeSlot_same]
    refine ⟨.inl (SlotBody.held_raiseUses _), .inl ?_⟩
    cases hb : s.slots[i].body <;> simp only [Slot.assemblyOf, SlotBody.raiseUses, hb]
  · rw [State.raiseUses, State.writeSlot_other _ _ _ _ _ _ e]
    exact .refl _

theorem Blanked.keyKept {s t : State} (b : Blanked s t) (i : SlotId) : s.slots[i].KeyKept t.slots[i] := by
  obtain e | ⟨e, _⟩ := b.slots i
  · rw [e]; exact .refl _
  · rw [e]; exact .blank _ i

theorem State.keyKept_overwriteNext (s : State) (i : SlotId) : s.slots[i].KeyKept s.overwriteNext.slots[i] := by
  rw [State.overwriteNext_slot]
  split
  · exact .blank _ i
  · exact .refl _

/-- An ASSEMBLING slot hands its accumulator to the final check (R25). -/
theorem Slot.accumulator_of_assemblyOf {sl : Slot} {a : Attributes} {p : Assembly} (h : sl.assemblyOf = some (a, p)) :
    sl.accumulator = some p.accumulator := by
  unfold Slot.assemblyOf at h
  split at h
  · rename_i hb hp
    obtain ⟨_, rfl⟩ := Prod.mk.inj (Option.some.inj h)
    simp only [Slot.accumulator, hb, hp]
  · simp at h

theorem State.custodyOp_finalCheck {s : State} {i : SlotId} {a : Attributes} {p : Assembly}
    (h : s.slots[i].assemblyOf = some (a, p)) : s.custodyOp (.finalCheck i) = some (.encipher p.accumulator 0) := by
  simp only [State.custodyOp, Slot.accumulator_of_assemblyOf h, Option.map_some]

/-- An import with its key recovered goes on to its check value (R49). -/
theorem State.custodyOp_recovered (s : State) {i : SlotId} {t : Token} {b : Bool} {n : Nat} {k1 k2 : Option Block}
    {k : KeyValue} (h : recovered t k1 k2 = some k) :
    s.custodyOp (.tokenImport i t b n k1 k2) = some (.encipher k 0) := by
  cases k1 with
  | none => simp [recovered] at h
  | some x =>
    cases hw : t.w2 <;> cases k2 <;> simp only [recovered, hw, Option.some.injEq, reduceCtorEq] at h <;>
      simp only [State.custodyOp, hw, ← h]

/-- The law of check values goes over with keys and assemblies, and where no final check is in process with the keys alone. -/
theorem CheckLaw.carry {s t : State} (h : CheckLaw s) (m : CustodyMoves s t)
    (held : ∀ i : SlotId, t.slots[i].body.held = s.slots[i].body.held ∨ t.slots[i].body.held = none)
    (parts : (∀ j, t.custody.process ≠ some (.finalCheck j)) ∨
      ∀ i : SlotId, t.slots[i].assemblyOf = s.slots[i].assemblyOf ∨ t.slots[i].assemblyOf = none) : CheckLaw t := by
  have part {i : SlotId} {x : Attributes × Assembly} (hp : t.custody.process = some (.finalCheck i))
      (hx : t.slots[i].assemblyOf = some x) : s.slots[i].assemblyOf = some x := by
    obtain none | kept := parts
    · exact absurd hp (none i)
    · obtain e | e := kept i
      · rw [← e]; exact hx
      · rw [e] at hx; simp at hx
  exact
    { slots := fun i a c hb => by
        obtain e | e := held i
        · have hs := SlotBody.held_eq_some.2 ⟨a, c, hb, rfl⟩
          rw [e] at hs
          obtain ⟨a', c', hb', e'⟩ := SlotBody.held_eq_some.1 hs
          obtain ⟨hk, hc⟩ := Prod.mk.inj e'
          rw [← hk, ← hc]
          exact h.slots i a' c' hb'
        · have ht := SlotBody.held_eq_some.2 ⟨a, c, hb, rfl⟩
          rw [e] at ht; simp at ht
      holder := m.holder
      finalOp := fun i g a p hp hg hx => by
        obtain ⟨hs, he⟩ | e | ⟨_, _, _, _, _, _, e⟩ := m.reads _ g hp hg
        · exact h.finalOp i g a p hs he (part hp hx)
        · rw [e, State.custodyOp_finalCheck hx]
        · simp at e
      checking := fun i hp a p hx => by
        obtain hs | ⟨a', p', hx', hc⟩ := m.admitted _ hp
        · exact h.checking i hs a p (part hp hx)
        · obtain ⟨_, rfl⟩ := Prod.mk.inj (Option.some.inj (hx.symm.trans hx'))
          exact hc
      importOp := fun i tk b n k1 k2 g k hp hg hr => by
        obtain ⟨hs, he⟩ | e | ⟨_, _, _, _, _, _, e⟩ := m.reads _ g hp hg
        · exact h.importOp i tk b n k1 k2 g k hs he hr
        · rw [e, State.custodyOp_recovered t hr]
        · simp at e }

theorem CheckLaw.kept {s t : State} (h : CheckLaw s) (m : CustodyMoves s t)
    (slots : ∀ i : SlotId, s.slots[i].KeyKept t.slots[i]) : CheckLaw t :=
  h.carry m (fun i => (slots i).held) (.inr fun i => (slots i).part)

theorem CheckLaw.swept {s u : State} (h : CheckLaw s) (n : Mode) (m : CustodyMoves s { u with mode := n })
    (swept : SweptTo s u) : CheckLaw { u with mode := n } :=
  h.kept m fun i => (swept.slots i).keyKept

/-- A slot becomes ACTIVE with a key whose check value has been computed (R26, R50). -/
theorem CheckLaw.activates {s : State} (h : CheckLaw s) (i : SlotId) (a : Attributes) (c : Contents)
    (check : c.check = checkValue c.key) :
    CheckLaw { (s.writeSlot i (.active a c) 0 none).inProcess none with engine := .idle } where
  slots j a' c' hb := by
    by_cases e : i = j
    · subst e
      have hw := congrArg Slot.body (State.writeSlot_same s i (.active a c) 0 none)
      obtain hb | hb := hb
      · obtain ⟨_, rfl⟩ := SlotBody.active.inj (hw.symm.trans hb)
        exact check
      · exact absurd (hw.symm.trans hb) (by simp)
    · have hw := congrArg Slot.body (State.writeSlot_other s i j (.active a c) 0 none e)
      exact h.slots j a' c' (hb.imp (hw.symm.trans ·) (hw.symm.trans ·))
  holder := nofun
  finalOp _ _ _ _ hp := by simp [State.inProcess] at hp
  checking _ hp := by simp [State.inProcess] at hp
  importOp _ _ _ _ _ _ _ _ hp := by simp [State.inProcess] at hp

theorem CheckLaw.change {s t : State} (h : CheckLaw s) (c : Change s t) : CheckLaw t := by
  have m := c.custodyMoves h.holder
  have same : ∀ i : SlotId, s.slots[i].KeyKept s.slots[i] := fun _ => .refl _
  cases c with
  | passes g op i a p c engine now op_eq part key check =>
    obtain rfl := Option.some.inj (op_eq.symm.trans (h.finalOp i g a p now engine part))
    exact h.activates i a c (by rw [check, key]; rfl)
  | imports g op i t b n k1 k2 a c engine now op_eq key check =>
    obtain rfl := Option.some.inj (op_eq.symm.trans (h.importOp i t b n k1 k2 g c.key now engine key))
    exact h.activates i a c check
  | combines i a p p' part free =>
    exact h.carry m (fun j => .inl (by rw [State.setAssembly_body])) (.inl free)
  | assembles i a p free empty =>
    refine h.carry m (fun j => ?_) (.inl fun j => ?_)
    · by_cases e : i = j
      · subst e; rw [State.writeSlot_same]; exact .inr rfl
      · rw [State.writeSlot_other _ _ _ _ _ _ e]; exact .inl rfl
    · change s.custody.process ≠ _
      rw [free]; simp
  | frame k => exact h.kept m fun i => by rw [k.slots]; exact .refl _
  | grant => exact h.kept m fun i => by rw [State.beginCustodyGrant_slots]; exact .refl _
  | blanks b => exact h.kept m b.keyKept
  | opens w => exact h.kept m fun i => State.keyKept_setRefs _ _ i _
  | closes w => exact h.kept m fun i => State.keyKept_setRefs _ _ i _
  | unbinds l j => exact h.kept m fun i => State.keyKept_setRefs _ _ i _
  | binds l j x =>
    refine h.kept m fun i => ?_
    obtain ⟨body, assembly⟩ := s.moveRefs_record s.lanes[l].transport j i
    exact .of_record body assembly
  | uses j => exact h.kept m fun i => s.keyKept_raiseUses j i
  | overwrites => exact h.kept m s.keyKept_overwriteNext
  | completes => exact h.kept m fun i => by rw [ofFn_get]; exact .blank _ i
  | clears => exact h.kept m fun i => by simp only [State.clearDomain, ofFn_get]; exact .blank _ i
  | cuts n records => exact h.kept m fun i => ((sweptTo_cut s n records).slots i).keyKept
  | sweeps n => exact CheckLaw.swept (u := s.sweep) h n m (sweptTo_sweepFirst s 6)
  | restarts =>
    refine h.kept m fun i => ?_
    simp only [State.volatileStart_slot]
    exact ⟨.inl rfl, .inr (by simp only [Slot.assemblyOf]; split <;> simp_all)⟩
  | begins => exact h.kept m same
  | goesOn => exact h.kept m same
  | abandons => exact h.kept m same
  | finishes => exact h.kept m same
  | initialises => exact h.kept m same
  | rolls => exact h.kept m same
  | revises => exact h.kept m same
  | debits => exact h.kept m same
  | purges => exact h.kept m same
  | erases => exact h.kept m same

/-- Settles O52: both laws are kept by every change a step can make to the tables; the first by a memory fault as well. -/
theorem storedKeysStayTrue : Obligations.StoredKeysStayTrue :=
  ⟨fun _ _ h e => h.step e, fun _ _ h sound e => Changes.keep CheckLaw.change h (step_changes sound e)⟩

end Sys2Proof.Machine
end

section
/-! PROOFS. The custody gate and the Key Table's own requests (R14, R16, R17): CustodyGateRefuses, SlotStatusReportsTheRecord,
SlotEraseEmptiesAnUnusedSlot. -/

namespace Sys2Proof.Machine

/-! ### Bodies that can be read (R171) -/

theorem readByte_of_length {body : List Byte} (h : body.length = 1) :
    ∃ b, readByte body = some b ∧ body.head? = some b := by
  obtain ⟨b, rfl⟩ := List.length_eq_one_iff.1 h
  exact ⟨b, rfl, rfl⟩

theorem readNothing_of_length {body : List Byte} (h : body.length = 0) : readNothing body = some () := by
  rw [List.length_eq_zero_iff.1 h]; rfl

theorem readImport_of_length {body : List Byte} (h : 1 ≤ body.length) :
    ∃ f, readImport body = some f ∧ body.head? = some f.1 := by
  cases body with
  | nil => simp at h
  | cons b token => exact ⟨(b, token), rfl, rfl⟩

theorem readAssemble_of_length {body : List Byte} (h : body.length = 10) :
    ∃ f, readAssemble body = some f ∧ body.head? = some f.slot :=
  match body, h with
  | [_, _, _, _, _, _, _, _, _, _], _ => ⟨_, rfl, rfl⟩

theorem readComponent_of_length {body : List Byte}
    (h : body.length = 18 ∨ body.length = 21 ∨ body.length = 34 ∨ body.length = 37) :
    ∃ f, readComponent body = some f ∧ body.head? = some f.slot := by
  match body with
  | [] => simp at h
  | [_] => simp at h
  | s :: c :: rest =>
    simp only [List.length_cons, Nat.reduceEqDiff] at h
    obtain h | h | h | h := h <;> exact ⟨_, by simp only [readComponent, h]; rfl, rfl⟩

/-! ### The gate on a command (R14) -/

/-- The gate of this row stands before the command: its refusals, and PARAMETER for the slot the body names, are answered before
anything else. -/
structure GatedBy (s : State) (c : Instr) (kind : Byte) (row : GateRow) (body : List Byte) : Prop where
  refuses : ∀ code, s.gate row = some code → exec c s = .next (s.afterRefusal kind code)
  slot : ∀ b, s.gate row = none → namedSlot kind body = some b → readSlot b = none →
    exec c s = .next (s.afterRefusal kind .parameter)

/-- A command that names no slot. -/
theorem GatedBy.of_gated {α : Type} {s : State} {c : Instr} {kind : Byte} {row : GateRow} {body : List Byte}
    {form : List Byte → Option α} {act : α → State → Res} {x : α} (takes : CustodyTakes s kind body)
    (hc : exec c s = s.takeCustody kind fun body s => s.readCustody kind (form body) fun x s => s.gated kind row (act x))
    (hx : form body = some x) (none : namedSlot kind body = Option.none) : GatedBy s c kind row body where
  refuses code hg := by
    rw [hc, takes.take]
    simp only [State.readCustody, hx, State.gated, State.gate_afterTaking, hg]
    rfl
  slot b _ hn := by rw [none] at hn; simp at hn

/-- A command whose body begins with the slot it names. -/
theorem GatedBy.of_gatedSlot {α : Type} {s : State} {c : Instr} {kind : Byte} {row : GateRow} {body : List Byte}
    {form : List Byte → Option α} {slot : α → Byte} {act : α → SlotId → State → Res} (takes : CustodyTakes s kind body)
    (hc : exec c s =
      s.takeCustody kind fun body s => s.readCustody kind (form body) fun x s => s.gatedSlot kind row (slot x) (act x))
    (hx : ∃ x, form body = some x ∧ body.head? = some (slot x)) (named : namedSlot kind body = body.head?) :
    GatedBy s c kind row body := by
  obtain ⟨x, hx, hb⟩ := hx
  exact
    { refuses := fun code hg => by
        rw [hc, takes.take]
        simp only [State.readCustody, hx, State.gatedSlot, State.gated, State.gate_afterTaking, hg]
        rfl
      slot := fun b hg hn hs => by
        obtain rfl : slot x = b := Option.some.inj (hb.symm.trans (named.symm.trans hn))
        rw [hc, takes.take]
        simp only [State.readCustody, hx, State.gatedSlot, State.gated, State.gate_afterTaking, hg, hs]
        rfl }

/-- Every command of R14's table has the gate of its row. -/
theorem gatedBy_of_mem {s : State} {raw : BitVec 6} {c : Instr} {kind : Byte} {u o k : Option Code} {needs : Bool}
    {body : List Byte} (mem : (c, kind, u, o, k, needs) ∈ gateTable raw) (takes : CustodyTakes s kind body)
    (fits : bodyFits kind body = true) : GatedBy s c kind ⟨u, o, k, needs⟩ body := by
  simp only [gateTable, List.mem_cons, Prod.mk.injEq, List.not_mem_nil, or_false] at mem
  obtain ⟨rfl, rfl, rfl, rfl, rfl, rfl⟩ | ⟨rfl, rfl, rfl, rfl, rfl, rfl⟩ | ⟨rfl, rfl, rfl, rfl, rfl, rfl⟩ |
    ⟨rfl, rfl, rfl, rfl, rfl, rfl⟩ | ⟨rfl, rfl, rfl, rfl, rfl, rfl⟩ | ⟨rfl, rfl, rfl, rfl, rfl, rfl⟩ |
    ⟨rfl, rfl, rfl, rfl, rfl, rfl⟩ | ⟨rfl, rfl, rfl, rfl, rfl, rfl⟩ | ⟨rfl, rfl, rfl, rfl, rfl, rfl⟩ |
    ⟨rfl, rfl, rfl, rfl, rfl, rfl⟩ | ⟨rfl, rfl, rfl, rfl, rfl, rfl⟩ := mem
  · exact .of_gatedSlot takes rfl (readAssemble_of_length (by simpa [bodyFits] using fits)) rfl
  · exact .of_gatedSlot takes rfl (readComponent_of_length (by simpa [bodyFits] using fits)) rfl
  · exact .of_gatedSlot takes rfl (readByte_of_length (by simpa [bodyFits] using fits)) rfl
  · exact .of_gatedSlot takes rfl (readByte_of_length (by simpa [bodyFits] using fits)) rfl
  · exact .of_gatedSlot takes rfl (readImport_of_length (by simpa [bodyFits] using fits)) rfl
  · exact .of_gated takes rfl (readNothing_of_length (by simpa [bodyFits] using fits)) rfl
  · exact .of_gated takes rfl (readNothing_of_length (by simpa [bodyFits] using fits)) rfl
  · exact .of_gated takes rfl (if_pos (by simpa [bodyFits] using fits)) rfl
  · exact .of_gated takes rfl (readNothing_of_length (by simpa [bodyFits] using fits)) rfl
  · exact .of_gatedSlot takes rfl (readByte_of_length (by simpa [bodyFits] using fits)) rfl
  · exact .of_gatedSlot takes rfl (readByte_of_length (by simpa [bodyFits] using fits)) rfl

/-- The gate's entry for a device state is that of the table. -/
theorem GateRow.entry_eq (u o k : Option Code) (needs : Bool) (m : Mode) :
    GateRow.entry ⟨u, o, k, needs⟩ m = gateEntry u o k m := by cases m <;> rfl

theorem readSlot_eq_none {b : Byte} : readSlot b = none ↔ 47 < b.toNat := by
  unfold readSlot
  split <;> simp <;> omega

/-- Settles O8: the gate's checks stand before each command of the table, in R14's order. -/
theorem custodyGateRefuses : Obligations.CustodyGateRefuses := by
  intro s raw c kind u o k needs body mem takes fits
  have gated := gatedBy_of_mem mem takes fits
  have gate : s.gate ⟨u, o, k, needs⟩ = match gateEntry u o k s.mode with
      | some code => some code
      | none => if needs && s.custody.position != .custody then some .notInCustody else none := by
    rw [← GateRow.entry_eq u o k needs]; rfl
  refine ⟨fun code he => gated.refuses code ?_, fun he hn hp => gated.refuses _ ?_, fun b he hp hb hs => gated.slot b ?_ hb ?_⟩
  · rw [gate, he]
  · rw [gate, he, hn, hp]; rfl
  · rw [gate, he]
    cases needs with
    | false => rfl
    | true => rw [hp rfl]; rfl
  · exact readSlot_eq_none.2 hs

/-! ### SLOT_STATUS and SLOT_ERASE -/

theorem readSlot_u8 (i : SlotId) : readSlot (u8 i.val) = some i := by
  have h : (u8 i.val).toNat = i.val := by simp [u8]; omega
  simp [readSlot, h]

/-- The gate passes a slot's own number. -/
theorem State.gatedSlot_u8 {s : State} {kind : Byte} {row : GateRow} (gate : s.gate row = none) (i : SlotId)
    (act : SlotId → State → Res) : s.gatedSlot kind row (u8 i.val) act = act i s := by
  simp only [State.gatedSlot, State.gated, gate, readSlot_u8]

/-- SLOT_STATUS passes the gate in service but for LOCKED (R14). -/
theorem State.gate_slotStatus {s : State} (service : s.mode.inService = true) (unlocked : s.mode ≠ .locked) :
    s.gate .slotStatus = none := by
  cases h : s.mode <;> simp_all [State.gate, GateRow.slotStatus, GateRow.entry, Mode.inService]

/-- Settles O9: the gate passes the slot, and the report is read off its record, state by state. -/
theorem slotStatusReportsTheRecord : Obligations.SlotStatusReportsTheRecord := by
  intro s i takes unlocked
  have gate := State.gate_slotStatus takes.service unlocked
  have answer : exec .slotStatus s = .next (s.afterReply (.ok kindSlotStatus .none (u8 i.val :: s.slots[i].report))) := by
    change execSlotStatus s = _
    rw [execSlotStatus, takes.take]
    exact State.gatedSlot_u8 (s := s.afterTaking) gate i _
  rw [answer]
  unfold Slot.report
  cases hb : s.slots[i].body with
  | empty => rfl
  | assembling a =>
    cases hp : s.slots[i].assembly with
    | none => rfl
    | some p => rfl
  | active a c => simp only [Contents.bytes, List.append_assoc]; rfl
  | faulty a c => simp only [Contents.bytes, List.append_assoc]; rfl

/-- SLOT_ERASE past the gate acts on the slot that its body names. -/
theorem exec_slotErase {s : State} {i : SlotId} (takes : CustodyTakes s kindSlotErase [u8 i.val])
    (mode : s.mode = .operational) (position : s.custody.position = .custody) :
    exec .slotErase s = match s.slots[i].erasableCheck with
      | none => .next (s.afterRefusal kindSlotErase .slotState)
      | some check =>
        if 0 < s.slots[i].refs || s.namedByGrant i then .next (s.afterRefusal kindSlotErase .inUse)
        else .next ((s.withSlot i (Slot.fresh i .empty)).afterReply (.ok kindSlotErase .none (u8 i.val :: checkBytes check))) := by
  have gate : s.gate .keyChange = none := (s.gate_keyChange takes.service).2 ⟨mode, position⟩
  change execSlotErase s = _
  rw [execSlotErase, takes.take]
  exact State.gatedSlot_u8 (s := s.afterTaking) gate i _

/-- A slot is named by the lane grant in flight as R17 says. -/
theorem State.namedByGrant_iff (s : State) (i : SlotId) : s.namedByGrant i = true ↔
    ∃ g, s.engine = .lane g ∧ (g.master = some i ∨ s.lanes[g.lane].transport = some i) := by
  unfold State.namedByGrant
  cases s.engine with
  | idle => simp
  | custody g => simp
  | lane g => simp

/-- Settles O10: past the gate the three answers follow the slot's state, its count and the lane grant in flight. -/
theorem slotEraseEmptiesAnUnusedSlot : Obligations.SlotEraseEmptiesAnUnusedSlot := by
  intro s i takes mode position
  have answer := exec_slotErase takes mode position
  refine ⟨fun hb => ?_, fun a c hb => ?_⟩
  · have none : s.slots[i].erasableCheck = none := by
      obtain hb | ⟨a, hb⟩ := hb <;> simp only [Slot.erasableCheck, hb]
    rw [answer, none]
  · have some : s.slots[i].erasableCheck = some c.check := by
      obtain hb | hb := hb <;> simp only [Slot.erasableCheck, hb]
    intro named
    have hn : s.namedByGrant i = true ↔ named := s.namedByGrant_iff i
    rw [answer, some]
    refine ⟨fun hu => if_pos ?_, fun ⟨hr, hu⟩ => if_neg ?_⟩
    · simpa [hn] using hu
    · simpa only [hn, hr, Nat.lt_irrefl, decide_false, Bool.false_or] using hu

/-! ### The battery and its memory -/

/-- With no sound battery the domain is lost exactly below the stop level (R158). -/
theorem State.keepDomain_of_no_battery {s : State} (h : s.battery = false) :
    s.keepDomain = { s with marker := if s.vmain < 2500 then lostMarker else s.marker } := by
  unfold State.keepDomain
  by_cases hv : s.vmain < 2500
  · have out : ¬ (decide (stopLevel ≤ s.vmain) || s.battery) = true := by
      rw [h, Bool.or_false]
      exact fun e => Nat.not_le_of_lt hv (of_decide_eq_true e)
    rw [if_neg out, if_pos hv]
  · have supplied : (decide (stopLevel ≤ s.vmain) || s.battery) = true := by
      rw [h, Bool.or_false]
      exact decide_eq_true (Nat.le_of_not_lt hv)
    rw [if_pos supplied, if_neg hv]

/-- Settles O45: the marker is lost exactly with the supply below the stop level, and a memory fault writes one record. -/
theorem batteryAndMemoryFail : Obligations.BatteryAndMemoryFail := by
  refine ⟨fun s refitted => ?_, fun s i body refs integrity hr hb => ?_⟩
  · have lost := State.keepDomain_of_no_battery (s := { s with battery := false }) rfl
    exact congrArg (fun t : State => Host.Outcome.next { t with battery := refitted }) lost
  · have fits : (body.fieldsOk && refsOk refs) = true := by
      rw [hb, Bool.true_and]
      exact decide_eq_true (Nat.lt_succ_of_le hr)
    exact if_pos fits

end Sys2Proof.Machine
end

section
/-! PROOFS. The sweep's six steps and its end, record by record (R13, R18, R74, R116, R154, R155): SweepRestoresTheTables. -/

namespace Sys2Proof.Machine

/-! ### Each step, record by record -/

/-- Step 1 (R18). -/
theorem State.sweepAssemblies_eq (s : State) :
    s.sweepAssemblies = { s with slots := Vector.ofFn fun i : SlotId =>
      match s.slots[i].body with
      | .assembling _ => Slot.fresh i .empty
      | .empty | .active _ _ | .faulty _ _ => s.slots[i] } := rfl

/-- Step 2 (R13). -/
theorem State.sweepIntegrity_eq (s : State) :
    s.sweepIntegrity = { s with slots := Vector.ofFn fun i : SlotId =>
      match s.slots[i].body with
      | .active a c =>
        if s.slots[i].integrity = Config.integrityCode i (.active a c) then s.slots[i]
        else
          { body := .faulty a c, refs := s.slots[i].refs, integrity := Config.integrityCode i (.faulty a c)
            assembly := s.slots[i].assembly }
      | .empty | .assembling _ | .faulty _ _ => s.slots[i] } := by
  unfold State.sweepIntegrity
  congr 2
  funext i
  unfold Slot.checkIntegrity
  cases s.slots[i].body <;> rfl

/-- Step 3 (R74). -/
theorem State.sweepWarrants_eq (s : State) :
    s.sweepWarrants = { s with warrants := s.warrants.map fun (w : Warrant) =>
      match w.state, s.slots[w.master].body with
      | .closed _, _ => w
      | _, .active _ _ => w
      | _, _ => { w with state := .closed .slotFault } } := by
  unfold State.sweepWarrants
  congr 2
  funext w
  cases hb : s.slots[w.master].body <;> cases hw : w.state <;>
    simp [-Fin.getElem_fin, Slot.isActive, Warrant.closeLive, Warrant.live, hb, hw]

/-- Step 4 (R116). -/
theorem State.sweepLanes_eq (s : State) :
    s.sweepLanes = { s with lanes := Vector.ofFn fun l : LaneId =>
      match s.lanes[l].transport with
      | none => s.lanes[l]
      | some i =>
        match s.slots[i].body with
        | .active _ _ => s.lanes[l]
        | .empty | .assembling _ | .faulty _ _ => { s.lanes[l] with transport := none } } := by
  unfold State.sweepLanes
  congr 2
  funext l
  unfold State.sweepLane
  cases s.lanes[l].transport with
  | none => rfl
  | some i =>
    dsimp only
    cases h : s.slots[i].body <;> simp [-Fin.getElem_fin, Slot.isActive, h]

/-- Step 6 (R116). -/
theorem State.resetChains_eq (s : State) :
    s.resetChains = { s with lanes := Vector.ofFn fun l : LaneId =>
      match s.lanes[l].transport with
      | none => s.lanes[l]
      | some _ =>
        { s.lanes[l] with chain := s.lanes[l].initial, position := 0, epoch := s.lanes[l].epoch + 1 } } := rfl

/-- The device state after a sweep, as R155 gives it. -/
theorem State.afterSweep_eq (s : State) :
    s.afterSweep =
      if s.tamper.erasePending then s.afterErase
      else
        { s with
          mode :=
            if s.storage.current.isSome then .operational
            else if s.tamper.causes = 0 then .uninitialised
            else .locked } := by
  unfold State.afterSweep
  rw [State.eraseBegin_eq]
  split
  · rfl
  · split
    · rfl
    · split <;> rfl

/-- What the sweep's six steps make, whatever they are called, is where STARTING ends. -/
theorem State.sweepEnd_of_steps {s s1 s2 s3 s4 s5 s6 : State} (hm : s.mode = .starting .sweep) (e1 : s.sweepAssemblies = s1)
    (e2 : s1.sweepIntegrity = s2) (e3 : s2.sweepWarrants = s3) (e4 : s3.sweepLanes = s4) (e5 : s4.sweepReferences = s5)
    (e6 : s5.resetChains = s6) :
    [0, 1, 2, 3, 4, 5, 6].map s.sweepFirst = [s, s1, s2, s3, s4, s5, s6] ∧
    exec .sweepEnd s =
      .next (
        if s.tamper.erasePending then s6.afterErase
        else
          { s6 with
            mode :=
              if s.storage.current.isSome then .operational
              else if s.tamper.causes = 0 then .uninitialised
              else .locked }) := by
  have f1 : s.sweepFirst 1 = s1 := e1
  have f2 : s.sweepFirst 2 = s2 := by rw [State.sweepFirst_two, f1, e2]
  have f3 : s.sweepFirst 3 = s3 := by rw [State.sweepFirst_three, f2, e3]
  have f4 : s.sweepFirst 4 = s4 := by rw [State.sweepFirst_four, f3, e4]
  have f5 : s.sweepFirst 5 = s5 := by rw [State.sweepFirst_five, f4, e5]
  have f6 : s.sweepFirst 6 = s6 := by rw [State.sweepFirst_six, f5, e6]
  refine ⟨?_, ?_⟩
  · simp only [List.map_cons, List.map_nil, State.sweepFirst_zero, f1, f2, f3, f4, f5, f6]
  · have ends : exec .sweepEnd s = .next s.sweep.afterSweep := if_pos hm
    have tamper : s6.tamper = s.tamper := by rw [← f6, State.sweepFirst_tamper]
    have storage : s6.storage = s.storage := by rw [← f6, State.sweepFirst_storage]
    rw [ends, State.sweep, f6, State.afterSweep_eq, ← tamper, ← storage]

/-- Settles O44: each step of the statement is the model's. Each state is forgotten but for what later steps read of it, so that
no step is checked by evaluating those before it. -/
theorem sweepRestoresTheTables : Obligations.SweepRestoresTheTables := by
  intro s hm s1
  have e1 : s.sweepAssemblies = s1 := s.sweepAssemblies_eq
  have warrants1 : s1.warrants = s.warrants := rfl
  have lanes1 : s1.lanes = s.lanes := rfl
  clear_value s1
  intro s2
  have e2 : s1.sweepIntegrity = s2 := s1.sweepIntegrity_eq
  have warrants2 : s2.warrants = s.warrants := warrants1
  have lanes2 : s2.lanes = s.lanes := lanes1
  clear_value s2
  intro s3
  have e3 : s2.sweepWarrants = s3 := by
    have h := s2.sweepWarrants_eq
    rw [warrants2] at h
    exact h
  have lanes3 : s3.lanes = s.lanes := lanes2
  clear_value s3
  intro s4 s5 s6
  have e4 : s3.sweepLanes = s4 := by
    have h := s3.sweepLanes_eq
    rw [lanes3] at h
    exact h
  have e5 : s4.sweepReferences = s5 := rfl
  have e6 : s5.resetChains = s6 := s5.resetChains_eq
  exact State.sweepEnd_of_steps hm e1 e2 e3 e4 e5 e6

end Sys2Proof.Machine
end

section
/-! PROOFS. A part and another part that differs from it in its keys only answer alike (R3, R16): ReportsHideTheKeys. Each
operation that reads no key does the same to both; the two reports that read the Key Table or the Storage Unit give fields that
no key stands in. -/

namespace Sys2Proof.Machine

/-! ### Parts that differ in their keys only -/

/-- The part with another Key Table and another Storage Unit. -/
def State.withKeys (s : State) (slots : Vector Slot 48) (storage : StorageUnit) : State :=
  { s with slots := slots, storage := storage }

/-- Another part that is the same but for key values, accumulators and integrity words. -/
inductive State.Alike (s : State) : State → Prop
  | withKeys {V : Vector Slot 48} {u : StorageUnit} (slots : ∀ i : SlotId, V[i].hide = s.slots[i].hide)
    (current : u.current.map StorageKey.hide = s.storage.current.map StorageKey.hide)
    (previous : u.previous.map StorageKey.hide = s.storage.previous.map StorageKey.hide) : s.Alike (s.withKeys V u)

theorem State.hide_withKeys (s : State) (V : Vector Slot 48) (u : StorageUnit) : s.hide.withKeys V u = s.withKeys V u := by
  simp only [State.hide, State.withKeys]

theorem State.Alike.of_hide {s t : State} (h : s.hide = t.hide) : s.Alike t := by
  have rest : t = s.withKeys t.slots t.storage := by
    rw [← State.hide_withKeys, h, State.hide_withKeys]
    simp only [State.withKeys]
  rw [rest]
  refine .withKeys (fun i => ?_) ?_ ?_
  · have e : s.hide.slots[i] = t.hide.slots[i] := by rw [h]
    simpa only [State.hide, ofFn_get] using e.symm
  · have e : s.hide.storage.current = t.hide.storage.current := by rw [h]
    exact e.symm
  · have e : s.hide.storage.previous = t.hide.storage.previous := by rw [h]
    exact e.symm

theorem State.Alike.hide {s t : State} (h : s.Alike t) : s.hide = t.hide := by
  obtain ⟨slots, current, previous⟩ := h
  simp only [State.hide, State.withKeys, slots, current, previous]

/-- An operation that reads no key and writes neither table does the same to both parts. -/
theorem State.Alike.map {f : State → State} {s t : State} (h : s.Alike t)
    (reads : ∀ V u, f (s.withKeys V u) = (f s).withKeys V u) (slots : (f s).slots = s.slots)
    (storage : (f s).storage = s.storage) : (f s).Alike (f t) := by
  obtain ⟨alike, current, previous⟩ := h
  rw [reads]
  refine .withKeys (fun i => ?_) ?_ ?_
  · rw [alike, slots]
  · rw [current, storage]
  · rw [previous, storage]

/-! ### Operations that read no key -/

theorem State.setLink_withKeys (s : State) (k : Link) (x : LinkState) (V : Vector Slot 48) (u : StorageUnit) :
    (s.withKeys V u).setLink k x = (s.setLink k x).withKeys V u := by cases k <;> rfl

theorem State.link_withKeys (s : State) (k : Link) (V : Vector Slot 48) (u : StorageUnit) :
    (s.withKeys V u).link k = s.link k := by cases k <;> rfl

theorem State.reply_withKeys (s : State) (k : Link) (r : Reply) (V : Vector Slot 48) (u : StorageUnit) :
    (s.withKeys V u).reply k r = (s.reply k r).withKeys V u := by cases k <;> rfl

theorem State.popFrame_withKeys (s : State) (k : Link) (V : Vector Slot 48) (u : StorageUnit) :
    (s.withKeys V u).popFrame k = (s.popFrame k).withKeys V u := by cases k <;> rfl

theorem State.shiftOut_withKeys (s : State) (k : Link) (bytes : List Byte) (V : Vector Slot 48) (u : StorageUnit) :
    (s.withKeys V u).shiftOut k bytes = (s.shiftOut k bytes).withKeys V u := by cases k <;> rfl

theorem State.setPointer_withKeys (s : State) (l : LaneId) (V : Vector Slot 48) (u : StorageUnit) :
    (s.withKeys V u).setPointer l = (s.setPointer l).withKeys V u := by
  have lanes : (s.withKeys V u).lanes = s.lanes := rfl
  unfold State.setPointer
  rw [lanes]
  split <;> rfl

theorem State.beginRunGrant_withKeys (s : State) (l : LaneId) (V : Vector Slot 48) (u : StorageUnit) :
    (s.withKeys V u).beginRunGrant l = (s.beginRunGrant l).withKeys V u := by
  have withdraw : (s.withKeys V u).withdraw (.lane l) = (s.withdraw (.lane l)).withKeys V u := rfl
  unfold State.beginRunGrant
  rw [withdraw]
  generalize s.withdraw (.lane l) = v
  have lanes : (v.withKeys V u).lanes = v.lanes := rfl
  dsimp only
  rw [lanes, State.setPointer_withKeys]
  split <;> rfl

theorem State.runStop_withKeys (s : State) (l : LaneId) (V : Vector Slot 48) (u : StorageUnit) :
    (s.withKeys V u).runStop l = (s.runStop l).withKeys V u := by
  have lanes : (s.withKeys V u).lanes = s.lanes := rfl
  unfold State.runStop
  rw [lanes]
  dsimp only
  split
  · rfl
  · split
    · rfl
    · rfl
    · split <;> rfl
    · rfl

/-- A choice among lanes begins no custody operation, the one thing a choice could read a key for. -/
theorem State.choose_withKeys {s : State} (free : s.waits .custody = false) (V : Vector Slot 48) (u : StorageUnit) :
    (s.withKeys V u).choose = s.choose.withKeys V u := by
  have choice : (s.withKeys V u).choice = s.choice := rfl
  unfold State.choose
  rw [choice]
  split
  · rfl
  · rename_i h
    rw [State.choice_custody, free] at h
    cases h
  · exact State.beginRunGrant_withKeys s _ V u

/-- The requester in the pending set (R123). -/
def State.enrol (s : State) (r : Requester) : State := { s with requesters := s.requesters ||| r.bit }

theorem State.join_of_idle {s : State} {r : Requester} (h : s.engine = .idle) : s.join r = (s.enrol r).choose := by
  obtain ⟨_, e⟩ | ⟨busy, _⟩ := s.join_cases r
  · exact e
  · exact absurd h busy

theorem State.join_of_busy {s : State} {r : Requester} (h : s.engine ≠ .idle) : s.join r = s.enrol r := by
  obtain ⟨idle, _⟩ | ⟨_, e⟩ := s.join_cases r
  · exact absurd idle h
  · exact e

theorem State.enrol_lane_waits_custody (s : State) (l : LaneId) : (s.enrol (.lane l)).waits .custody = s.waits .custody := by
  have other : 4 ≠ l.val := by omega
  simp [State.enrol, State.waits, Requester.bit, Requester.bitIndex, other]

/-- With the engine IDLE custody does not wait for it, so that a lane that joins is the one to receive it. -/
def State.CustodyRests (s : State) : Prop := s.engine = .idle → s.waits .custody = false

theorem State.join_lane_withKeys {s : State} (rests : s.CustodyRests) (l : LaneId) (V : Vector Slot 48) (u : StorageUnit) :
    (s.withKeys V u).join (.lane l) = (s.join (.lane l)).withKeys V u := by
  by_cases h : s.engine = .idle
  · have free : (s.enrol (.lane l)).waits .custody = false := by rw [State.enrol_lane_waits_custody, rests h]
    rw [State.join_of_idle h, State.join_of_idle (s := s.withKeys V u) h, ← State.choose_withKeys free]
    rfl
  · rw [State.join_of_busy h, State.join_of_busy (s := s.withKeys V u) h]
    rfl

theorem State.answerRun_withKeys {s : State} (rests : s.CustodyRests) (l : LaneId) (body : List Byte) (V : Vector Slot 48)
    (u : StorageUnit) : (s.withKeys V u).answerRun l body = (s.answerRun l body).withKeys V u := by
  have acceptance : (s.withKeys V u).acceptance l body = s.acceptance l body := rfl
  unfold State.answerRun
  rw [acceptance]
  split
  · exact State.reply_withKeys s _ _ V u
  · exact State.join_lane_withKeys (s := s.setLane l _) rests l V u

theorem State.answerLaneStatus_withKeys (s : State) (l : LaneId) (body : List Byte) (V : Vector Slot 48) (u : StorageUnit) :
    (s.withKeys V u).answerLaneStatus l body = (s.answerLaneStatus l body).withKeys V u := by
  unfold State.answerLaneStatus
  split <;> rfl

theorem State.answerWarrantStatus_withKeys (s : State) (l : LaneId) (body : List Byte) (V : Vector Slot 48)
    (u : StorageUnit) : (s.withKeys V u).answerWarrantStatus l body = (s.answerWarrantStatus l body).withKeys V u := by
  have refusal : (s.withKeys V u).serviceRefusal = s.serviceRefusal := rfl
  have warrant (id : Nat) : (s.withKeys V u).warrantFor l id = s.warrantFor l id := rfl
  unfold State.answerWarrantStatus
  simp only [refusal, warrant]
  split
  · rfl
  · split
    · rfl
    · split
      · rfl
      · split <;> rfl

theorem State.withdraw_lane_waits_custody (s : State) (l : LaneId) :
    (s.withdraw (.lane l)).waits .custody = s.waits .custody := by
  have other : 4 ≠ l.val := by omega
  simp [State.withdraw, State.waits, Requester.bit, Requester.bitIndex, other]

theorem State.serveLane_withKeys {s : State} (rests : s.CustodyRests) (l : LaneId) (f : Frame) (V : Vector Slot 48)
    (u : StorageUnit) : (s.withKeys V u).serveLane l f = (s.serveLane l f).withKeys V u := by
  have taken : ((s.withKeys V u).popFrame (.lane l)).withdraw (.lane l) =
      ((s.popFrame (.lane l)).withdraw (.lane l)).withKeys V u := rfl
  have restsTaken : ((s.popFrame (.lane l)).withdraw (.lane l)).CustodyRests := fun idle => by
    rw [State.withdraw_lane_waits_custody]
    exact rests idle
  unfold State.serveLane
  rw [taken]
  dsimp only
  split
  · exact State.answerRun_withKeys restsTaken l f.body V u
  · split
    · exact State.answerLaneStatus_withKeys _ l f.body V u
    · split
      · exact State.answerWarrantStatus_withKeys _ l f.body V u
      · rfl

/-- A lane whose run is QUEUED enters the pending set again (R108, R111). -/
def State.rejoin (s : State) (l : LaneId) : State :=
  match s.lanes[l].run with
  | some r => if r.state = .queued then s.join (.lane l) else s
  | none => s

theorem State.considerHead_eq (s : State) (l : LaneId) :
    s.considerHead l =
      match s.lanes[l].link.fifo with
      | [] => s.rejoin l
      | f :: _ => if s.laneReady l f.kind then s.serveLane l f else s.rejoin l := rfl

theorem State.rejoin_withKeys {s : State} (rests : s.CustodyRests) (l : LaneId) (V : Vector Slot 48) (u : StorageUnit) :
    (s.withKeys V u).rejoin l = (s.rejoin l).withKeys V u := by
  have lanes : (s.withKeys V u).lanes = s.lanes := rfl
  unfold State.rejoin
  rw [lanes]
  split
  · split
    · exact State.join_lane_withKeys rests l V u
    · rfl
  · rfl

theorem State.considerHead_withKeys {s : State} (rests : s.CustodyRests) (l : LaneId) (V : Vector Slot 48)
    (u : StorageUnit) : (s.withKeys V u).considerHead l = (s.considerHead l).withKeys V u := by
  have lanes : (s.withKeys V u).lanes = s.lanes := rfl
  have ready (kind : Byte) : (s.withKeys V u).laneReady l kind = s.laneReady l kind := rfl
  rw [State.considerHead_eq, State.considerHead_eq, lanes]
  split
  · exact State.rejoin_withKeys rests l V u
  · rw [ready]
    split
    · exact State.serveLane_withKeys rests l _ V u
    · exact State.rejoin_withKeys rests l V u

theorem State.handOn_withKeys {s : State} (rests : s.CustodyRests) (k : Link) (r : Reply) (V : Vector Slot 48)
    (u : StorageUnit) : (s.withKeys V u).handOn k r = (s.handOn k r).withKeys V u := by
  unfold State.handOn
  split
  · split <;> rfl
  · split
    · exact State.considerHead_withKeys (s := s.setLane _ _) rests _ V u
    · exact State.considerHead_withKeys rests _ V u

theorem State.immediate_withKeys (s : State) (k : Link) (kind : Byte) (V : Vector Slot 48) (u : StorageUnit) :
    (s.withKeys V u).immediate k kind = (s.immediate k kind).withKeys V u := by
  unfold State.immediate
  split
  · rfl
  · split
    · exact State.runStop_withKeys s _ V u
    · rfl

theorem State.frameError_withKeys (s : State) (k : Link) (V : Vector Slot 48) (u : StorageUnit) :
    (s.withKeys V u).frameError k = (s.frameError k).withKeys V u := by cases k <;> rfl

theorem State.receive_withKeys (s : State) (k : Link) (bytes : List Byte) (V : Vector Slot 48) (u : StorageUnit) :
    (s.withKeys V u).receive k bytes = (s.receive k bytes).withKeys V u := by
  unfold State.receive
  split
  · split
    · split
      · split
        · exact State.immediate_withKeys s k _ V u
        · exact State.frameError_withKeys s k V u
      · rw [State.link_withKeys, State.setLink_withKeys]
    · exact State.frameError_withKeys s k V u
  · exact State.frameError_withKeys s k V u

theorem State.receiveTransfer_withKeys (s : State) (k : Link) (x : Shifted) (V : Vector Slot 48) (u : StorageUnit) :
    (s.withKeys V u).receiveTransfer k x = (s.receiveTransfer k x).withKeys V u := by
  unfold State.receiveTransfer
  split
  · exact State.receive_withKeys s k x.bytes V u
  · exact State.frameError_withKeys s k V u

theorem State.receiveTransfer_slots (s : State) (k : Link) (x : Shifted) : (s.receiveTransfer k x).slots = s.slots := by
  unfold State.receiveTransfer
  split
  · exact s.receive_slots k x.bytes
  · exact s.frameError_slots k

theorem State.receiveTransfer_storage (s : State) (k : Link) (x : Shifted) : (s.receiveTransfer k x).storage = s.storage := by
  unfold State.receiveTransfer
  split
  · exact s.receive_storage k x.bytes
  · exact s.frameError_storage k

/-! ### Reports of what holds keys -/

theorem Slot.report_hide (sl : Slot) : sl.hide.report = sl.report := by
  have part : assemblyBytes sl.hide.assembly = assemblyBytes sl.assembly := by
    unfold Slot.hide
    cases sl.assembly <;> rfl
  unfold Slot.report
  rw [part]
  unfold Slot.hide
  cases sl.body <;> rfl

/-- The Storage Unit's fields come from its keys' generations and patterns (R37). -/
theorem StorageUnit.report_hide (u : StorageUnit) :
    StorageUnit.report { current := u.current.map StorageKey.hide, previous := u.previous.map StorageKey.hide } = u.report := by
  obtain ⟨current, previous⟩ := u
  cases current <;> cases previous <;> rfl

theorem State.Alike.slotReport {s t : State} (h : s.Alike t) (i : SlotId) : t.slots[i].report = s.slots[i].report := by
  obtain ⟨slots, -, -⟩ := h
  rw [← Slot.report_hide, ← s.slots[i].report_hide, ← slots i]
  rfl

theorem State.Alike.storageReport {s t : State} (h : s.Alike t) : t.storage.report = s.storage.report := by
  obtain ⟨-, current, previous⟩ := h
  rw [← s.storage.report_hide, ← current, ← previous, StorageUnit.report_hide]
  rfl

theorem State.Alike.deviceReport {s t : State} (h : s.Alike t) : t.deviceReport = s.deviceReport := by
  have storage := h.storageReport
  unfold State.deviceReport
  rw [storage]
  obtain ⟨-, -, -⟩ := h
  rfl

/-! ### Answers alike -/

/-- Both answers are next states, and these are alike. -/
def AnswersAlike (r r' : Res) : Prop := ∃ t t' : State, r = .next t ∧ r' = .next t' ∧ t.Alike t'

theorem State.Alike.next {s t : State} (h : s.Alike t) : AnswersAlike (.next s) (.next t) := ⟨s, t, rfl, rfl, h⟩

theorem State.Alike.setLink {s t : State} (h : s.Alike t) (k : Link) (x : LinkState) : (s.setLink k x).Alike (t.setLink k x) :=
  h.map (f := fun s => s.setLink k x) (fun V u => s.setLink_withKeys k x V u) (s.setLink_slots k x) (s.setLink_storage k x)

theorem State.Alike.reply {s t : State} (h : s.Alike t) (k : Link) (r : Reply) : (s.reply k r).Alike (t.reply k r) :=
  h.map (f := fun s => s.reply k r) (fun V u => s.reply_withKeys k r V u) (s.reply_slots k r) (s.reply_storage k r)

theorem State.Alike.refuse {s t : State} (h : s.Alike t) (kind : Byte) (code : Code) :
    AnswersAlike (.next (s.custodyRefuse kind code)) (.next (t.custodyRefuse kind code)) := (h.reply .custody _).next

theorem State.Alike.ok {s t : State} (h : s.Alike t) (kind : Byte) (note : Note) (fields : List Byte) :
    AnswersAlike (.next (s.custodyOk kind note fields)) (.next (t.custodyOk kind note fields)) := (h.reply .custody _).next

theorem State.Alike.popFrame {s t : State} (h : s.Alike t) (k : Link) : (s.popFrame k).Alike (t.popFrame k) :=
  h.map (f := fun s => s.popFrame k) (fun V u => s.popFrame_withKeys k V u) (s.popFrame_slots k) (s.popFrame_storage k)

theorem State.Alike.takeCustody {s t : State} (h : s.Alike t) {kind : Byte} {act : List Byte → State → Res}
    (alike : ∀ body u v, u.Alike v → AnswersAlike (act body u) (act body v)) :
    AnswersAlike (s.takeCustody kind act) (t.takeCustody kind act) := by
  have custody : t.custody = s.custody := by cases h; rfl
  have ready : t.custodyReady = s.custodyReady := by cases h; rfl
  unfold State.takeCustody
  rw [custody, ready]
  split
  · exact h.next
  · split
    · exact alike _ _ _ (h.popFrame .custody)
    · exact h.next

theorem State.Alike.readCustody {α : Type} {s t : State} (h : s.Alike t) {kind : Byte} {form : Option α}
    {act : α → State → Res} (alike : ∀ x, AnswersAlike (act x s) (act x t)) :
    AnswersAlike (s.readCustody kind form act) (t.readCustody kind form act) := by
  cases form with
  | none => exact h.refuse kind .malformed
  | some x => exact alike x

theorem State.Alike.gated {s t : State} (h : s.Alike t) {kind : Byte} {row : GateRow} {act : State → Res}
    (alike : AnswersAlike (act s) (act t)) : AnswersAlike (s.gated kind row act) (t.gated kind row act) := by
  have gate : t.gate row = s.gate row := by cases h; rfl
  unfold State.gated
  rw [gate]
  split
  · exact h.refuse kind _
  · exact alike

theorem State.Alike.gatedSlot {s t : State} (h : s.Alike t) {kind : Byte} {row : GateRow} {slot : Byte}
    {act : SlotId → State → Res} (alike : ∀ i, AnswersAlike (act i s) (act i t)) :
    AnswersAlike (s.gatedSlot kind row slot act) (t.gatedSlot kind row slot act) := by
  refine h.gated ?_
  split
  · exact h.refuse kind .parameter
  · exact alike _

theorem State.Alike.served {s t : State} (h : s.Alike t) {kind : Byte} {act : State → Res}
    (alike : AnswersAlike (act s) (act t)) : AnswersAlike (s.served kind act) (t.served kind act) := by
  have refusal : t.serviceRefusal = s.serviceRefusal := by cases h; rfl
  unfold State.served
  rw [refusal]
  split
  · exact h.refuse kind _
  · exact alike

theorem State.Alike.withWarrant {s t : State} (h : s.Alike t) {kind id : Byte} {act : Warrant → State → Res}
    (alike : ∀ w, AnswersAlike (act w s) (act w t)) : AnswersAlike (s.withWarrant kind id act) (t.withWarrant kind id act) := by
  have warrant : t.warrant id.toNat = s.warrant id.toNat := by cases h; rfl
  refine h.served ?_
  rw [warrant]
  split
  · exact h.refuse kind .parameter
  · split
    · exact h.refuse kind .noSuchWarrant
    · exact alike _

theorem State.Alike.takeLane {s t : State} (h : s.Alike t) (rests : s.CustodyRests) (l : LaneId) (kinds : Byte → Bool) :
    AnswersAlike (s.takeLane l kinds) (t.takeLane l kinds) := by
  have lanes : t.lanes = s.lanes := by cases h; rfl
  have ready (kind : Byte) : t.laneReady l kind = s.laneReady l kind := by cases h; rfl
  unfold State.takeLane
  rw [lanes]
  split
  · exact h.next
  · rw [ready]
    split
    · exact (h.map (f := fun s => s.serveLane l _) (State.serveLane_withKeys rests l _) (s.serveLane_slots l _)
        (s.serveLane_storage l _)).next
    · exact h.next

/-! ### The reports -/

theorem State.Alike.slotStatus {s t : State} (h : s.Alike t) : AnswersAlike (execSlotStatus s) (execSlotStatus t) := by
  unfold execSlotStatus
  refine h.takeCustody fun body u v h => h.readCustody fun slot => h.gatedSlot fun i => ?_
  rw [h.slotReport]
  exact h.ok _ _ _

theorem State.Alike.warrantList {s t : State} (h : s.Alike t) :
    AnswersAlike (execWarrantList s) (execWarrantList t) := by
  unfold execWarrantList
  refine h.takeCustody fun body u v h => h.readCustody fun _ => h.served ?_
  have warrants : v.warrants = u.warrants := by cases h; rfl
  rw [warrants]
  exact h.ok _ _ _

theorem State.Alike.deviceStatus {s t : State} (h : s.Alike t) :
    AnswersAlike (execDeviceStatus s) (execDeviceStatus t) := by
  unfold execDeviceStatus
  refine h.takeCustody fun body u v h => h.readCustody fun _ => ?_
  have flag : v.batteryLossFlag = u.batteryLossFlag := by cases h; rfl
  rw [h.deviceReport, flag]
  exact (h.reply .custody _).next

theorem State.Alike.tamperAck {s t : State} (h : s.Alike t) : AnswersAlike (execTamperAck s) (execTamperAck t) := by
  unfold execTamperAck
  refine h.takeCustody fun body u v h => h.readCustody fun _ => h.gated ?_
  have mode : v.mode = u.mode := by cases h; rfl
  have tamper : v.tamper = u.tamper := by cases h; rfl
  have unquiet : v.unquiet = u.unquiet := by cases h; rfl
  rw [mode, tamper, unquiet]
  split
  · split
    · exact h.refuse _ .quietRequired
    · have cleared := h.map (f := fun s => { s with tamper := u.tamper.acknowledge, mode := .uninitialised })
        (fun _ _ => rfl) rfl rfl
      exact cleared.ok _ _ _
  · have cleared := h.map (f := fun s => { s with tamper := u.tamper.acknowledge, mode := u.mode }) (fun _ _ => rfl) rfl rfl
    exact cleared.ok _ _ _

theorem State.Alike.warrantStatus {s t : State} (h : s.Alike t) (rests : s.CustodyRests) (k : Link) :
    AnswersAlike (execWarrantStatus k s) (execWarrantStatus k t) := by
  unfold execWarrantStatus
  cases k with
  | custody =>
    exact h.takeCustody fun body u v h => h.readCustody fun id => h.withWarrant fun w => h.ok _ _ _
  | lane l => exact h.takeLane rests l _

theorem State.Alike.laneStatus {s t : State} (h : s.Alike t) (rests : s.CustodyRests) (l : LaneId) :
    AnswersAlike (execLaneStatus l s) (execLaneStatus l t) := h.takeLane rests l _

/-! ### The transfers -/

theorem State.Alike.requestTransfer {s t : State} (h : s.Alike t) (k : Link) (x : Shifted) :
    AnswersAlike (execRequestTransfer k x s) (execRequestTransfer k x t) := by
  have mode : t.mode = s.mode := by cases h; rfl
  have link : t.link k = s.link k := by cases h; exact s.link_withKeys k _ _
  unfold execRequestTransfer
  rw [mode, link]
  split
  · refine (h.map (f := fun s => (s.shiftOut k _).receiveTransfer k x) (fun V u => ?_) ?_ ?_).next
    · rw [State.shiftOut_withKeys, State.receiveTransfer_withKeys]
    · rw [State.receiveTransfer_slots, State.shiftOut_slots]
    · rw [State.receiveTransfer_storage, State.shiftOut_storage]
  · exact h.next

theorem State.Alike.collectBegin {s t : State} (h : s.Alike t) (k : Link) :
    AnswersAlike (execCollectBegin k s) (execCollectBegin k t) := by
  have mode : t.mode = s.mode := by cases h; rfl
  have link : t.link k = s.link k := by cases h; exact s.link_withKeys k _ _
  unfold execCollectBegin
  rw [mode, link]
  split
  · exact (h.setLink k _).next
  · exact h.next

theorem State.Alike.collectEnd {s t : State} (h : s.Alike t) (rests : s.CustodyRests) (k : Link) (clocked cut : Nat) :
    AnswersAlike (execCollectEnd k clocked cut s) (execCollectEnd k clocked cut t) := by
  have link : t.link k = s.link k := by cases h; exact s.link_withKeys k _ _
  have restsSet (x : LinkState) : (s.setLink k x).CustodyRests := by cases k <;> exact rests
  unfold execCollectEnd
  rw [link]
  split
  · exact h.next
  · dsimp only
    split
    · exact (h.setLink k _).next
    · exact ((h.setLink k _).map (f := fun s => s.handOn k _) (State.handOn_withKeys (restsSet _) k _)
        (State.handOn_slots _ k _) (State.handOn_storage _ k _)).next

/-- Settles O56: with the engine IDLE no requester is pending (ServiceLaw), so that no collect begins a custody operation, and
nothing else in these commands reads a key. -/
theorem reportsHideTheKeys : Obligations.ReportsHideTheKeys := by
  intro s s' c hidden service listed
  have h : s.Alike s' := .of_hide hidden
  have rests : s.CustodyRests := fun idle => by
    unfold State.waits
    rw [service.idle idle]
    exact BitVec.getLsbD_zero
  have answers : AnswersAlike (exec c s) (exec c s') := by
    obtain report | ⟨l, rfl⟩ | ⟨k, rfl⟩ | ⟨k, x, rfl⟩ | ⟨k, rfl⟩ | ⟨k, clocked, cut, rfl⟩ := listed
    · simp only [List.mem_cons, List.not_mem_nil, or_false] at report
      obtain rfl | rfl | rfl | rfl := report
      · exact h.slotStatus
      · exact h.warrantList
      · exact h.deviceStatus
      · exact h.tamperAck
    · exact h.laneStatus rests l
    · exact h.warrantStatus rests k
    · exact h.requestTransfer k x
    · exact h.collectBegin k
    · exact h.collectEnd rests k clocked cut
  obtain ⟨t, t', ht, ht', alike⟩ := answers
  exact ⟨t, t', ht, ht', alike.hide⟩

end Sys2Proof.Machine
end

section
/-! PROOFS. Key ceremonies past the gate: ASSEMBLE, COMPONENT with its component check and final check, ASSEMBLY_CANCEL and the
custody switch (R20 to R33): AssembleReservesAnEmptySlot, ComponentIsCheckedAndCombined, ComponentCheckEnds, FinalCheckEnds,
AssemblyCancelAbandonsAnAssembly, CustodySwitchIsFiltered. -/

namespace Sys2Proof.Machine

/-! ### Slots and assemblies in the terms of the statements -/

theorem Assembly.lastDue_iff (p : Assembly) : p.lastDue = true ↔ p.custodians.length + 1 = p.required := by
  simp [Assembly.lastDue]

theorem Assembly.combine_eq_joined (p : Assembly) (custodian : Nat) (value : KeyValue) :
    p.combine custodian value = p.joined custodian value := rfl

/-- The progress a component reports is that of the list it has joined (R24). -/
theorem Assembly.progress_joined (p : Assembly) (i : SlotId) (custodian : Nat) (value : KeyValue) :
    (p.joined custodian value).progress i custodian =
      [u8 i.val, u8 custodian, u8 (p.custodians.length + 1), u8 p.required] := by
  simp [Assembly.progress, Assembly.joined]

theorem Slot.assemblyOf_eq_some {sl : Slot} {a : Attributes} {p : Assembly} :
    sl.assemblyOf = some (a, p) ↔ sl.body = .assembling a ∧ sl.assembly = some p := by
  unfold Slot.assemblyOf
  cases sl.body <;> cases sl.assembly <;> simp

theorem Slot.assemblyOf_eq_none {sl : Slot} :
    sl.assemblyOf = none ↔ ∀ a p, ¬ (sl.body = .assembling a ∧ sl.assembly = some p) := by
  simp only [Option.eq_none_iff_forall_ne_some, Prod.forall, ne_eq, Slot.assemblyOf_eq_some]

/-! ### Past the gate -/

/-- A key-changing command that names a slot passes the gate in OPERATIONAL at CUSTODY, and acts on that slot with its request
taken off (R14). -/
theorem CustodyTakes.act {α : Type} {s : State} {kind : Byte} {body : List Byte} {form : List Byte → Option α}
    {slot : α → Byte} {act : α → SlotId → State → Res} {x : α} {i : SlotId} (takes : CustodyTakes s kind body)
    (mode : s.mode = .operational) (position : s.custody.position = .custody) (hx : form body = some x)
    (hi : slot x = u8 i.val) :
    (s.takeCustody kind fun body s => s.readCustody kind (form body) fun x s => s.gatedSlot kind .keyChange (slot x) (act x)) =
      act x i s.afterTaking := by
  have gate : s.gate .keyChange = none := (s.gate_keyChange takes.service).2 ⟨mode, position⟩
  rw [takes.take]
  simp only [State.readCustody, hx, hi]
  exact State.gatedSlot_u8 (s := s.afterTaking) gate i _

/-! ### ASSEMBLE -/

theorem readPurpose_eq_some {b : Byte} {p : Purpose} : readPurpose b = some p ↔ p.byte = b := by
  unfold readPurpose
  split
  · subst b; cases p <;> simp [Purpose.byte]
  · split
    · subst b; cases p <;> simp [Purpose.byte]
    · split
      · subst b; cases p <;> simp [Purpose.byte]
      · cases p <;> simp_all [Purpose.byte, eq_comm]

theorem readLength_eq_some {b : Byte} {l : KeyLength} : readLength b = some l ↔ l.byte = b := by
  unfold readLength
  split
  · subst b; cases l <;> simp [KeyLength.byte]
  · split
    · subst b; cases l <;> simp [KeyLength.byte]
    · cases l <;> simp_all [KeyLength.byte, eq_comm]

/-- An issuer tag in range is the number its byte holds. -/
theorem issuerOk_and_u8 {n : Nat} {b : Byte} : issuerOk b.toNat = true ∧ b.toNat = n ↔ (1 ≤ n ∧ n ≤ 30) ∧ u8 n = b := by
  have back (h : n ≤ 30) : (u8 n).toNat = n := by simp [u8]; omega
  have forth : u8 b.toNat = b := by simp [u8]
  simp only [issuerOk, Bool.and_eq_true, decide_eq_true_eq]
  constructor
  · rintro ⟨h, rfl⟩; exact ⟨h, forth⟩
  · rintro ⟨h, rfl⟩; rw [back h.2]; exact ⟨h, rfl⟩

/-- Kind, purpose and issuer tag are read as a kind exactly where they are its bytes, with the tag in range (R1, R21). -/
theorem readKind_eq_some {kind purpose issuer : Byte} {k : KeyKind} : readKind kind purpose issuer = some k ↔
    k.Valid ∧ k.byte = kind ∧ k.purposeByte = purpose ∧ k.issuerByte = issuer := by
  unfold readKind
  split
  · subst kind
    cases k with
    | transport => cases readPurpose purpose <;> simp [KeyKind.byte]
    | derivation p n =>
      simp only [KeyKind.Valid, KeyKind.byte, KeyKind.purposeByte, KeyKind.issuerByte, ← readPurpose_eq_some, true_and,
        and_left_comm (b := readPurpose purpose = some p), ← issuerOk_and_u8]
      cases readPurpose purpose <;> simp [and_left_comm]
  · split
    · subst kind
      cases k with
      | transport =>
        simp only [KeyKind.Valid, KeyKind.byte, KeyKind.purposeByte, KeyKind.issuerByte, true_and, eq_comm (a := (0 : Byte))]
        split
        · rename_i fields; exact ⟨fun _ => fields, fun _ => rfl⟩
        · rename_i fields; exact ⟨nofun, fun e => absurd e fields⟩
      | derivation p n => simp [KeyKind.byte]
    · rename_i h1 h2
      have other : k.byte ≠ kind := by
        cases k with
        | derivation p n => exact Ne.symm h1
        | transport => exact Ne.symm h2
      simp [other]

/-- ASSEMBLE's fields are in range exactly where they are the bytes of a kind and a length, with 2 or 3 components (R21). -/
theorem AssembleForm.attributes_eq_some {f : AssembleForm} {a : Attributes} : f.attributes = some a ↔
    a.version = f.version ∧ (a.kind.Valid ∧ a.kind.byte = f.kind ∧ a.kind.purposeByte = f.purpose ∧
      a.kind.issuerByte = f.issuer) ∧ a.length.byte = f.length ∧ (f.required = 2 ∨ f.required = 3) := by
  rw [← readKind_eq_some, ← readLength_eq_some]
  obtain ⟨kind, version, length⟩ := a
  unfold AssembleForm.attributes
  cases readKind f.kind f.purpose f.issuer <;> cases readLength f.length <;> simp
  grind

/-- ASSEMBLE past the gate acts on the slot that its body names. -/
theorem exec_assemble {s : State} {i : SlotId} {body : List Byte} {f : AssembleForm} (takes : CustodyTakes s kindAssemble body)
    (mode : s.mode = .operational) (position : s.custody.position = .custody) (read : readAssemble body = some f)
    (named : f.slot = u8 i.val) :
    exec .assemble s =
      if s.slots[i].body ≠ .empty then .next (s.afterRefusal kindAssemble .slotState)
      else match f.attributes with
        | none => .next (s.afterRefusal kindAssemble .parameter)
        | some a => .next ((s.withSlot i { Slot.fresh i (.assembling a) with assembly := some (f.assembly a.length) }).afterReply
            (.ok kindAssemble .none [u8 i.val, f.required])) :=
  takes.act (form := readAssemble) (slot := AssembleForm.slot) mode position read named

/-- Settles O11: past the gate the slot must be EMPTY, and the fields are in range exactly where they fit a kind and a
length. -/
theorem assembleReservesAnEmptySlot : Obligations.AssembleReservesAnEmptySlot := by
  intro s i kind purpose issuer version length required e0 e1 e2 takes mode position fits
  have answer := exec_assemble (i := i) takes mode position rfl rfl
  generalize hf : AssembleForm.mk (u8 i.val) kind purpose issuer version length required (readCheck [e0, e1, e2]) = f at answer
  have ranges (k : KeyKind) (l : KeyLength) : f.attributes = some ⟨k, version, l⟩ ↔ fits k l := by
    subst hf
    simp only [AssembleForm.attributes_eq_some, fits, true_and, and_assoc]
  rw [answer]
  refine ⟨fun he => if_pos he, fun he none => ?_, fun he k l hkl => ?_⟩
  · have unfit : f.attributes = Option.none := by
      refine Option.eq_none_iff_forall_ne_some.2 fun a ha => none a.kind a.length ((ranges _ _).1 ?_)
      have : a.version = version := by subst hf; exact (AssembleForm.attributes_eq_some.1 ha).1
      rw [ha, ← this]
    rw [if_neg (not_not.2 he), unfit]
  · rw [if_neg (not_not.2 he), (ranges k l).2 hkl]
    subst hf
    rfl

/-! ### The end of a component check and of a final check -/

/-- COMPONENT_CHECK_END in the terms of the statements (R23, R24, R25, R33). -/
theorem exec_componentCheckEnd {s : State} {g : CustodyGrant} {op : BlockOp} {i : SlotId} {custodian : Nat}
    {value : KeyValue} {check : CheckValue} {last ended : Bool} (engine : s.engine = .custody g) (now : g.op = some op)
    (process : s.custody.process = some (.componentCheck i custodian value check last ended)) :
    exec .componentCheckEnd s =
      if ended then .next (s.afterGrant (.refused kindComponent .notInCustody []))
      else if firstThree op.result ≠ check then
        .next (s.afterGrant
          (.refused kindComponent .componentMismatch (u8 custodian :: checkBytes (firstThree op.result))))
      else match s.slots[i].assemblyOf with
        | none => .fault .recordChanged
        | some (_, p) =>
          if p.lastDue then .next ((s.setAssembly i (p.joined custodian value)).nextOp g (.finalCheck i))
          else .next ((s.setAssembly i (p.joined custodian value)).afterGrant
            (.ok kindComponent .none ((p.joined custodian value).progress i custodian))) := by
  change execComponentCheckEnd s = _
  simp only [execComponentCheckEnd, engine, process, now]
  rfl

/-- The final check of an assembly that has just been given its last component is under the new accumulator (R25). -/
theorem State.custodyOp_finalCheck_setAssembly {s : State} {i : SlotId} {a : Attributes} {p : Assembly}
    (h : s.slots[i].assemblyOf = some (a, p)) (p' : Assembly) :
    (s.setAssembly i p').custodyOp (.finalCheck i) = some (.encipher p'.accumulator 0) :=
  State.custodyOp_finalCheck (State.assemblyOf_setAssembly h p')

/-- Settles O13: the checks in their order, and for a match the list decides between the final check and the reply. -/
theorem componentCheckEnds : Obligations.ComponentCheckEnds := by
  intro s g op i custodian value check last ended engine now process
  have answer := exec_componentCheckEnd engine now process
  rw [answer]
  refine ⟨fun he => by rw [if_pos he], fun he hc => by rw [he, if_neg Bool.false_ne_true, if_pos hc], ?_⟩
  intro a p he hc body assembly p' t
  have part : s.slots[i].assemblyOf = some (a, p) := Slot.assemblyOf_eq_some.2 ⟨body, assembly⟩
  rw [he, if_neg Bool.false_ne_true, if_neg (not_not.2 hc), part]
  by_cases full : p.custodians.length + 1 = p.required
  · rw [if_pos full]
    simp only [p.lastDue_iff.2 full, if_true]
    unfold State.nextOp
    rw [State.custodyOp_finalCheck_setAssembly part]
    rfl
  · rw [if_neg full]
    simp only [mt p.lastDue_iff.1 full, Assembly.progress_joined]
    rfl

/-- Settles O14: the comparison with the expected check value decides between ACTIVE and EMPTY. -/
theorem finalCheckEnds : Obligations.FinalCheckEnds := by
  intro s g op i a p engine now process body assembly computed
  have part : s.slots[i].assemblyOf = some (a, p) := Slot.assemblyOf_eq_some.2 ⟨body, assembly⟩
  have answer : exec .finalCheckEnd s = if computed = p.expected then
      .next ((s.withSlot i (Slot.fresh i
          (.active a { key := p.accumulator, check := computed, origin := .assembled, uses := 0 }))).afterGrant
        (.ok kindComponent .none ([u8 i.val, 2] ++ checkBytes computed)))
    else
      .next ((s.withSlot i (Slot.fresh i .empty)).afterGrant
        (.refused kindComponent .checkMismatch (checkBytes p.expected ++ checkBytes computed))) := by
    change execFinalCheckEnd s = _
    simp only [execFinalCheckEnd, engine, process, now, part]
    rfl
  exact ⟨fun h => answer.trans (if_pos h), fun h => answer.trans (if_neg h)⟩

/-! ### ASSEMBLY_CANCEL -/

/-- ASSEMBLY_CANCEL past the gate acts on the slot that its body names. -/
theorem exec_assemblyCancel {s : State} {i : SlotId} (takes : CustodyTakes s kindAssemblyCancel [u8 i.val])
    (mode : s.mode = .operational) (position : s.custody.position = .custody) :
    exec .assemblyCancel s = match s.slots[i].assemblyOf with
      | none => .next (s.afterRefusal kindAssemblyCancel .slotState)
      | some (_, p) =>
        if p.checking then .next (s.afterRefusal kindAssemblyCancel .slotState)
        else .next ((s.withSlot i (Slot.fresh i .empty)).afterReply
          (.ok kindAssemblyCancel .none [u8 i.val, u8 p.custodians.length])) :=
  takes.act (form := readByte) (slot := id) mode position rfl rfl

/-- Settles O15: the slot's assembly, if there is one, and its checking flag decide. -/
theorem assemblyCancelAbandonsAnAssembly : Obligations.AssemblyCancelAbandonsAnAssembly := by
  refine ⟨fun s i takes mode position => ?_, fun s i a takes mode position body => ?_⟩
  · rw [exec_assemblyCancel takes mode position]
    refine ⟨fun none => ?_, fun a p body assembly => ?_⟩
    · rw [Slot.assemblyOf_eq_none.2 none]
    · rw [Slot.assemblyOf_eq_some.2 ⟨body, assembly⟩]
      exact (apply_ite Host.Outcome.next _ _ _).symm
  · exact (slotEraseEmptiesAnUnusedSlot s i takes mode position).1 (.inr ⟨a, body⟩)

/-! ### COMPONENT -/

theorem length_be (n x : Nat) : (be n x).length = n := by
  induction n with
  | zero => rfl
  | succ n ih => exact congrArg Nat.succ ih

/-- The low bytes of a number spell it modulo their range, after any bytes before them. -/
theorem foldl_be (acc n x : Nat) :
    (be n x).foldl (fun acc b => acc * 256 + b.toNat) acc = acc * 256 ^ n + x % 256 ^ n := by
  induction n generalizing acc with
  | zero => simp [be, Nat.mod_one]
  | succ n ih =>
    simp only [be, List.foldl_cons, ih, BitVec.toNat_ofNat, Nat.mod_pow_succ (b := 256)]
    ring

theorem ofBe_be (n x : Nat) : ofBe (be n x) = x % 256 ^ n := by
  rw [ofBe, foldl_be, Nat.zero_mul, Nat.zero_add]

/-- A word of `n` bytes is read back from its bytes (R171). -/
theorem ofNat_ofBe_be (n : Nat) (k : BitVec (8 * n)) : BitVec.ofNat (8 * n) (ofBe (be n k.toNat)) = k := by
  have range : 256 ^ n = 2 ^ (8 * n) := (Nat.pow_mul 2 8 n).symm
  rw [ofBe_be, range, Nat.mod_eq_of_lt k.isLt, BitVec.ofNat_toNat, BitVec.setWidth_eq]

theorem readCheck_checkBytes (c : CheckValue) : readCheck (checkBytes c) = c := ofNat_ofBe_be 3 c

/-- A COMPONENT's body is read back as its fields (R171). -/
theorem readComponent_componentBody (i : SlotId) (custodian : Byte) (value : KeyValue) (check : Option CheckValue) :
    readComponent (componentBody i custodian value check) = some ⟨u8 i.val, custodian, value, check⟩ := by
  cases value with
  | k16 k =>
    have word : BitVec.ofNat 128 (ofBe (be 16 k.toNat)) = k := ofNat_ofBe_be 16 k
    cases check with
    | none => simp [readComponent, componentBody, KeyValue.bytes, length_be, word]
    | some c =>
      have length : (checkBytes c).length = 3 := length_be 3 _
      simp [readComponent, componentBody, KeyValue.bytes, length_be, length, word, List.take_left', List.drop_left',
        readCheck_checkBytes]
  | k32 k =>
    have word : BitVec.ofNat 256 (ofBe (be 32 k.toNat)) = k := ofNat_ofBe_be 32 k
    cases check with
    | none => simp [readComponent, componentBody, KeyValue.bytes, length_be, word]
    | some c =>
      have length : (checkBytes c).length = 3 := length_be 3 _
      simp [readComponent, componentBody, KeyValue.bytes, length_be, length, word, List.take_left', List.drop_left',
        readCheck_checkBytes]

/-- The checks of R22 on a slot with an assembly. -/
theorem Slot.componentRefusal_of_part {sl : Slot} {a : Attributes} {p : Assembly} (part : sl.assemblyOf = some (a, p))
    (f : ComponentForm) : sl.componentRefusal f =
      if p.checking then some .slotState
      else if f.custodian.toNat ∈ p.custodians then some .duplicateCustodian
      else if f.custodian.toNat < 1 ∨ 8 < f.custodian.toNat ∨ f.value.length ≠ a.length then some .parameter
      else none := by
  simp only [Slot.componentRefusal, part, List.contains_iff_mem]

/-- COMPONENT past the gate acts on the slot that its body names. -/
theorem exec_component {s : State} {i : SlotId} {custodian : Byte} {value : KeyValue} {check : Option CheckValue}
    (takes : CustodyTakes s kindComponent (componentBody i custodian value check)) (mode : s.mode = .operational)
    (position : s.custody.position = .custody) :
    exec .component s =
      match s.slots[i].componentRefusal ⟨u8 i.val, custodian, value, check⟩, s.slots[i].assemblyOf with
      | some code, _ => .next (s.afterRefusal kindComponent code)
      | none, some (_, p) => .next (s.afterTaking.acceptComponent i p ⟨u8 i.val, custodian, value, check⟩)
      | none, none => .next s.afterTaking :=
  takes.act (form := readComponent) (slot := ComponentForm.slot) mode position
    (readComponent_componentBody i custodian value check) rfl

/-- A refused COMPONENT changes nothing but its reply (R22). -/
theorem exec_component_refused {s : State} {i : SlotId} {custodian : Byte} {value : KeyValue} {check : Option CheckValue}
    {code : Code} (takes : CustodyTakes s kindComponent (componentBody i custodian value check))
    (mode : s.mode = .operational) (position : s.custody.position = .custody)
    (refusal : s.slots[i].componentRefusal ⟨u8 i.val, custodian, value, check⟩ = some code) :
    exec .component s = .next (s.afterRefusal kindComponent code) := by
  rw [exec_component takes mode position, refusal]

/-- Custody, just entered in the pending set, waits. -/
theorem State.enrol_custody_waits (s : State) : (s.enrol .custody).waits .custody = true := by
  simp [State.enrol, State.waits, Requester.bit, Requester.bitIndex]

/-- To enter custody in the pending set and to take it out clears bit 4 (R123, R171). -/
theorem State.withdraw_enrol_custody (s : State) :
    (s.enrol .custody).withdraw .custody = { s with requesters := s.requesters &&& 15 } := by
  have bits (r : RequesterSet) : (r ||| Requester.custody.bit) &&& ~~~Requester.custody.bit = r &&& 15 := by
    revert r; decide
  exact congrArg (fun r : RequesterSet => { s with requesters := r }) (bits s.requesters)

/-- With the engine IDLE the command in process receives it at once, and its key is read (R124, R125). -/
theorem State.join_custody_of_idle {s : State} {p : Process} {op : BlockOp} (engine : s.engine = .idle)
    (process : s.custody.process = some p) (reads : s.custodyOp p = some op) :
    s.join .custody =
      { s with
        engine := .custody { planned := p.planned, performed := 0, op := some op }
        requesters := s.requesters &&& 15 } := by
  have chosen : (s.enrol .custody).choice = some .custody := (State.choice_custody _).2 s.enrol_custody_waits
  have unread : State.custodyOp { s with requesters := s.requesters &&& 15 } p = s.custodyOp p := by cases p <;> rfl
  rw [State.join_of_idle engine, State.choose, chosen]
  simp only [State.beginCustodyGrant, State.withdraw_enrol_custody, process, unread, reads]

/-- A command that waits for the engine, in the terms of the statements (R123, R124). -/
theorem State.startProcess_eq_afterJoin {s : State} {p : Process} {op : BlockOp} (reads : s.custodyOp p = some op) :
    s.startProcess p = s.afterJoin p p.planned op := by
  have unread : (s.inProcess (some p)).custodyOp p = s.custodyOp p := by cases p <;> rfl
  change (s.inProcess (some p)).join .custody = _
  unfold State.afterJoin
  split
  · rename_i engine
    exact State.join_custody_of_idle (s := s.inProcess (some p)) engine rfl (unread.trans reads)
  all_goals
    rename_i engine
    exact State.join_of_busy (s := s.inProcess (some p)) fun idle => by cases engine.symm.trans idle

/-- An accepted COMPONENT in the terms of the statements (R23, R24, R25). -/
theorem State.acceptComponent_eq {s : State} {i : SlotId} {a : Attributes} {p : Assembly}
    (part : s.slots[i].assemblyOf = some (a, p)) (f : ComponentForm) :
    s.acceptComponent i p f = match f.check with
      | some c =>
        s.afterJoin (.componentCheck i f.custodian.toNat f.value c p.lastDue false) (if p.lastDue then 2 else 1)
          (.encipher f.value 0)
      | none =>
        if p.lastDue then
          (s.setAssembly i (p.joined f.custodian.toNat f.value)).afterJoin (.finalCheck i) 1
            (.encipher (p.joined f.custodian.toNat f.value).accumulator 0)
        else
          (s.setAssembly i (p.joined f.custodian.toNat f.value)).custodyOk kindComponent .none
            [u8 i.val, u8 f.custodian.toNat, u8 (p.custodians.length + 1), u8 p.required] := by
  unfold State.acceptComponent
  cases f.check with
  | some c => exact State.startProcess_eq_afterJoin rfl
  | none =>
    simp only [Assembly.combine_eq_joined, Assembly.progress_joined]
    rw [State.startProcess_eq_afterJoin (State.custodyOp_finalCheck_setAssembly part _)]
    rfl

/-- Settles O12: the checks of R22 are those of `Slot.componentRefusal`, and what passes them is accepted. -/
theorem componentIsCheckedAndCombined : Obligations.ComponentIsCheckedAndCombined := by
  refine ⟨fun s i custodian value check takes mode position => ⟨fun none => ?_, fun a p body assembly => ?_⟩,
    fun s i custodian value check a p takes mode position body assembly clear new low high fits => ?_⟩
  · refine exec_component_refused takes mode position ?_
    rw [Slot.componentRefusal, Slot.assemblyOf_eq_none.2 none]
  · have checks := Slot.componentRefusal_of_part (Slot.assemblyOf_eq_some.2 ⟨body, assembly⟩)
      ⟨u8 i.val, custodian, value, check⟩
    refine ⟨fun set => ?_, fun clear old => ?_, fun clear new range => ?_⟩ <;>
      refine exec_component_refused takes mode position (checks.trans ?_)
    · rw [if_pos set]
    · rw [clear, if_neg Bool.false_ne_true, if_pos old]
    · rw [clear, if_neg Bool.false_ne_true, if_neg new, if_pos range]
  · intro final p' t
    have part : s.slots[i].assemblyOf = some (a, p) := Slot.assemblyOf_eq_some.2 ⟨body, assembly⟩
    have range : ¬ (custodian.toNat < 1 ∨ 8 < custodian.toNat ∨ value.length ≠ a.length) := by
      simp [fits]; omega
    have passes : s.slots[i].componentRefusal ⟨u8 i.val, custodian, value, check⟩ = none := by
      rw [Slot.componentRefusal_of_part part, clear, if_neg Bool.false_ne_true, if_neg new, if_neg range]
    have byte : u8 custodian.toNat = custodian := by simp [u8]
    have answer := State.acceptComponent_eq (s := s.afterTaking) part ⟨u8 i.val, custodian, value, check⟩
    rw [exec_component takes mode position, passes, part]
    dsimp only at answer ⊢
    rw [answer, byte]
    cases check with
    | some c => rfl
    | none => rfl

/-! ### The custody switch -/

theorem Slot.abandoned_eq_unchecked (sl : Slot) : sl.abandoned = sl.unchecked := by
  unfold Slot.abandoned Slot.assemblyOf Slot.unchecked
  cases sl.body <;> cases sl.assembly <;> rfl

/-- The Key Table with every ASSEMBLING slot whose checking flag is clear emptied (R32). -/
def State.emptied (s : State) : Vector Slot 48 :=
  Vector.ofFn fun i : SlotId => if s.slots[i].unchecked then Slot.fresh i .empty else s.slots[i]

theorem State.abandonAssemblies_eq (s : State) : s.abandonAssemblies = { s with slots := s.emptied } := by
  simp only [State.abandonAssemblies, Slot.abandoned_eq_unchecked]
  rfl

/-- What becomes of the table in a change to RUN does not depend on the component in process (R32, R33). -/
theorem State.changeToRun_eq (s : State) : s.changeToRun = { s.abandonComponent with slots := s.emptied } := by
  rw [State.changeToRun, State.abandonAssemblies_eq]
  simp only [State.emptied, State.abandonComponent_slots]

/-- A sample at the filtered position (R30). -/
theorem State.sampleSwitch_same {s : State} {v : Level} (same : contact v = s.custody.position) :
    s.sampleSwitch v = { s with custody := { s.custody with position := contact v, count := 0 } } := by
  simp [State.sampleSwitch, switchSample, same]

/-- A differing sample before the eighth in a row (R30). -/
theorem State.sampleSwitch_counted {s : State} {v : Level} (differs : contact v ≠ s.custody.position)
    (few : s.custody.count + 1 < 8) :
    s.sampleSwitch v = { s with custody := { s.custody with count := s.custody.count + 1 } } := by
  simp [State.sampleSwitch, switchSample, differs, few]

/-- The eighth differing sample in a row confirms the change (R30). -/
theorem State.sampleSwitch_confirmed {s : State} {v : Level} (differs : contact v ≠ s.custody.position)
    (eighth : 8 ≤ s.custody.count + 1) :
    s.sampleSwitch v =
      if contact v = .run then
        State.changeToRun { s with custody := { s.custody with position := contact v, count := 0 } }
      else { s with custody := { s.custody with position := contact v, count := 0 } } := by
  simp [State.sampleSwitch, switchSample, differs, Nat.not_lt.2 eighth]

/-- Samples taken together are taken one after another (R30). -/
theorem exec_custodySwitchChange_cons (s : State) (v : Level) (vs : List Level) :
    exec (.custodySwitchChange (v :: vs)) s = runCommands [.custodySwitchChange [v], .custodySwitchChange vs] s := by
  by_cases running : s.mode.running = true <;> simp [runCommands, exec, execCustodySwitchChange, running]

/-- A change to RUN with a component of a slot that it empties waiting for the engine (R33). -/
theorem State.abandonComponent_waiting {s : State} {i : SlotId} {n : Nat} {v : KeyValue} {k : CheckValue} {last ended : Bool}
    (process : s.custody.process = some (.componentCheck i n v k last ended)) (engine : ∀ g, s.engine ≠ .custody g)
    (unchecked : s.slots[i].unchecked = true) : s.abandonComponent =
      { s with
        requesters := s.requesters &&& 15
        custody :=
          { s.custody with
            process := none
            link := { s.custody.link with buffer := some (.refused kindComponent .notInCustody []) } } } := by
  simp only [State.abandonComponent, process, Slot.abandoned_eq_unchecked, unchecked, if_true]
  cases h : s.engine with
  | custody g => exact absurd h (engine g)
  | idle => rfl
  | lane g => rfl

/-- A change to RUN with the component's operation running (R33). -/
theorem State.abandonComponent_running {s : State} {i : SlotId} {n : Nat} {v : KeyValue} {k : CheckValue} {last ended : Bool}
    {g : CustodyGrant} (process : s.custody.process = some (.componentCheck i n v k last ended)) (engine : s.engine = .custody g) :
    s.abandonComponent = s.inProcess (some (.componentCheck i n v k last (ended || s.slots[i].unchecked))) := by
  simp only [State.abandonComponent, process, Slot.abandoned_eq_unchecked]
  cases s.slots[i].unchecked with
  | true =>
    rw [Bool.or_true, if_pos rfl]
    split
    · rfl
    all_goals rename_i out; cases engine.symm.trans out
  | false => rw [Bool.or_false, if_neg Bool.false_ne_true, State.inProcess, ← process]

/-- A change to RUN that finds no component of a slot it empties (R33). -/
theorem State.abandonComponent_other {s : State}
    (other : ∀ i n v k last ended, s.custody.process = some (.componentCheck i n v k last ended) →
      s.slots[i].unchecked = false) : s.abandonComponent = s := by
  unfold State.abandonComponent
  split
  · rename_i process
    rw [Slot.abandoned_eq_unchecked, other _ _ _ _ _ _ process, if_neg Bool.false_ne_true]
  · rfl

/-- Settles O16: one sample of the pin is taken at a time, and the filter's three cases are those of R30; a change to RUN goes
by the command in process and the engine. -/
theorem custodySwitchIsFiltered : Obligations.CustodySwitchIsFiltered := by
  refine ⟨exec_custodySwitchChange_cons, ?_⟩
  intro s v running x moved
  have pin : contact v = x := by cases v <;> rfl
  have answer : exec (.custodySwitchChange [v]) s = .next (s.sampleSwitch v) := if_pos running
  rw [answer, ← pin]
  refine ⟨fun same => ?_, fun differs few => ?_, fun differs eighth custody => ?_, fun differs eighth run => ?_⟩
  · rw [State.sampleSwitch_same same]
  · rw [State.sampleSwitch_counted differs few]
  · rw [State.sampleSwitch_confirmed differs eighth, custody]; rfl
  · intro emptied c
    rw [State.sampleSwitch_confirmed differs eighth, if_pos run, run, State.changeToRun_eq]
    change Host.Outcome.next { (moved .run 0).abandonComponent with slots := emptied } = _
    congr 1
    split
    · rename_i process engine
      rw [State.abandonComponent_running (s := moved .run 0) process engine]
      rfl
    · rename_i i n w k last ended process out
      split
      · rename_i unchecked
        rw [State.abandonComponent_waiting (s := moved .run 0) process (fun g hg => out g hg) unchecked]
      · rename_i checked
        rw [State.abandonComponent_other (s := moved .run 0) fun j n' w' k' last' ended' now => ?_]
        obtain ⟨rfl, _⟩ := Process.componentCheck.inj (Option.some.inj (process.symm.trans now))
        exact Bool.eq_false_iff.2 checked
    · rename_i none _
      rw [State.abandonComponent_other (s := moved .run 0) fun i n w k last ended now => (none i n w k last ended now).elim]

end Sys2Proof.Machine
end

section
/-! SUPPORT. A relation between the state before a command and the state after it, taken through the shared steps of a request:
what holds of every reply and of every frame taken off holds of a request up to its own effect (R14, R59, R163, R164). -/

namespace Sys2Proof.Machine

/-- The next state of an outcome, if there is one, stands in this relation to the state before. -/
def Gives (R : State → State → Prop) (s : State) (r : Res) : Prop := ∀ t, r = .next t → R s t

theorem Gives.next {R : State → State → Prop} {s t : State} (h : R s t) : Gives R s (.next t) :=
  fun _ e => Host.Outcome.next.inj e ▸ h

theorem Gives.fault {R : State → State → Prop} (s : State) (f : Fault) : Gives R s (.fault f) :=
  fun _ e => by cases e

/-- A relation that goes from step to step and holds of a reply and of a frame taken off. -/
structure Steady (R : State → State → Prop) : Prop where
  refl : ∀ s, R s s
  trans : ∀ {s t u}, R s t → R t u → R s u
  reply : ∀ s k r, R s (s.reply k r)
  popFrame : ∀ s k, R s (s.popFrame k)

namespace Steady

variable {R : State → State → Prop} (h : Steady R) {s : State}
include h

theorem same (s : State) : Gives R s (.next s) := .next (h.refl s)

theorem refuse (s : State) (kind : Byte) (c : Code) : Gives R s (.next (s.custodyRefuse kind c)) := .next (h.reply s _ _)

/-- A check that refuses, before whatever else the command does. -/
theorem refuseOr {c : Prop} [Decidable c] {kind : Byte} {code : Code} {r : Res} (hr : Gives R s r) :
    Gives R s (if c then .next (s.custodyRefuse kind code) else r) := by
  split
  · exact h.refuse s _ _
  · exact hr

/-- A step that occurs under a condition only. -/
theorem guarded {c : Prop} [Decidable c] {r : Res} (hr : Gives R s r) : Gives R s (if c then r else .next s) := by
  split
  · exact hr
  · exact h.same s

theorem takeCustody {kind : Byte} {act : List Byte → State → Res} (ha : ∀ body u, u.Free → Gives R u (act body u)) :
    Gives R s (s.takeCustody kind act) := by
  obtain e | ⟨f, rest, _, ready, _, e⟩ := s.takeCustody_cases kind act
  · rw [e]; exact h.same s
  · simp only [State.custodyReady, Bool.and_eq_true, Option.isNone_iff_eq_none] at ready
    obtain ⟨⟨service, _⟩, free⟩ := ready
    rw [e]
    exact fun t ht => h.trans (h.popFrame s .custody) (ha f.body (s.popFrame .custody) ⟨free, service⟩ t ht)

theorem readCustody {α : Type} {kind : Byte} {form : Option α} {act : α → State → Res} (ha : ∀ x, Gives R s (act x s)) :
    Gives R s (s.readCustody kind form act) := by
  obtain ⟨_, e⟩ | ⟨x, _, e⟩ := s.readCustody_cases kind form act
  · rw [e]; exact h.refuse s _ _
  · rw [e]; exact ha x

theorem gated {kind : Byte} {r : GateRow} {act : State → Res} (ha : Gives R s (act s)) :
    Gives R s (s.gated kind r act) := by
  obtain ⟨c, _, e⟩ | ⟨_, e⟩ := s.gated_cases kind r act
  · rw [e]; exact h.refuse s _ _
  · rw [e]; exact ha

theorem gatedSlot {kind : Byte} {r : GateRow} {slot : Byte} {act : SlotId → State → Res} (ha : ∀ i, Gives R s (act i s)) :
    Gives R s (s.gatedSlot kind r slot act) := by
  obtain ⟨c, e⟩ | ⟨i, _, _, e⟩ := s.gatedSlot_cases kind r slot act
  · rw [e]; exact h.refuse s _ _
  · rw [e]; exact ha i

theorem served {kind : Byte} {act : State → Res} (ha : Gives R s (act s)) : Gives R s (s.served kind act) := by
  obtain ⟨c, e⟩ | ⟨_, e⟩ := s.served_cases kind act
  · rw [e]; exact h.refuse s _ _
  · rw [e]; exact ha

theorem withWarrant {kind id : Byte} {act : Warrant → State → Res} (ha : ∀ w, Gives R s (act w s)) :
    Gives R s (s.withWarrant kind id act) := by
  obtain ⟨c, e⟩ | ⟨w, _, _, e⟩ := s.withWarrant_cases kind id act
  · rw [e]; exact h.refuse s _ _
  · rw [e]; exact ha w

theorem takeLane {l : LaneId} {kinds : Byte → Bool} (serves : ∀ f, R s (s.serveLane l f)) :
    Gives R s (s.takeLane l kinds) := by
  obtain e | ⟨f, _, _, _, _, e⟩ := s.takeLane_cases l kinds
  · rw [e]; exact h.same s
  · rw [e]; exact .next (serves f)

/-- Steps of one sort, one after another. -/
theorem foldl {α : Type} {f : State → α → State} (hf : ∀ s v, R s (f s v)) (s : State) (vs : List α) :
    R s (vs.foldl f s) := by
  induction vs generalizing s with
  | nil => exact h.refl s
  | cons v vs ih => exact h.trans (hf s v) (ih _)

end Steady

end Sys2Proof.Machine
end

section
/-! SUPPORT. The laws of counters and of assembly parts, part by part: links, tamper record and filters, the custody switch, the
passes, and the assembly parts with the component in process (R20, R22, R30, R134, R136, R138, R142, R160, R162). Each shared
operation keeps every part in its range. -/

namespace Sys2Proof.Machine

/-! ### The parts of the laws -/

/-- A link within its bounds (R160, R162). -/
def LinkState.InRange (k : LinkState) : Prop := k.fifo.length ≤ 2 ∧ k.frameErrors ≤ 255

/-- The Tamper Monitor within its bounds (R134, R136, R138). -/
structure Tamper.InRange (t : Tamper) : Prop where
  events : t.events ≤ 255
  filters : ∀ i : InputId, t.inputs[i].count < t.inputs[i].filter.limit
  timer : t.timer = true → t.armed = true
  none : t.first = none ↔ t.causes = 0
  first : ∀ x, t.first = some x → t.causes &&& x.bit = x.bit

theorem counterLaw_iff {s : State} : CounterLaw s ↔
    (∀ k : Link, (s.link k).InRange) ∧ s.tamper.InRange ∧ s.custody.count < 8 ∧ s.passes.written ≤ 3 * unitCount := by
  constructor
  · intro h
    exact ⟨fun k => ⟨h.fifos k, h.errors k⟩, ⟨h.events, h.filters, h.timer, h.first.1, h.first.2⟩, h.switch, h.passes⟩
  · rintro ⟨links, tamper, switch, passes⟩
    exact ⟨fun k => (links k).1, fun k => (links k).2, tamper.events, switch, tamper.filters, passes, tamper.timer,
      tamper.none, tamper.first⟩

/-- What is in range in one state is in range in the other. -/
structure RangesKept (s t : State) : Prop where
  links : ∀ k : Link, (s.link k).InRange → (t.link k).InRange
  tamper : s.tamper.InRange → t.tamper.InRange
  switch : s.custody.count < 8 → t.custody.count < 8
  passes : s.passes.written ≤ 3 * unitCount → t.passes.written ≤ 3 * unitCount
  assemblies : AssemblyLaw s → AssemblyLaw t

theorem RangesKept.refl (s : State) : RangesKept s s := ⟨fun _ => id, id, id, id, id⟩

theorem RangesKept.trans {s t u : State} (h : RangesKept s t) (k : RangesKept t u) : RangesKept s u :=
  ⟨fun l => k.links l ∘ h.links l, k.tamper ∘ h.tamper, k.switch ∘ h.switch, k.passes ∘ h.passes,
    k.assemblies ∘ h.assemblies⟩

theorem RangesKept.counterLaw {s t : State} (h : RangesKept s t) (c : CounterLaw s) : CounterLaw t := by
  obtain ⟨links, tamper, switch, passes⟩ := counterLaw_iff.1 c
  exact counterLaw_iff.2 ⟨fun k => h.links k (links k), h.tamper tamper, h.switch switch, h.passes passes⟩

/-- With no new assembly part and no new component in process the law of R20 is kept. -/
theorem AssemblyLaw.carry {s t : State} (h : AssemblyLaw s)
    (parts : ∀ i : SlotId, t.slots[i].assembly = s.slots[i].assembly ∨ t.slots[i].assembly = none)
    (component : ∀ i c v k l e, t.custody.process = some (.componentCheck i c v k l e) →
      ∃ e', s.custody.process = some (.componentCheck i c v k l e')) : AssemblyLaw t := by
  have before {i : SlotId} {p : Assembly} (hp : t.slots[i].assembly = some p) : s.slots[i].assembly = some p := by
    obtain e | e := parts i
    · rw [← e, hp]
    · rw [e] at hp; cases hp
  refine ⟨fun i p hp => h.parts i p (before hp), fun i c v k l e hc => ?_⟩
  obtain ⟨e', hc'⟩ := component i c v k l e hc
  obtain ⟨low, high, new⟩ := h.component i c v k l e' hc'
  exact ⟨low, high, fun p hp => new p (before hp)⟩

/-- An update that keeps links, tamper record, switch count and passes, makes no assembly part and starts no component. -/
theorem RangesKept.of_parts {s t : State} (links : ∀ k : Link, t.link k = s.link k := by exact fun k => by cases k <;> rfl)
    (tamper : t.tamper = s.tamper := by rfl) (count : t.custody.count = s.custody.count := by rfl)
    (written : t.passes.written = s.passes.written := by rfl)
    (parts : ∀ i : SlotId, t.slots[i].assembly = s.slots[i].assembly ∨ t.slots[i].assembly = none := by
      exact fun _ => .inl rfl)
    (component : ∀ i c v k l e, t.custody.process = some (.componentCheck i c v k l e) →
      ∃ e', s.custody.process = some (.componentCheck i c v k l e') := by exact fun _ _ _ _ _ _ h => ⟨_, h⟩) :
    RangesKept s t where
  links k := by rw [links k]; exact id
  tamper := by rw [tamper]; exact id
  switch := by rw [count]; exact id
  passes := by rw [written]; exact id
  assemblies h := h.carry parts component

/-! ### Links and lanes -/

theorem ranged_setLane {s : State} {l : LaneId} {x : Lane} (h : s.lanes[l].link.InRange → x.link.InRange := by exact id) :
    RangesKept s (s.setLane l x) where
  links k := by
    cases k with
    | custody => exact id
    | lane m =>
      by_cases e : l = m
      · subst e
        simpa only [State.link, State.setLane_same] using h
      · simp only [State.link, State.setLane_other _ _ _ _ e]; exact id
  tamper := id
  switch := id
  passes := id
  assemblies h := h.carry (fun _ => .inl rfl) fun _ _ _ _ _ _ h => ⟨_, h⟩

theorem ranged_setLink {s : State} {k : Link} {x : LinkState} (h : (s.link k).InRange → x.InRange) :
    RangesKept s (s.setLink k x) := by
  cases k with
  | lane l => exact ranged_setLane h
  | custody =>
    refine ⟨fun m => ?_, id, id, id, fun h => h.carry (fun _ => .inl rfl) fun _ _ _ _ _ _ h => ⟨_, h⟩⟩
    cases m with
    | custody => exact h
    | lane m => exact id

theorem ranged_reply (s : State) (k : Link) (r : Reply) : RangesKept s (s.reply k r) := ranged_setLink id

theorem ranged_popFrame (s : State) (k : Link) : RangesKept s (s.popFrame k) :=
  ranged_setLink fun h => ⟨(List.length_tail ▸ Nat.sub_le _ _).trans h.1, h.2⟩

theorem rangesKept_steady : Steady RangesKept where
  refl := .refl
  trans := .trans
  reply := ranged_reply
  popFrame := ranged_popFrame

theorem saturate_le {limit x : Nat} : saturate limit x ≤ limit := by
  unfold saturate
  split <;> omega

theorem ranged_frameError (s : State) (k : Link) : RangesKept s (s.frameError k) :=
  ranged_setLink fun h => ⟨h.1, saturate_le⟩

theorem LinkState.InRange.clear {k : LinkState} (h : k.InRange) : k.clear.InRange := ⟨Nat.zero_le 2, h.2⟩

theorem LinkState.InRange.erase {k : LinkState} (h : k.InRange) : k.erase.InRange := ⟨Nat.zero_le 2, h.2⟩

theorem LinkState.inRange_start : LinkState.start.InRange := ⟨Nat.zero_le 2, Nat.zero_le 255⟩

/-- A frame is placed only with room for it (R162). -/
theorem LinkState.InRange.receive {k : LinkState} (h : k.InRange) (f : Frame) : (k.receive f).InRange := by
  unfold LinkState.receive
  split
  · exact h
  · split
    · rename_i room
      exact ⟨by rw [List.length_append]; exact room, h.2⟩
    · exact h

theorem ranged_setLane_engine {s : State} {l : LaneId} {x : Lane} {e : Engine}
    (h : s.lanes[l].link.InRange → x.link.InRange := by exact id) : RangesKept s { s.setLane l x with engine := e } :=
  (ranged_setLane h).trans .of_parts

/-! ### The arbiter -/

theorem ranged_withdraw (s : State) (r : Requester) : RangesKept s (s.withdraw r) := .of_parts

theorem ranged_setPointer (s : State) (l : LaneId) : RangesKept s (s.setPointer l) := by
  unfold State.setPointer
  split <;> exact .of_parts

theorem ranged_beginRunGrant (s : State) (l : LaneId) : RangesKept s (s.beginRunGrant l) := by
  unfold State.beginRunGrant
  dsimp only
  split
  · exact ranged_withdraw s _
  · exact ((ranged_withdraw s (.lane l)).trans (ranged_setPointer _ l)).trans ranged_setLane_engine

theorem ranged_beginCustodyGrant (s : State) : RangesKept s s.beginCustodyGrant := by
  unfold State.beginCustodyGrant
  dsimp only
  split <;> exact .of_parts

theorem ranged_choose (s : State) : RangesKept s s.choose := by
  obtain ⟨_, e⟩ | ⟨_, e⟩ | ⟨l, _, e⟩ := s.choose_cases
  · rw [e]; exact .refl s
  · rw [e]; exact ranged_beginCustodyGrant s
  · rw [e]; exact ranged_beginRunGrant s l

theorem ranged_join (s : State) (r : Requester) : RangesKept s (s.join r) := by
  have enrols : RangesKept s (s.enrol r) := .of_parts
  by_cases idle : s.engine = .idle
  · rw [State.join_of_idle idle]; exact enrols.trans (ranged_choose _)
  · rw [State.join_of_busy idle]; exact enrols

theorem ranged_release (s : State) : RangesKept s s.release := (RangesKept.of_parts).trans (ranged_choose _)

/-- A command that is no component check (R23). -/
def Process.IsOther (p : Process) : Prop := ∀ i c v k l e, p ≠ .componentCheck i c v k l e

theorem ranged_inProcess {s : State} {p : Process} (other : p.IsOther) : RangesKept s (s.inProcess (some p)) :=
  .of_parts (component := fun i c v k l e h => absurd (Option.some.inj h) (other i c v k l e))

theorem ranged_outOfProcess (s : State) : RangesKept s (s.inProcess none) := .of_parts (component := nofun)

theorem ranged_startProcess {s : State} {p : Process} (other : p.IsOther) : RangesKept s (s.startProcess p) :=
  (ranged_inProcess other).trans (ranged_join _ _)

theorem ranged_endProcess (s : State) (r : Reply) : RangesKept s (s.endProcess r) :=
  ((ranged_outOfProcess s).trans (ranged_reply _ _ r)).trans (ranged_release _)

theorem ranged_nextOp {s : State} {g : CustodyGrant} {p : Process} (other : p.IsOther) : RangesKept s (s.nextOp g p) :=
  (ranged_inProcess other).trans .of_parts

/-! ### Runs -/

theorem ranged_runStop (s : State) (l : LaneId) : RangesKept s (s.runStop l) := by
  unfold State.runStop
  dsimp only
  split
  · exact .refl s
  · split
    · exact RangesKept.trans ranged_setLane (ranged_withdraw _ (.lane l))
    · exact ranged_setLane
    · split
      · exact .refl s
      · exact ranged_setLane
    · exact .refl s

theorem ranged_answerRun (s : State) (l : LaneId) (body : List Byte) : RangesKept s (s.answerRun l body) := by
  unfold State.answerRun
  split
  · exact ranged_reply s _ _
  · exact RangesKept.trans ranged_setLane (ranged_join _ _)

theorem ranged_answerLaneStatus (s : State) (l : LaneId) (body : List Byte) :
    RangesKept s (s.answerLaneStatus l body) := by
  unfold State.answerLaneStatus
  split <;> exact ranged_reply s _ _

theorem ranged_answerWarrantStatus (s : State) (l : LaneId) (body : List Byte) :
    RangesKept s (s.answerWarrantStatus l body) := by
  obtain ⟨r, e⟩ : ∃ r, s.answerWarrantStatus l body = s.reply (.lane l) r := by
    unfold State.answerWarrantStatus
    split
    · exact ⟨_, rfl⟩
    · split
      · exact ⟨_, rfl⟩
      · split
        · exact ⟨_, rfl⟩
        · split <;> exact ⟨_, rfl⟩
  rw [e]
  exact ranged_reply s _ r

theorem ranged_serveLane (s : State) (l : LaneId) (f : Frame) : RangesKept s (s.serveLane l f) := by
  refine ((ranged_popFrame s (.lane l)).trans (ranged_withdraw _ (.lane l))).trans ?_
  unfold State.serveLane
  dsimp only
  split
  · exact ranged_answerRun _ l f.body
  · split
    · exact ranged_answerLaneStatus _ l f.body
    · split
      · exact ranged_answerWarrantStatus _ l f.body
      · exact ranged_reply _ _ _

theorem ranged_rejoin (s : State) (l : LaneId) : RangesKept s (s.rejoin l) := by
  unfold State.rejoin
  split
  · split
    · exact ranged_join s _
    · exact .refl s
  · exact .refl s

theorem ranged_considerHead (s : State) (l : LaneId) : RangesKept s (s.considerHead l) := by
  rw [State.considerHead_eq]
  split
  · exact ranged_rejoin s l
  · split
    · exact ranged_serveLane s l _
    · exact ranged_rejoin s l

theorem Lane.moveOn_link (x : Lane) : x.moveOn.link = x.link := by
  unfold Lane.moveOn
  split
  · rfl
  · split
    · split <;> rfl
    · split <;> rfl
    · rfl
    · rfl

theorem ranged_handOn (s : State) (k : Link) (r : Reply) : RangesKept s (s.handOn k r) := by
  cases k with
  | custody =>
    unfold State.handOn
    dsimp only
    split
    · exact .of_parts
    · exact .refl s
  | lane l =>
    unfold State.handOn
    refine RangesKept.trans ?_ (ranged_considerHead _ l)
    split
    · exact ranged_setLane (by rw [Lane.moveOn_link]; exact id)
    · exact .refl s

theorem ranged_endWalk (s : State) (g : RunGrant) (r : Run) (results : List EntryResult) (next : Nat)
    (reason : Option EndReason) : RangesKept s (s.endWalk g r results next reason) :=
  RangesKept.trans ranged_setLane (ranged_release _)

theorem ranged_walkOn (s : State) (g : RunGrant) : RangesKept s (s.walkOn g) := by
  unfold State.walkOn
  split
  · exact .refl s
  · dsimp only
    split
    · exact ranged_setLane_engine
    · split
      · exact (ranged_endWalk _ _ _ _ _ _).trans (ranged_runStop _ _)
      · exact ranged_endWalk _ _ _ _ _ _
    · exact ranged_endWalk _ _ _ _ _ _

/-! ### Slots and warrants -/

/-- Other slots, with no new assembly part. -/
theorem ranged_slots {s : State} {slots : Vector Slot 48}
    (parts : ∀ i : SlotId, slots[i].assembly = s.slots[i].assembly ∨ slots[i].assembly = none) :
    RangesKept s { s with slots := slots } := .of_parts (parts := parts)

theorem ranged_writeSlot (s : State) (i : SlotId) (b : SlotBody) (n : Nat) {p : Option Assembly}
    (h : p = s.slots[i].assembly ∨ p = none) : RangesKept s (s.writeSlot i b n p) :=
  .of_parts (parts := fun j => by
    by_cases e : i = j
    · subst e; rw [State.writeSlot_same]; exact h
    · rw [State.writeSlot_other _ _ _ _ _ _ e]; exact .inl rfl)

theorem ranged_setRefs (s : State) (i : SlotId) (n : Nat) : RangesKept s (s.setRefs i n) :=
  ranged_writeSlot s i _ n (.inl rfl)

theorem ranged_emptySlot (s : State) (i : SlotId) : RangesKept s (s.emptySlot i) :=
  ranged_writeSlot s i .empty 0 (.inr rfl)

theorem ranged_raiseUsesOf (s : State) (i : Option SlotId) : RangesKept s (s.raiseUsesOf i) := by
  cases i with
  | none => exact .refl s
  | some i => exact ranged_writeSlot s i _ _ (.inl rfl)

theorem ranged_moveRefs (s : State) (old : Option SlotId) (new : SlotId) : RangesKept s (s.moveRefs old new) := by
  unfold State.moveRefs
  split
  · exact .refl s
  · cases old with
    | none => exact ranged_setRefs s new _
    | some i => exact (ranged_setRefs s i _).trans (ranged_setRefs _ new _)

theorem ranged_setWarrant (s : State) (id : Nat) (f : Warrant → Warrant) : RangesKept s (s.setWarrant id f) := .of_parts

theorem ranged_addWarrant (s : State) (w : Warrant) : RangesKept s (s.addWarrant w) :=
  RangesKept.trans (.of_parts) (ranged_setRefs _ w.master _)

theorem ranged_completeEntry (s : State) (g : RunGrant) (tie : Nat) (o : Block) :
    RangesKept s (s.completeEntry g tie o) := by
  have debits : RangesKept s (s.debitTied tie) := .of_parts
  unfold State.completeEntry
  exact ((debits.trans (ranged_raiseUsesOf _ _)).trans (ranged_raiseUsesOf _ _)).trans ranged_setLane

/-! ### The Tamper Monitor and the erase -/

theorem ranged_tamper {s : State} {t : Tamper} (h : s.tamper.InRange → t.InRange) : RangesKept s { s with tamper := t } where
  links k := by cases k <;> exact id
  tamper := h
  switch := id
  passes := id
  assemblies h := h.carry (fun _ => .inl rfl) fun _ _ _ _ _ _ h => ⟨_, h⟩

theorem Tamper.InRange.setPending {t : Tamper} (h : t.InRange) (b : Bool) : { t with erasePending := b }.InRange :=
  ⟨h.events, h.filters, h.timer, h.none, h.first⟩

/-- The arming and the timer of the supply monitor change together (R136). -/
theorem Tamper.InRange.setSupply {t : Tamper} (h : t.InRange) {armed timer : Bool} (running : timer = true → armed = true) :
    { t with armed := armed, timer := timer }.InRange :=
  ⟨h.events, h.filters, running, h.none, h.first⟩

theorem Tamper.InRange.acknowledge {t : Tamper} (h : t.InRange) : t.acknowledge.InRange :=
  ⟨h.events, h.filters, h.timer, by simp [Tamper.acknowledge], nofun⟩

theorem Source.bit_set (x : Source) : x.bit.getLsbD x.bitIndex = true := by
  have place : x.bitIndex < 7 := by
    cases x with
    | input i => exact i.isLt.trans (by decide)
    | supply => decide
  simp [Source.bit, place]

theorem sources_with_ne_zero (c : SourceSet) (x : Source) : c ||| x.bit ≠ 0 := by
  intro h
  have set := congrArg (fun b : SourceSet => b.getLsbD x.bitIndex) h
  simp [x.bit_set] at set

/-- A set holds a source still when it grows, and holds the source it grows by (R138). -/
theorem sources_with_holds {c b y : SourceSet} (h : c &&& y = y ∨ b = y) : (c ||| b) &&& y = y := by
  obtain h | rfl := h
  · have absorb : (c ||| b) &&& (c &&& y) = c &&& y := by
      rw [← BitVec.and_assoc]
      congr 1
      ext i hi
      simpa using Or.inl
    rwa [h] at absorb
  · ext i hi
    simpa using Or.inr

/-- The cause of an event joins the set, as its first member if there was none (R138). -/
theorem Tamper.InRange.record {t : Tamper} (h : t.InRange) (x : Source) : (t.record x).InRange where
  events := saturate_le
  filters := h.filters
  timer := h.timer
  none := by
    refine iff_of_false (fun e => ?_) (sources_with_ne_zero _ x)
    simp only [Tamper.record] at e
    split at e
    · cases e
    · rename_i causes; exact causes (h.none.1 e)
  first y hy := by
    simp only [Tamper.record] at hy
    split at hy
    · exact sources_with_holds (.inr (by rw [Option.some.inj hy]))
    · exact sources_with_holds (.inl (h.first y hy))

theorem Filter.limit_pos (f : Filter) : 0 < f.limit := by cases f <;> decide

/-- Another set of inputs, each with its count below its setting (R134). -/
theorem Tamper.InRange.setInputs {t : Tamper} (h : t.InRange) {inputs : Vector TamperInput 6}
    (filters : ∀ i : InputId, inputs[i].count < inputs[i].filter.limit) : { t with inputs := inputs }.InRange :=
  ⟨h.events, filters, h.timer, h.none, h.first⟩

/-- A count is set to 0 with any change of its filter (R146). -/
theorem TamperInput.setUp_count {t : TamperInput} (h : t.count < t.filter.limit) (n : InputSettings) (raw : Level) :
    (t.setUp n raw).count < (t.setUp n raw).filter.limit := by
  simp only [TamperInput.setUp]
  split
  · exact n.filter.limit_pos
  · rename_i same
    have filter : t.filter = n.filter := by simp at same; exact same.2
    rwa [← filter]

theorem Tamper.InRange.setUp {t : Tamper} (h : t.InRange) (n : TamperSettings) (raw : BitVec 6) :
    (t.setUp n raw).InRange := by
  have filters := h.setInputs (inputs := Vector.ofFn fun i : InputId => t.inputs[i].setUp n.inputs[i] (levelOf raw i))
    fun i => by rw [ofFn_get]; exact TamperInput.setUp_count (h.filters i) _ _
  refine ⟨filters.events, filters.filters, fun running => ?_, filters.none, filters.first⟩
  simp only [Tamper.setUp, Bool.and_eq_true] at running ⊢
  exact ⟨h.timer running.1, running.2⟩

/-- A sample that raises the count leaves it below the setting, and any other sets it to 0 (R134). -/
theorem TamperInput.sample_count (t : TamperInput) (v : Level) : (t.sample v).1.count < (t.sample v).1.filter.limit := by
  unfold TamperInput.sample
  split
  · exact t.filter.limit_pos
  · split
    · rename_i few; exact few
    · exact t.filter.limit_pos

theorem Tamper.InRange.sample {t : Tamper} (h : t.InRange) (i : InputId) (v : Level) :
    { t with inputs := t.inputs.set i (t.inputs[i].sample v).1 }.InRange :=
  h.setInputs fun j => by
    by_cases e : i = j
    · subst e
      have own : (t.inputs.set i (t.inputs[i].sample v).1)[i] = (t.inputs[i].sample v).1 := by simp
      rw [own]
      exact TamperInput.sample_count _ v
    · have other : (t.inputs.set i (t.inputs[i].sample v).1)[j] = t.inputs[j] := by
        simp [show i.val ≠ j.val from fun c => e (Fin.ext c)]
      rw [other]
      exact h.filters j

theorem Tamper.inRange_default (sample : InputId → Level) : (Tamper.default sample).InRange where
  events := Nat.zero_le 255
  filters i := by simp only [Tamper.default, ofFn_get]; exact Nat.zero_lt_succ 2
  timer := nofun
  none := iff_of_true rfl rfl
  first := nofun

theorem ranged_notice (s : State) : RangesKept s s.notice := by
  unfold State.notice
  split
  · exact ranged_reply s _ _
  · exact .refl s

/-- The start of an erase empties the links and begins the passes anew (R118, R141). -/
theorem ranged_eraseBegin (s : State) : RangesKept s s.eraseBegin where
  links k h := by
    cases k with
    | custody => exact LinkState.InRange.erase h
    | lane l =>
      simp only [State.link, State.eraseBegin, ofFn_get]
      exact LinkState.InRange.erase h
  tamper h := h.setPending true
  switch := id
  passes _ := Nat.zero_le _
  assemblies h := h.carry (fun _ => .inl rfl) nofun

theorem ranged_orderErase (s : State) : RangesKept s s.orderErase := by
  unfold State.orderErase
  split
  · exact ranged_eraseBegin s
  · exact ranged_eraseBegin s
  · exact ranged_eraseBegin s
  · exact .refl s
  · exact ranged_tamper fun h => h.setPending true
  · exact ranged_tamper fun h => h.setPending true

theorem ranged_tamperEvent (s : State) (x : Source) (r : Response) : RangesKept s (s.tamperEvent x r) := by
  have records : RangesKept s { s with tamper := s.tamper.record x } := ranged_tamper fun h => h.record x
  unfold State.tamperEvent
  dsimp only
  split
  · exact records.trans (ranged_notice _)
  · exact records.trans (ranged_orderErase _)

theorem ranged_sampleInput (s : State) (i : InputId) (v : Level) : RangesKept s (s.sampleInput i v) := by
  have samples : RangesKept s
      { s with tamper := { s.tamper with inputs := s.tamper.inputs.set i (s.tamper.inputs[i].sample v).1 } } :=
    ranged_tamper fun h => h.sample i v
  unfold State.sampleInput
  dsimp only
  split
  · exact samples.trans (ranged_tamperEvent _ _ _)
  · exact samples

/-- The passes make a write only while writes are left (R142). -/
theorem ranged_overwriteNext (s : State) : RangesKept s s.overwriteNext where
  links k := by cases k <;> simp only [State.link, State.overwriteNext_custody, State.overwriteNext_lanes] <;> exact id
  tamper := by rw [State.overwriteNext_tamper]; exact id
  switch := by rw [State.overwriteNext_custody]; exact id
  passes h := by
    unfold State.overwriteNext
    split
    · rename_i left; exact left
    · exact h
  assemblies h := h.carry
    (fun i => by
      rw [State.overwriteNext_slot]
      split
      · exact .inr rfl
      · exact .inl rfl)
    fun i c v k l e hc => ⟨e, by rw [State.overwriteNext_custody] at hc; exact hc⟩

/-! ### The custody switch -/

theorem switchSample_count (position : SwitchPosition) (count : Nat) (x : SwitchPosition) :
    (switchSample position count x).2.1 < 8 := by
  unfold switchSample
  split
  · exact Nat.zero_lt_succ 7
  · split
    · rename_i few; exact few
    · exact Nat.zero_lt_succ 7

theorem ranged_abandonComponent (s : State) : RangesKept s s.abandonComponent := by
  unfold State.abandonComponent
  split
  · rename_i i c v k l e now
    split
    · have waits : RangesKept s
          (((s.inProcess none).withdraw .custody).custodyRefuse kindComponent .notInCustody) :=
        ((ranged_outOfProcess s).trans (ranged_withdraw _ .custody)).trans (ranged_reply _ _ _)
      split
      · refine .of_parts (component := fun i' c' v' k' l' e' h => ?_)
        obtain ⟨rfl, rfl, rfl, rfl, rfl, _⟩ := Process.componentCheck.inj (Option.some.inj h)
        exact ⟨e, now⟩
      · exact waits
      · exact waits
    · exact .refl s
  · exact .refl s

theorem ranged_abandonAssemblies (s : State) : RangesKept s s.abandonAssemblies :=
  ranged_slots fun i => by
    rw [ofFn_get]
    split
    · exact .inr rfl
    · exact .inl rfl

theorem ranged_sampleSwitch (s : State) (pin : Level) : RangesKept s (s.sampleSwitch pin) := by
  have few := switchSample_count s.custody.position s.custody.count (contact pin)
  unfold State.sampleSwitch
  split
  rename_i position count confirmed taken
  rw [taken] at few
  have counts : RangesKept s { s with custody := { s.custody with position := position, count := count } } :=
    ⟨fun k => by cases k <;> exact id, id, fun _ => few, id,
      fun h => h.carry (fun _ => .inl rfl) fun _ _ _ _ _ _ h => ⟨_, h⟩⟩
  dsimp only
  split
  · exact (counts.trans (ranged_abandonComponent _)).trans (ranged_abandonAssemblies _)
  · exact counts

/-! ### Stopping and starting -/

theorem State.sweepLane_link (s : State) (x : Lane) : (s.sweepLane x).link = x.link := by
  unfold State.sweepLane
  split
  · rfl
  · split <;> rfl

theorem Lane.resetChain_link (x : Lane) : x.resetChain.link = x.link := by unfold Lane.resetChain; split <;> rfl

/-- The steps of a sweep write no link. -/
theorem State.sweepFirst_link (s : State) (n : Nat) (k : Link) : (s.sweepFirst n).link k = s.link k := by
  cases k with
  | custody => simp only [State.link, State.sweepFirst_custody]
  | lane l =>
    refine State.sweepFirst_keeps (f := fun u => u.lanes[l].link) (fun g hg u => ?_) s n
    simp only [sweepSteps, List.mem_cons, List.not_mem_nil, or_false] at hg
    obtain rfl | rfl | rfl | rfl | rfl | rfl := hg
    · simp only [State.sweepAssemblies_lanes]
    · simp only [State.sweepIntegrity_lanes]
    · simp only [State.sweepWarrants_lanes]
    · simp only [State.sweepLanes, ofFn_get, State.sweepLane_link]
    · simp only [State.sweepReferences_lanes]
    · simp only [State.resetChains, ofFn_get, Lane.resetChain_link]

/-- A sweep leaves each assembly part or discards it. -/
theorem Slot.Swept.part {a b : Slot} (h : a.Swept b) : b.assembly = a.assembly ∨ b.assembly = none := by
  cases h with
  | same _ assembly => exact .inl assembly
  | faulted _ _ _ _ assembly => exact .inl assembly
  | emptied _ assembly => exact .inr assembly

theorem ranged_sweepFirst (s : State) (n : Nat) : RangesKept s (s.sweepFirst n) :=
  .of_parts (State.sweepFirst_link s n) (State.sweepFirst_tamper s n) (by rw [State.sweepFirst_custody])
    (by rw [State.sweepFirst_passes]) (fun i => ((sweptTo_sweepFirst s n).slots i).part)
    (by rw [State.sweepFirst_custody]; exact fun _ _ _ _ _ e h => ⟨e, h⟩)

theorem ranged_cutSweep (s : State) (cut : SweepCut) : RangesKept s (s.cutSweep cut) := by
  by_cases hm : s.mode = .starting .sweep
  · rw [State.cutSweep_of_sweep cut hm]
    refine .of_parts (fun k => ?_) (by simp) (by simp) (by simp) (fun i => ((sweptTo_cut s cut.steps cut.records).slots i).part)
      (by rw [State.partly_custody, State.sweepFirst_custody]; exact fun _ _ _ _ _ e h => ⟨e, h⟩)
    cases k with
    | custody => simp only [State.link, State.partly_custody, State.sweepFirst_custody]
    | lane l =>
      have steps (n : Nat) : (s.sweepFirst n).lanes[l].link = s.lanes[l].link := State.sweepFirst_link s n (.lane l)
      simp only [State.link, State.partly_lane]
      split <;> exact steps _
  · rw [State.cutSweep_of_ne cut hm]
    exact .refl s

/-- The volatile state begins in range, with no assembly part and no command in process (R150, R158). -/
theorem ranged_volatileStart (s : State) : RangesKept s s.volatileStart where
  links k _ := by
    cases k with
    | custody => exact LinkState.inRange_start
    | lane l => simp only [State.link, State.volatileStart, ofFn_get]; exact LinkState.inRange_start
  tamper h := h.setSupply nofun
  switch _ := Nat.zero_lt_succ 7
  passes _ := Nat.zero_le _
  assemblies h := h.carry (fun i => .inr (by rw [State.volatileStart_slot]))
    fun _ _ _ _ _ _ hc => by rw [State.volatileStart_process] at hc; cases hc

theorem ranged_enterStarting (s : State) : RangesKept s s.enterStarting := (ranged_volatileStart s).trans .of_parts

theorem ranged_stopLogic (s : State) (cut : SweepCut) : RangesKept s (s.stopLogic cut) :=
  ((ranged_cutSweep s cut).trans (ranged_volatileStart _)).trans .of_parts

theorem ranged_stopIfRunning (s : State) (cut : SweepCut) : RangesKept s (if s.mode.running then s.stopLogic cut else s) := by
  split
  · exact ranged_stopLogic s cut
  · exact .refl s

theorem ranged_keepDomain (s : State) : RangesKept s s.keepDomain := by
  unfold State.keepDomain
  split
  · exact .refl s
  · exact .of_parts

/-- A battery-loss clearing leaves the links as they are (R151). -/
theorem ranged_clearDomain (s : State) : RangesKept s s.clearDomain where
  links k := by
    cases k with
    | custody => exact id
    | lane l => simp only [State.link, State.clearDomain, ofFn_get]; exact id
  tamper := by rw [State.clearDomain_tamper]; exact id
  switch := by rw [State.clearDomain_custody]; exact id
  passes _ := by rw [State.clearDomain_passes]; exact Nat.zero_le _
  assemblies h := h.carry (fun i => .inr (by simp only [State.clearDomain, ofFn_get]; rfl))
    (by rw [State.clearDomain_custody]; exact fun _ _ _ _ _ e h => ⟨e, h⟩)

theorem ranged_afterSweep (s : State) : RangesKept s s.afterSweep := by
  unfold State.afterSweep
  split
  · exact ranged_eraseBegin s
  · split
    · exact .of_parts
    · split <;> exact .of_parts

end Sys2Proof.Machine
end

section
/-! PROOFS. Every command, and so every step, keeps counters, filters, FIFOs, passes and assembly parts in range (R20, R22, R30,
R134, R136, R138, R142, R160, R162): CountersAndAssembliesStayInRange. -/

namespace Sys2Proof.Machine

/-! ### Key ceremonies -/

/-- An assembly part that ASSEMBLE makes is lawful (R21). -/
theorem AssembleForm.assembly_lawful {f : AssembleForm} {a : Attributes} (h : f.attributes = some a) (l : KeyLength) :
    (f.assembly l).Lawful := by
  obtain ⟨_, _, _, two | three⟩ := AssembleForm.attributes_eq_some.1 h
  · exact ⟨.inl (by simp [AssembleForm.assembly, two]), .nil, nofun, by simp [AssembleForm.assembly, two]⟩
  · exact ⟨.inr (by simp [AssembleForm.assembly, three]), .nil, nofun, by simp [AssembleForm.assembly, three]⟩

/-- What the checks of R22 make sure of before a component is combined. -/
structure Assembly.Admits (p : Assembly) (custodian : Nat) : Prop where
  low : 1 ≤ custodian
  high : custodian ≤ 8
  new : custodian ∉ p.custodians
  clear : p.checking = false

theorem Assembly.admits_of_componentRefusal {sl : Slot} {a : Attributes} {p : Assembly} {f : ComponentForm}
    (part : sl.assemblyOf = some (a, p)) (h : sl.componentRefusal f = none) : p.Admits f.custodian.toNat := by
  rw [Slot.componentRefusal_of_part part] at h
  split at h
  · cases h
  · rename_i clear
    split at h
    · cases h
    · rename_i new
      split at h
      · cases h
      · rename_i range
        simp only [not_or, Nat.not_lt] at range
        exact ⟨range.1, range.2.1, new, by simpa using clear⟩

/-- A combined component leaves the assembly part lawful: its list is short of the required count, or full with the checking
flag set (R24, R25). -/
theorem Assembly.Lawful.combine {p : Assembly} (h : p.Lawful) {c : Nat} (admits : p.Admits c) (v : KeyValue) :
    (p.combine c v).Lawful := by
  have short : p.custodians.length < p.required := by simpa [admits.clear] using h.checking
  refine ⟨h.required, ?_, fun d hd => ?_, ?_⟩
  · exact List.nodup_append.2 ⟨h.distinct, List.nodup_singleton c, fun d hd e he same => by
      rw [same, List.mem_singleton.1 he] at hd
      exact admits.new hd⟩
  · obtain hd | hd := List.mem_append.1 hd
    · exact h.range d hd
    · rw [List.mem_singleton.1 hd]; exact ⟨admits.low, admits.high⟩
  · simp only [Assembly.combine, Assembly.lastDue, beq_iff_eq, List.length_append, List.length_singleton]
    split <;> omega

/-- A slot's assembly part written, with no command in process (R21, R24). -/
theorem AssemblyLaw.write {s t : State} (h : AssemblyLaw s) {i : SlotId} {p : Assembly} (lawful : p.Lawful)
    (free : t.custody.process = none) (same : t.slots[i].assembly = some p)
    (other : ∀ j : SlotId, i ≠ j → t.slots[j] = s.slots[j]) : AssemblyLaw t := by
  refine ⟨fun j q hq => ?_, fun j c v k l e hc => by rw [free] at hc; cases hc⟩
  by_cases e : i = j
  · subst e
    rwa [← Option.some.inj (same.symm.trans hq)]
  · rw [other j e] at hq
    exact h.parts j q hq

theorem ranged_assembles {s : State} {i : SlotId} {p : Assembly} (a : Attributes) (lawful : p.Lawful)
    (free : s.custody.process = none) : RangesKept s (s.writeSlot i (.assembling a) 0 (some p)) where
  links k := by cases k <;> exact id
  tamper := id
  switch := id
  passes := id
  assemblies h := h.write lawful free (by rw [State.writeSlot_same]) fun j => State.writeSlot_other s i j _ _ _

/-- A component that has passed its checks is combined, and its command, if it was in process, goes on as another (R24). -/
theorem ranged_combines {s : State} {i : SlotId} {a : Attributes} {p : Assembly} {c : Nat} (v : KeyValue)
    (part : s.slots[i].assemblyOf = some (a, p)) (admits : AssemblyLaw s → p.Admits c) :
    RangesKept s ((s.inProcess none).setAssembly i (p.combine c v)) where
  links k := by cases k <;> exact id
  tamper := id
  switch := id
  passes := id
  assemblies h := by
    have lawful : p.Lawful := h.parts i p (Slot.assemblyOf_eq_some.1 part).2
    exact h.write (lawful.combine (admits h) v) rfl (by rw [State.setAssembly_same])
      fun j => State.setAssembly_other (s.inProcess none) i j _

/-- A component with a check value is in process once it has passed its checks (R22, R23). -/
theorem ranged_startComponentCheck {s : State} {i : SlotId} {a : Attributes} {p : Assembly} {c : Nat} (v : KeyValue)
    (k : CheckValue) (l e : Bool) (part : s.slots[i].assemblyOf = some (a, p)) (admits : p.Admits c) :
    RangesKept s (s.startProcess (.componentCheck i c v k l e)) := by
  refine RangesKept.trans (t := s.inProcess (some (.componentCheck i c v k l e))) ?_ (ranged_join _ _)
  refine ⟨fun k => by cases k <;> exact id, id, id, id, fun h => ⟨h.parts, fun j d w m l' e' hc => ?_⟩⟩
  obtain ⟨rfl, rfl, _⟩ := Process.componentCheck.inj (Option.some.inj hc)
  refine ⟨admits.low, admits.high, fun q hq => ?_⟩
  obtain rfl := Option.some.inj ((Slot.assemblyOf_eq_some.1 part).2.symm.trans hq)
  exact ⟨admits.new, admits.clear⟩

theorem ranged_acceptComponent {s : State} {i : SlotId} {a : Attributes} {p : Assembly} {f : ComponentForm}
    (free : s.custody.process = none) (part : s.slots[i].assemblyOf = some (a, p)) (admits : p.Admits f.custodian.toNat) :
    RangesKept s (s.acceptComponent i p f) := by
  have idle : s.inProcess none = s := by rw [State.inProcess, ← free]
  have combines := ranged_combines f.value part fun _ => admits
  rw [idle] at combines
  unfold State.acceptComponent
  dsimp only
  split
  · exact ranged_startComponentCheck _ _ _ _ part admits
  · split
    · exact combines.trans (ranged_startProcess nofun)
    · exact combines.trans (ranged_reply _ _ _)

theorem ranged_execAssemble (s : State) : Gives RangesKept s (execAssemble s) := by
  have steady := rangesKept_steady
  refine steady.takeCustody fun _ u hu => steady.readCustody fun f => steady.gatedSlot fun i => steady.refuseOr ?_
  split
  · exact steady.refuse u _ _
  · rename_i a fits
    exact .next ((ranged_assembles a (AssembleForm.assembly_lawful fits _) hu.process).trans (ranged_reply _ _ _))

theorem ranged_execComponent (s : State) : Gives RangesKept s (execComponent s) := by
  have steady := rangesKept_steady
  refine steady.takeCustody fun _ u hu => steady.readCustody fun f => steady.gatedSlot fun i => ?_
  split
  · exact steady.refuse u _ _
  · rename_i passes part
    exact .next (ranged_acceptComponent hu.process part (Assembly.admits_of_componentRefusal part passes))
  · exact steady.same u

theorem ranged_execComponentCheckEnd (s : State) : Gives RangesKept s (execComponentCheckEnd s) := by
  unfold execComponentCheckEnd
  split
  · rename_i g i c v k l e engine now
    split
    · exact .fault s _
    · dsimp only
      split
      · exact .next (ranged_endProcess s _)
      · split
        · exact .next (ranged_endProcess s _)
        · split
          · exact .fault s _
          · rename_i a p part
            have admits (h : AssemblyLaw s) : p.Admits c := by
              obtain ⟨low, high, rest⟩ := h.component i c v k l e now
              obtain ⟨new, clear⟩ := rest p (Slot.assemblyOf_eq_some.1 part).2
              exact ⟨low, high, new, clear⟩
            have combines := ranged_combines v part admits
            split
            · exact .next (combines.trans (ranged_nextOp (p := .finalCheck i) nofun))
            · exact .next (combines.trans (ranged_endProcess _ _))
  · exact rangesKept_steady.same s

theorem ranged_execFinalCheckEnd (s : State) : Gives RangesKept s (execFinalCheckEnd s) := by
  unfold execFinalCheckEnd
  split
  · split
    · exact .fault s _
    · exact .fault s _
    · dsimp only
      split
      · exact .next ((ranged_writeSlot s _ _ 0 (.inr rfl)).trans (ranged_endProcess _ _))
      · exact .next ((ranged_emptySlot s _).trans (ranged_endProcess _ _))
  · exact rangesKept_steady.same s

theorem ranged_execAssemblyCancel (s : State) : Gives RangesKept s (execAssemblyCancel s) := by
  have steady := rangesKept_steady
  refine steady.takeCustody fun _ u _ => steady.readCustody fun _ => steady.gatedSlot fun i => ?_
  split
  · exact steady.refuse u _ _
  · exact steady.refuseOr (.next ((ranged_emptySlot u i).trans (ranged_reply _ _ _)))

theorem ranged_execCustodySwitchChange (samples : List Level) (s : State) :
    Gives RangesKept s (execCustodySwitchChange samples s) :=
  rangesKept_steady.guarded (.next (rangesKept_steady.foldl ranged_sampleSwitch s samples))

/-! ### The Key Table, storage keys and tokens -/

theorem ranged_execSlotStatus (s : State) : Gives RangesKept s (execSlotStatus s) :=
  rangesKept_steady.takeCustody fun _ u _ => rangesKept_steady.readCustody fun _ => rangesKept_steady.gatedSlot fun _ =>
    .next (ranged_reply u _ _)

theorem ranged_execSlotErase (s : State) : Gives RangesKept s (execSlotErase s) := by
  have steady := rangesKept_steady
  refine steady.takeCustody fun _ u _ => steady.readCustody fun _ => steady.gatedSlot fun i => ?_
  split
  · exact steady.refuse u _ _
  · exact steady.refuseOr (.next ((ranged_emptySlot u i).trans (ranged_reply _ _ _)))

theorem ranged_draw (s : State) : RangesKept s s.draw.2 := .of_parts

theorem ranged_execInitialise (s : State) : Gives RangesKept s (execInitialise s) :=
  rangesKept_steady.takeCustody fun _ u _ => rangesKept_steady.readCustody fun _ => rangesKept_steady.gated
    (.next ((ranged_draw u).trans (ranged_startProcess nofun)))

theorem ranged_execInitialisePatternEnd (s : State) : Gives RangesKept s (execInitialisePatternEnd s) := by
  unfold execInitialisePatternEnd
  split
  · split
    · exact .fault s _
    · exact .next (RangesKept.trans .of_parts (ranged_endProcess _ _))
  · exact rangesKept_steady.same s

theorem ranged_execStorageRoll (s : State) : Gives RangesKept s (execStorageRoll s) := by
  have steady := rangesKept_steady
  refine steady.takeCustody fun _ u _ => steady.readCustody fun _ => steady.gated ?_
  split
  · exact .fault u _
  · exact steady.refuseOr (.next ((ranged_draw u).trans (ranged_startProcess nofun)))

theorem ranged_execStorageRollPatternEnd (s : State) : Gives RangesKept s (execStorageRollPatternEnd s) := by
  unfold execStorageRollPatternEnd
  split
  · split
    · exact .fault s _
    · exact .fault s _
    · exact .next (RangesKept.trans .of_parts (ranged_endProcess _ _))
  · exact rangesKept_steady.same s

theorem ranged_execTokenExport (s : State) : Gives RangesKept s (execTokenExport s) := by
  have steady := rangesKept_steady
  refine steady.takeCustody fun _ u _ => steady.readCustody fun _ => steady.gatedSlot fun i => ?_
  split
  · exact steady.refuse u _ _
  · exact .fault u _
  · exact .next (ranged_startProcess nofun)

theorem ranged_execTokenExportOperationEnd (s : State) : Gives RangesKept s (execTokenExportOperationEnd s) := by
  unfold execTokenExportOperationEnd
  split
  · split
    · exact .fault s _
    · split
      · exact .next (ranged_endProcess s _)
      · exact .next (ranged_nextOp nofun)
      · exact .next (ranged_endProcess s _)
  · exact rangesKept_steady.same s

theorem ranged_execTokenImport (s : State) : Gives RangesKept s (execTokenImport s) := by
  have steady := rangesKept_steady
  refine steady.takeCustody fun _ u _ => steady.readCustody fun f => steady.gatedSlot fun i => steady.refuseOr ?_
  split
  · exact steady.refuse u _ _
  · split
    · exact .next (ranged_reply u _ _)
    · exact .next (ranged_startProcess nofun)

theorem ranged_endImport (s : State) (i : SlotId) (t : Token) (b : Bool) (n : Nat) (key : KeyValue) (c : CheckValue) :
    RangesKept s (s.endImport i t b n key c) := by
  unfold State.endImport
  split
  · exact (ranged_writeSlot s i _ 0 (.inr rfl)).trans (ranged_endProcess _ _)
  · exact ranged_endProcess s _

theorem ranged_execTokenImportOperationEnd (s : State) : Gives RangesKept s (execTokenImportOperationEnd s) := by
  unfold execTokenImportOperationEnd
  split
  · split
    · exact .fault s _
    · split
      · exact .next (ranged_nextOp nofun)
      · exact .next (ranged_nextOp nofun)
      · exact .next (ranged_endImport s _ _ _ _ _ _)
      · exact .next (ranged_endImport s _ _ _ _ _ _)
  · exact rangesKept_steady.same s

/-! ### Warrants -/

theorem ranged_execWarrantOpen (s : State) : Gives RangesKept s (execWarrantOpen s) := by
  have steady := rangesKept_steady
  refine steady.takeCustody fun _ u _ => steady.readCustody fun f => steady.served ?_
  split
  · exact steady.refuse u _ _
  · split
    · exact steady.refuse u _ _
    · exact .next ((ranged_addWarrant u _).trans (ranged_reply _ _ _))

theorem ranged_execWarrantHold (s : State) : Gives RangesKept s (execWarrantHold s) := by
  have steady := rangesKept_steady
  refine steady.takeCustody fun _ u _ => steady.readCustody fun _ => steady.withWarrant fun w => steady.refuseOr ?_
  exact .next ((ranged_setWarrant u _ _).trans (ranged_reply _ _ _))

theorem ranged_execWarrantRelease (s : State) : Gives RangesKept s (execWarrantRelease s) := by
  have steady := rangesKept_steady
  refine steady.takeCustody fun _ u _ => steady.readCustody fun _ => steady.withWarrant fun w => steady.refuseOr ?_
  exact .next ((ranged_setWarrant u _ _).trans (ranged_reply _ _ _))

theorem ranged_execWarrantExtend (s : State) : Gives RangesKept s (execWarrantExtend s) := by
  have steady := rangesKept_steady
  refine steady.takeCustody fun _ u _ => steady.readCustody fun f => steady.withWarrant fun w => ?_
  exact steady.refuseOr (steady.refuseOr (.next ((ranged_setWarrant u _ _).trans (ranged_reply _ _ _))))

theorem ranged_execWarrantClose (s : State) : Gives RangesKept s (execWarrantClose s) := by
  have steady := rangesKept_steady
  refine steady.takeCustody fun _ u _ => steady.readCustody fun _ => steady.withWarrant fun w => steady.refuseOr ?_
  exact .next (((ranged_setWarrant u _ _).trans (ranged_setRefs _ w.master _)).trans (ranged_reply _ _ _))

theorem ranged_execWarrantPurge (s : State) : Gives RangesKept s (execWarrantPurge s) := by
  have steady := rangesKept_steady
  refine steady.takeCustody fun _ u _ => steady.readCustody fun _ => steady.withWarrant fun w => steady.refuseOr ?_
  have purges : RangesKept u (u.removeWarrant w.id) := .of_parts
  exact .next (purges.trans (ranged_reply _ _ _))

theorem ranged_execWarrantStatus (k : Link) (s : State) : Gives RangesKept s (execWarrantStatus k s) := by
  have steady := rangesKept_steady
  cases k with
  | custody =>
    unfold execWarrantStatus
    refine steady.takeCustody fun _ u _ => steady.readCustody fun _ => steady.withWarrant fun _ => ?_
    exact .next (ranged_reply u _ _)
  | lane l =>
    unfold execWarrantStatus
    exact steady.takeLane (ranged_serveLane s l)

theorem ranged_execWarrantList (s : State) : Gives RangesKept s (execWarrantList s) :=
  rangesKept_steady.takeCustody fun _ u _ => rangesKept_steady.readCustody fun _ => rangesKept_steady.served
    (.next (ranged_reply u _ _))

/-! ### Lanes and the engine -/

theorem ranged_execLaneBind (s : State) : Gives RangesKept s (execLaneBind s) := by
  have steady := rangesKept_steady
  refine steady.takeCustody fun _ u _ => steady.readCustody fun f => steady.served ?_
  split
  · exact steady.refuse u _ _
  · rename_i b _
    refine steady.refuseOr ?_
    split
    · exact steady.refuse u _ _
    · have lanes : (u.moveRefs u.lanes[b.lane].transport b.slot).lanes = u.lanes := by
        obtain ⟨v, e⟩ := u.moveRefs_rest u.lanes[b.lane].transport b.slot
        rw [e]
      refine .next (((ranged_moveRefs u _ _).trans (ranged_setLane ?_)).trans (ranged_reply _ _ _))
      rw [lanes]
      exact id

theorem ranged_execLaneUnbind (s : State) : Gives RangesKept s (execLaneUnbind s) := by
  have steady := rangesKept_steady
  refine steady.takeCustody fun _ u _ => steady.readCustody fun _ => steady.served ?_
  split
  · exact steady.refuse u _ _
  · dsimp only
    split
    · exact steady.refuse u _ _
    · exact steady.refuseOr (.next (((ranged_setRefs u _ _).trans ranged_setLane).trans (ranged_reply _ _ _)))

theorem ranged_execSetQuantum (s : State) : Gives RangesKept s (execSetQuantum s) := by
  have steady := rangesKept_steady
  refine steady.takeCustody fun _ u _ => steady.readCustody fun v => steady.refuseOr ?_
  have sets : RangesKept u { u with quantum := quantumOf v.toNat } := .of_parts
  exact .next (sets.trans (ranged_reply _ _ _))

theorem ranged_execRunStop (stop : Stop) (s : State) : Gives RangesKept s (execRunStop stop s) := by
  refine rangesKept_steady.guarded ?_
  obtain e | ⟨g, n, m, _, _, _, _, _, e⟩ := s.takeStop_cases stop
  · rw [e]; exact .next (ranged_runStop s _)
  · rw [e]; exact .next .of_parts

theorem ranged_execRun (l : LaneId) (s : State) : Gives RangesKept s (execRun l s) :=
  rangesKept_steady.takeLane (ranged_serveLane s l)

theorem ranged_execLaneStatus (l : LaneId) (s : State) : Gives RangesKept s (execLaneStatus l s) :=
  rangesKept_steady.takeLane (ranged_serveLane s l)

theorem ranged_execGrant (s : State) : Gives RangesKept s (execGrant s) := by
  have walks (u : State) : Gives RangesKept u (match u.engine with
      | .lane g => match g.stage with
        | .opening => .next (u.walkOn g)
        | .deriving _ _ => .next u
        | .checking _ _ _ => .next u
        | .keystream _ _ _ _ => .next u
        | .withheld => .next u
      | .idle => .next u
      | .custody _ => .next u) := by
    split
    · split
      · exact .next (ranged_walkOn u _)
      all_goals exact rangesKept_steady.same u
    · exact rangesKept_steady.same u
    · exact rangesKept_steady.same u
  unfold execGrant
  split
  · exact rangesKept_steady.same s
  · refine fun t ht => RangesKept.trans ?_ (walks _ t ht)
    split
    · exact ranged_choose s
    · exact .refl s
    · exact .refl s

theorem ranged_execCardKeyDerivationEnd (s : State) : Gives RangesKept s (execCardKeyDerivationEnd s) := by
  unfold execCardKeyDerivationEnd
  split
  · split
    · exact .next .of_parts
    · exact .fault s _
    all_goals exact rangesKept_steady.same s
  · exact rangesKept_steady.same s
  · exact rangesKept_steady.same s

theorem ranged_execCardCheckValueEnd (s : State) : Gives RangesKept s (execCardCheckValueEnd s) := by
  unfold execCardCheckValueEnd
  split
  · split
    · exact .next .of_parts
    · exact .fault s _
    all_goals exact rangesKept_steady.same s
  · exact rangesKept_steady.same s
  · exact rangesKept_steady.same s

theorem ranged_execKeystreamBlockEnd (s : State) : Gives RangesKept s (execKeystreamBlockEnd s) := by
  unfold execKeystreamBlockEnd
  split
  · split
    · split
      · exact rangesKept_steady.same s
      · exact .next ((ranged_completeEntry s _ _ _).trans (ranged_walkOn _ _))
    · exact .fault s _
    all_goals exact rangesKept_steady.same s
  · exact rangesKept_steady.same s
  · exact rangesKept_steady.same s

/-! ### Links -/

theorem ranged_immediate (s : State) (k : Link) (kind : Byte) : RangesKept s (s.immediate k kind) := by
  have clears (k : Link) : RangesKept s (s.clearLink k) := ranged_setLink LinkState.InRange.clear
  unfold State.immediate
  split
  · exact clears _
  · split
    · exact ranged_runStop s _
    · exact clears _

theorem ranged_receive (s : State) (k : Link) (bytes : List Byte) : RangesKept s (s.receive k bytes) := by
  unfold State.receive
  split
  · split
    · split
      · split
        · exact ranged_immediate s k _
        · exact ranged_frameError s k
      · exact ranged_setLink fun h => h.receive _
    · exact ranged_frameError s k
  · exact ranged_frameError s k

theorem ranged_execRequestTransfer (k : Link) (x : Shifted) (s : State) :
    Gives RangesKept s (execRequestTransfer k x s) := by
  have shifts : RangesKept s (s.shiftOut k (List.replicate x.bytes.length 0)) := ranged_setLink id
  refine rangesKept_steady.guarded (.next (shifts.trans ?_))
  unfold State.receiveTransfer
  split
  · exact ranged_receive _ k _
  · exact ranged_frameError _ k

theorem ranged_execCollectBegin (k : Link) (s : State) : Gives RangesKept s (execCollectBegin k s) :=
  rangesKept_steady.guarded (.next (ranged_setLink id))

theorem ranged_execCollectEnd (k : Link) (clocked cut : Nat) (s : State) :
    Gives RangesKept s (execCollectEnd k clocked cut s) := by
  unfold execCollectEnd
  split
  · exact rangesKept_steady.same s
  · dsimp only
    split
    · exact .next (ranged_setLink id)
    · refine .next (RangesKept.trans ?_ (ranged_handOn _ k _))
      exact ranged_setLink id

theorem ranged_execUnknownRequest (k : Link) (s : State) : Gives RangesKept s (execUnknownRequest k s) := by
  have steady := rangesKept_steady
  cases k with
  | custody =>
    unfold execUnknownRequest
    dsimp only
    split
    · exact steady.same s
    · split
      · exact steady.same s
      · exact steady.takeCustody fun _ u _ => steady.refuse u _ _
  | lane l =>
    unfold execUnknownRequest
    exact steady.takeLane (ranged_serveLane s l)

theorem ranged_execLinkClear (s : State) : Gives RangesKept s (execLinkClear s) :=
  rangesKept_steady.guarded (.next (ranged_setLink LinkState.InRange.clear))

theorem ranged_execLaneClear (l : LaneId) (s : State) : Gives RangesKept s (execLaneClear l s) :=
  rangesKept_steady.guarded (.next (ranged_setLink LinkState.InRange.clear))

theorem ranged_execDeviceStatus (s : State) : Gives RangesKept s (execDeviceStatus s) :=
  rangesKept_steady.takeCustody fun _ u _ => rangesKept_steady.readCustody fun _ => .next (ranged_reply u _ _)

/-! ### The Tamper Monitor and the erase -/

theorem ranged_execTamperSetup (raw : BitVec 6) (s : State) : Gives RangesKept s (execTamperSetup raw s) := by
  have steady := rangesKept_steady
  refine steady.takeCustody fun _ u _ => steady.readCustody fun _ => steady.gated ?_
  split
  · exact steady.refuse u _ _
  · exact .next (RangesKept.trans (ranged_tamper fun h => h.setUp _ raw) (ranged_reply _ _ _))

theorem ranged_execTamperAck (s : State) : Gives RangesKept s (execTamperAck s) := by
  have steady := rangesKept_steady
  refine steady.takeCustody fun _ u _ => steady.readCustody fun _ => steady.gated ?_
  have acknowledges : RangesKept u { u with tamper := u.tamper.acknowledge } := ranged_tamper fun h => h.acknowledge
  split
  · refine steady.refuseOr ?_
    exact .next ((acknowledges.trans .of_parts).trans (ranged_reply _ _ _))
  · exact .next (acknowledges.trans (ranged_reply _ _ _))

theorem ranged_execTamperInputEdge (i : InputId) (samples : List Level) (s : State) :
    Gives RangesKept s (execTamperInputEdge i samples s) :=
  rangesKept_steady.guarded (.next (rangesKept_steady.foldl (fun u v => ranged_sampleInput u i v) s samples))

theorem ranged_execEraseComplete (s : State) : Gives RangesKept s (execEraseComplete s) := by
  refine rangesKept_steady.guarded (.next
    ⟨fun k => ?_, fun h => h.setPending false, id, fun _ => Nat.zero_le _, fun h => h.carry (fun i => ?_) ?_⟩)
  · cases k <;> exact id
  · exact .inr (by rw [ofFn_get]; rfl)
  · exact fun _ _ _ _ _ e h => ⟨e, h⟩

/-- The supply and the supply monitor's state change together (R136). -/
theorem ranged_supply {s : State} {armed timer : Bool} (mv : Nat)
    (running : (s.tamper.timer = true → s.tamper.armed = true) → timer = true → armed = true) :
    RangesKept s { s with vmain := mv, tamper := { s.tamper with armed := armed, timer := timer } } :=
  RangesKept.trans (ranged_tamper fun h => h.setSupply (running h.timer)) .of_parts

theorem ranged_execSupplyAboveThreshold (mv : Nat) (s : State) : Gives RangesKept s (execSupplyAboveThreshold mv s) := by
  refine rangesKept_steady.guarded ?_
  split
  · exact .next (ranged_supply mv nofun)
  · exact .next .of_parts

theorem ranged_execSupplyBelowThreshold (mv : Nat) (s : State) : Gives RangesKept s (execSupplyBelowThreshold mv s) := by
  refine rangesKept_steady.guarded ?_
  split
  · refine .next (ranged_supply mv fun h running => ?_)
    obtain timer | armed := Bool.or_eq_true_iff.1 running
    · exact h timer
    · exact armed
  · exact .next .of_parts

theorem ranged_execSupplyTimerExpiry (s : State) : Gives RangesKept s (execSupplyTimerExpiry s) := by
  refine rangesKept_steady.guarded (.next (RangesKept.trans ?_ (ranged_tamperEvent _ _ _)))
  exact ranged_tamper fun h => h.setSupply nofun

/-! ### Stopping and starting -/

theorem ranged_execMainSupplyLoss (mv : Nat) (cut : SweepCut) (s : State) :
    Gives RangesKept s (execMainSupplyLoss mv cut s) := by
  have falls (u : State) : RangesKept u { u with vmain := mv } := .of_parts
  exact rangesKept_steady.guarded (.next (((ranged_stopIfRunning s cut).trans (falls _)).trans (ranged_keepDomain _)))

theorem ranged_execResetAssert (cut : SweepCut) (s : State) : Gives RangesKept s (execResetAssert cut s) :=
  rangesKept_steady.guarded (.next ((ranged_stopIfRunning s cut).trans .of_parts))

theorem ranged_execMainSupplyRise (mv : Nat) (s : State) : Gives RangesKept s (execMainSupplyRise mv s) := by
  have rises : RangesKept s { s with vmain := mv } := .of_parts
  refine rangesKept_steady.guarded (.next ?_)
  split
  · exact rises
  · exact rises.trans (ranged_enterStarting _)

theorem ranged_execResetRelease (s : State) : Gives RangesKept s (execResetRelease s) := by
  have releases : RangesKept s { s with resetHeld := false } := .of_parts
  refine rangesKept_steady.guarded (.next ?_)
  split
  · exact releases.trans (ranged_enterStarting _)
  · exact releases

theorem ranged_execValidityCheck (raw : BitVec 6) (s : State) : Gives RangesKept s (execValidityCheck raw s) := by
  refine rangesKept_steady.guarded ?_
  split
  · exact .next (RangesKept.trans (ranged_tamper fun _ => Tamper.inRange_default (levelOf raw)) .of_parts)
  · split
    · exact .next (ranged_eraseBegin s)
    · exact .next .of_parts

theorem ranged_execBatteryLossClearingEnd (s : State) : Gives RangesKept s (execBatteryLossClearingEnd s) := by
  refine rangesKept_steady.guarded ?_
  split
  · exact .next ((ranged_clearDomain s).trans (ranged_eraseBegin _))
  · exact .next ((ranged_clearDomain s).trans .of_parts)

theorem ranged_execSweepEnd (s : State) : Gives RangesKept s (execSweepEnd s) :=
  rangesKept_steady.guarded (.next ((ranged_sweepFirst s 6).trans (ranged_afterSweep _)))

theorem ranged_execBackupBatteryFailure (b : Bool) (s : State) : Gives RangesKept s (execBackupBatteryFailure b s) := by
  have fits (u : State) (b : Bool) : RangesKept u { u with battery := b } := .of_parts
  exact .next (((fits s false).trans (ranged_keepDomain _)).trans (fits _ b))

/-- A fault of the battery-backed memory does not reach the assembly parts (R13, R20). -/
theorem ranged_execBatteryBackedMemoryFault (i : SlotId) (b : SlotBody) (n : Nat) (w : BitVec 32) (s : State) :
    Gives RangesKept s (execBatteryBackedMemoryFault i b n w s) := by
  refine rangesKept_steady.guarded (.next (.of_parts (parts := fun j => .inl ?_)))
  by_cases e : i = j
  · subst e; simp
  · simp [show i.val ≠ j.val from fun c => e (Fin.ext c)]

/-! ### Every step -/

theorem ranged_exec (c : Instr) (s : State) : Gives RangesKept s (exec c s) := by
  cases c with
  | requestTransfer k x => exact ranged_execRequestTransfer k x s
  | collectBegin k => exact ranged_execCollectBegin k s
  | collectEnd k clocked cut => exact ranged_execCollectEnd k clocked cut s
  | unknownRequest k => exact ranged_execUnknownRequest k s
  | slotStatus => exact ranged_execSlotStatus s
  | slotErase => exact ranged_execSlotErase s
  | assemble => exact ranged_execAssemble s
  | component => exact ranged_execComponent s
  | componentCheckEnd => exact ranged_execComponentCheckEnd s
  | finalCheckEnd => exact ranged_execFinalCheckEnd s
  | assemblyCancel => exact ranged_execAssemblyCancel s
  | custodySwitchChange samples => exact ranged_execCustodySwitchChange samples s
  | initialise => exact ranged_execInitialise s
  | initialisePatternEnd => exact ranged_execInitialisePatternEnd s
  | storageRoll => exact ranged_execStorageRoll s
  | storageRollPatternEnd => exact ranged_execStorageRollPatternEnd s
  | tokenExport => exact ranged_execTokenExport s
  | tokenExportOperationEnd => exact ranged_execTokenExportOperationEnd s
  | tokenImport => exact ranged_execTokenImport s
  | tokenImportOperationEnd => exact ranged_execTokenImportOperationEnd s
  | warrantOpen => exact ranged_execWarrantOpen s
  | warrantHold => exact ranged_execWarrantHold s
  | warrantRelease => exact ranged_execWarrantRelease s
  | warrantExtend => exact ranged_execWarrantExtend s
  | warrantClose => exact ranged_execWarrantClose s
  | warrantPurge => exact ranged_execWarrantPurge s
  | warrantStatus k => exact ranged_execWarrantStatus k s
  | warrantList => exact ranged_execWarrantList s
  | laneBind => exact ranged_execLaneBind s
  | laneUnbind => exact ranged_execLaneUnbind s
  | setQuantum => exact ranged_execSetQuantum s
  | tamperSetup raw => exact ranged_execTamperSetup raw s
  | tamperAck => exact ranged_execTamperAck s
  | deviceStatus => exact ranged_execDeviceStatus s
  | linkClear => exact ranged_execLinkClear s
  | run l => exact ranged_execRun l s
  | laneStatus l => exact ranged_execLaneStatus l s
  | runStop stop => exact ranged_execRunStop stop s
  | laneClear l => exact ranged_execLaneClear l s
  | grant => exact ranged_execGrant s
  | cardKeyDerivationEnd => exact ranged_execCardKeyDerivationEnd s
  | cardCheckValueEnd => exact ranged_execCardCheckValueEnd s
  | keystreamBlockEnd => exact ranged_execKeystreamBlockEnd s
  | tamperInputEdge i samples => exact ranged_execTamperInputEdge i samples s
  | eraseComplete => exact ranged_execEraseComplete s
  | supplyAboveThreshold mv => exact ranged_execSupplyAboveThreshold mv s
  | supplyBelowThreshold mv => exact ranged_execSupplyBelowThreshold mv s
  | supplyTimerExpiry => exact ranged_execSupplyTimerExpiry s
  | mainSupplyLoss mv cut => exact ranged_execMainSupplyLoss mv cut s
  | resetAssert cut => exact ranged_execResetAssert cut s
  | mainSupplyRise mv => exact ranged_execMainSupplyRise mv s
  | resetRelease => exact ranged_execResetRelease s
  | validityCheck raw => exact ranged_execValidityCheck raw s
  | batteryLossClearingEnd => exact ranged_execBatteryLossClearingEnd s
  | sweepEnd => exact ranged_execSweepEnd s
  | backupBatteryFailure b => exact ranged_execBackupBatteryFailure b s
  | batteryBackedMemoryFault i b n w => exact ranged_execBatteryBackedMemoryFault i b n w s

/-- So does every step: that of a command, and the passes' next write with none waiting. -/
theorem ranged_step {s t : State} (h : step s = .next t) : RangesKept s t := by
  cases hp : s.pending with
  | nil =>
    rw [step_of_nil hp] at h
    obtain rfl := Host.Outcome.next.inj h
    by_cases hm : s.mode = .erasing
    · rw [State.tick_erasing hm]; exact ranged_overwriteNext s
    · rw [State.tick_idle hm]; exact .refl s
  | cons c cs =>
    simp only [step, hp] at h
    have takes : RangesKept s (s.withPending cs) := .of_parts
    exact takes.trans (ranged_exec c _ t h)

/-- Settles O51: every step keeps each part of both laws in range. -/
theorem countersAndAssembliesStayInRange : Obligations.CountersAndAssembliesStayInRange :=
  ⟨fun _ _ h e => (ranged_step e).counterLaw h, fun _ _ h e => (ranged_step e).assemblies h⟩

end Sys2Proof.Machine
end

section
/-! PROOFS. Tokens, RUN bodies, blocks and check values as bytes (R44, R47, R106, R172): FormsAreReadAsWritten. -/

namespace Sys2Proof.Machine

/-! ### Numbers as bytes -/

/-- The low bytes of a number are those of its remainder. -/
theorem be_mod (n x : Nat) : be n (x % 256 ^ n) = be n x := by
  induction n generalizing x with
  | zero => rfl
  | succ n ih =>
    have high : BitVec.ofNat 8 (x % 256 ^ (n + 1) / 256 ^ n) = BitVec.ofNat 8 (x / 256 ^ n) := by
      rw [pow_succ, Nat.mod_mul_right_div_self]
      exact BitVec.eq_of_toNat_eq (by simp)
    have low : be n (x % 256 ^ (n + 1)) = be n x := by
      rw [← ih (x % 256 ^ (n + 1)), Nat.mod_mod_of_dvd x (pow_dvd_pow 256 n.le_succ), ih]
    rw [be, be, high, low]

theorem ofBe_cons (b : Byte) (bytes : List Byte) : ofBe (b :: bytes) = b.toNat * 256 ^ bytes.length + ofBe bytes := by
  have shift (acc : Nat) : bytes.foldl (fun acc b => acc * 256 + b.toNat) acc = acc * 256 ^ bytes.length + ofBe bytes := by
    induction bytes generalizing acc with
    | nil => simp [ofBe]
    | cons c bytes ih =>
      rw [ofBe, List.foldl_cons, List.foldl_cons, ih, ih (0 * 256 + c.toNat), List.length_cons]
      ring
  simpa [ofBe] using shift b.toNat

theorem ofBe_lt (bytes : List Byte) : ofBe bytes < 256 ^ bytes.length := by
  induction bytes with
  | nil => simp [ofBe]
  | cons b bytes ih =>
    have byte : b.toNat + 1 ≤ 256 := b.isLt
    calc ofBe (b :: bytes) = b.toNat * 256 ^ bytes.length + ofBe bytes := ofBe_cons b bytes
      _ < (b.toNat + 1) * 256 ^ bytes.length := by rw [Nat.succ_mul]; omega
      _ ≤ 256 ^ (bytes.length + 1) := by rw [pow_succ, Nat.mul_comm]; exact Nat.mul_le_mul_left _ byte

/-- The bytes of the number that bytes spell are those bytes. -/
theorem be_ofBe (bytes : List Byte) : be bytes.length (ofBe bytes) = bytes := by
  induction bytes with
  | nil => rfl
  | cons b bytes ih =>
    have small := ofBe_lt bytes
    have high : ofBe (b :: bytes) / 256 ^ bytes.length = b.toNat := by
      rw [ofBe_cons, Nat.mul_comm, Nat.mul_add_div (by positivity), Nat.div_eq_of_lt small, Nat.add_zero]
    have low : be bytes.length (ofBe (b :: bytes)) = bytes := by
      rw [← be_mod, ofBe_cons, Nat.mul_comm, Nat.mul_add_mod, be_mod, ih]
    rw [List.length_cons, be, high, low, BitVec.ofNat_toNat, BitVec.setWidth_eq]

/-- A word read from `n` bytes is written as those bytes (R171). -/
theorem be_ofNat_ofBe {n : Nat} {bytes : List Byte} (length : bytes.length = n) :
    be n (BitVec.ofNat (8 * n) (ofBe bytes)).toNat = bytes := by
  rw [BitVec.toNat_ofNat, Nat.pow_mul 2 8 n, be_mod, ← length, be_ofBe]

theorem blockBytes_readBlock {bytes : List Byte} (length : bytes.length = 16) : blockBytes (readBlock bytes) = bytes :=
  be_ofNat_ofBe length

theorem checkBytes_readCheck {bytes : List Byte} (length : bytes.length = 3) : checkBytes (readCheck bytes) = bytes :=
  be_ofNat_ofBe length

theorem patternBytes_ofNat {bytes : List Byte} (length : bytes.length = 8) :
    patternBytes (BitVec.ofNat 64 (ofBe bytes)) = bytes := be_ofNat_ofBe length

theorem readBlock_blockBytes (b : Block) : readBlock (blockBytes b) = b := ofNat_ofBe_be 16 b

@[simp] theorem length_blockBytes (b : Block) : (blockBytes b).length = 16 := length_be 16 _

@[simp] theorem length_checkBytes (c : CheckValue) : (checkBytes c).length = 3 := length_be 3 _

@[simp] theorem length_patternBytes (p : Pattern) : (patternBytes p).length = 8 := length_be 8 _

theorem ofBe_be_two {n : Nat} (h : n ≤ 65535) : ofBe (be 2 n) = n := by rw [ofBe_be]; exact Nat.mod_eq_of_lt (by omega)

theorem exists_append_of_le {α : Type} {n : Nat} {xs : List α} (h : n ≤ xs.length) :
    ∃ ys zs, xs = ys ++ zs ∧ ys.length = n ∧ zs.length = xs.length - n :=
  ⟨xs.take n, xs.drop n, (xs.take_append_drop n).symm, by simp [h], by simp⟩

/-! ### Tokens (R44, R47) -/

/-- The first six bytes of a token (R172). -/
def Attributes.tokenBytes (a : Attributes) : List Byte :=
  [0x01, a.kind.byte, a.kind.purposeByte, a.kind.issuerByte, a.version, a.length.byte]

/-- Six bytes begin a token exactly where they are those of attributes in range (R47). -/
theorem readTokenAttrs_eq_some {bytes rest : List Byte} {a : Attributes} (length : bytes.length = 6) :
    readTokenAttrs (bytes ++ rest) = some a ↔ a.kind.Valid ∧ bytes = a.tokenBytes := by
  match bytes, length with
  | [f, k, p, i, v, l], _ =>
    simp only [readTokenAttrs, Attributes.tokenBytes, List.cons_append, List.cons.injEq, and_true]
    by_cases format : f = 1
    · subst f
      rw [if_pos rfl]
      constructor
      · intro h
        split at h
        · rename_i kind len hk hl
          obtain rfl := Option.some.inj h
          obtain ⟨valid, hb, hp, hi⟩ := readKind_eq_some.1 hk
          exact ⟨valid, rfl, hb.symm, hp.symm, hi.symm, rfl, (readLength_eq_some.1 hl).symm⟩
        · cases h
      · rintro ⟨valid, -, hb, hp, hi, rfl, hl⟩
        rw [readKind_eq_some.2 ⟨valid, hb.symm, hp.symm, hi.symm⟩, readLength_eq_some.2 hl.symm]
    · rw [if_neg format]
      exact iff_of_false nofun fun h => format h.2.1

/-- The bytes of a token's second block: none for a 16-byte key (R44). -/
def KeyLength.secondSize : KeyLength → Nat
  | .len16 => 0
  | .len32 => 16

theorem tokenSize_eq (l : KeyLength) : tokenSize l = 36 + l.secondSize := by cases l <;> rfl

/-- What a token is read as, part by part, at the offsets of R172. -/
theorem readToken_parts {bytes six gen pat w1 w2 c : List Byte} {z : Byte} (h6 : six.length = 6) (hg : gen.length = 2)
    (hp : pat.length = 8) (h1 : w1.length = 16) (hc : c.length = 3)
    (parts : bytes = six ++ (gen ++ (pat ++ (w1 ++ (w2 ++ (c ++ [z])))))) :
    readToken bytes = match readTokenAttrs six with
      | none => none
      | some a =>
        if w2.length = a.length.secondSize ∧ ofBe gen ≠ 0 ∧ z = 0 then
          some
            { header := readBlock (six ++ gen ++ pat), attrs := a, generation := ofBe gen
              pattern := BitVec.ofNat 64 (ofBe pat), w1 := readBlock w1
              w2 := match a.length with
                | .len16 => none
                | .len32 => some (readBlock w2)
              check := readCheck c }
        else none := by
  have attrs : readTokenAttrs bytes = readTokenAttrs six := by
    subst parts
    match six, h6 with
    | [_, _, _, _, _, _], _ => rfl
  unfold readToken
  rw [attrs]
  cases readTokenAttrs six with
  | none => rfl
  | some a =>
    have size : bytes.length = 36 + w2.length := by simp [parts]; omega
    have last : bytes.getLast? = some z := by simp [parts]
    have head : bytes.take 16 = six ++ gen ++ pat := by simp [parts, List.take_append, h6, hg, hp, List.take_of_length_le]
    have reads : (bytes.drop 6).take 2 = gen ∧ (bytes.drop 8).take 8 = pat ∧ (bytes.drop 16).take 16 = w1 ∧
        bytes.drop 32 = w2 ++ (c ++ [z]) := by
      simp [parts, List.drop_append, List.drop_of_length_le, h6, hg, hp, h1]
    obtain ⟨generation, pattern, first, second⟩ := reads
    have check : (bytes.drop (36 + w2.length - 4)).take 3 = c := by
      have offset : 36 + w2.length - 4 = 32 + w2.length := by omega
      rw [offset, ← List.drop_drop, second, List.drop_left, List.take_left' hc]
    dsimp only
    rw [size, last, check, head, generation, pattern, first, second, tokenSize_eq]
    refine if_ctx_congr (by simp) (fun fits => ?_) fun _ => rfl
    cases hl : a.length with
    | len16 => rfl
    | len32 =>
      have h2 : w2.length = 16 := by rw [fits.1, hl]; rfl
      rw [List.take_left' h2]

/-- The header's bytes, of which the first six carry the attributes (R172). -/
theorem blockBytes_tokenHeader (a : Attributes) (generation : Nat) (pattern : Pattern) :
    blockBytes (tokenHeader a generation pattern) = a.tokenBytes ++ (be 2 generation ++ patternBytes pattern) := by
  rw [tokenHeader, blockBytes_readBlock (by simp [length_be])]
  rfl

theorem secondSize_of_second {w2 : Option Block} {l : KeyLength} (h : w2.isSome = true ↔ l = .len32) :
    (w2.elim [] blockBytes).length = l.secondSize := by
  cases w2 <;> cases l <;> simp_all [KeyLength.secondSize]

theorem tokenBytes_parts (a : Attributes) (generation : Nat) (pattern : Pattern) (w1 : Block) (w2 : Option Block)
    (check : CheckValue) : tokenBytes (tokenHeader a generation pattern) w1 w2 check =
      a.tokenBytes ++ (be 2 generation ++ (patternBytes pattern ++ (blockBytes w1 ++ (w2.elim [] blockBytes ++
        (checkBytes check ++ [0]))))) := by
  cases w2 <;> simp [tokenBytes, blockBytes_tokenHeader]

/-- A token's bytes are read back as the token (R44, R47). -/
theorem readToken_tokenBytes {a : Attributes} {generation : Nat} {w2 : Option Block} (valid : a.kind.Valid)
    (low : 1 ≤ generation) (high : generation ≤ 65535) (second : w2.isSome = true ↔ a.length = .len32) (pattern : Pattern)
    (w1 : Block) (check : CheckValue) : readToken (tokenBytes (tokenHeader a generation pattern) w1 w2 check) =
      some
        { header := tokenHeader a generation pattern, attrs := a, generation := generation, pattern := pattern
          w1 := w1, w2 := w2, check := check } := by
  have six : a.tokenBytes.length = 6 := rfl
  have reads : readTokenAttrs a.tokenBytes = some a := by
    simpa using (readTokenAttrs_eq_some (rest := []) six).2 ⟨valid, rfl⟩
  have word : ofBe (be 2 generation) = generation := ofBe_be_two high
  have pat : BitVec.ofNat 64 (ofBe (patternBytes pattern)) = pattern := ofNat_ofBe_be 8 pattern
  have header : readBlock (a.tokenBytes ++ be 2 generation ++ patternBytes pattern) = tokenHeader a generation pattern := rfl
  have w2_eq : (match a.length with
      | .len16 => none
      | .len32 => some (readBlock (w2.elim [] blockBytes))) = w2 := by
    cases hl : a.length <;> cases w2 <;> simp_all [readBlock_blockBytes]
  rw [readToken_parts six (length_be 2 _) (length_patternBytes _) (length_blockBytes _) (length_checkBytes _)
    (tokenBytes_parts a generation pattern w1 w2 check), reads]
  dsimp only
  rw [if_pos ⟨secondSize_of_second second, by rw [word]; omega, rfl⟩, header, word, pat, readBlock_blockBytes,
    readCheck_checkBytes, w2_eq]

/-- A list of at least a token's bytes falls into its parts. -/
theorem exists_tokenParts {bytes : List Byte} (h : 36 ≤ bytes.length) :
    ∃ six gen pat w1 w2 c : List Byte, ∃ z : Byte, six.length = 6 ∧ gen.length = 2 ∧ pat.length = 8 ∧ w1.length = 16 ∧
      c.length = 3 ∧ bytes = six ++ (gen ++ (pat ++ (w1 ++ (w2 ++ (c ++ [z]))))) := by
  obtain ⟨six, r, rfl, h6, hr⟩ := exists_append_of_le (n := 6) (xs := bytes) (by omega)
  obtain ⟨gen, r, rfl, hg, hr⟩ := exists_append_of_le (n := 2) (xs := r) (by omega)
  obtain ⟨pat, r, rfl, hp, hr⟩ := exists_append_of_le (n := 8) (xs := r) (by omega)
  obtain ⟨w1, r, rfl, h1, hr⟩ := exists_append_of_le (n := 16) (xs := r) (by omega)
  obtain ⟨w2, r, rfl, h2, hr⟩ := exists_append_of_le (n := r.length - 4) (xs := r) (by omega)
  obtain ⟨c, r, rfl, hc, hr⟩ := exists_append_of_le (n := 3) (xs := r) (by omega)
  obtain ⟨z, rfl⟩ : ∃ z, r = [z] := List.length_eq_one_iff.1 (by omega)
  exact ⟨six, gen, pat, w1, w2, c, z, h6, hg, hp, h1, hc, rfl⟩

/-- What is read as a token meets R47 and is written as those bytes. -/
theorem tokenBytes_of_readToken {bytes : List Byte} {t : Token} (h : readToken bytes = some t) :
    bytes = tokenBytes t.header t.w1 t.w2 t.check ∧ t.header = tokenHeader t.attrs t.generation t.pattern ∧
      t.attrs.kind.Valid ∧ 1 ≤ t.generation ∧ t.generation ≤ 65535 ∧ (t.w2.isSome = true ↔ t.attrs.length = .len32) := by
  have long : 36 ≤ bytes.length := by
    unfold readToken at h
    split at h
    · cases h
    · dsimp only at h
      split at h
      · rename_i fits; rw [fits.1, tokenSize_eq]; omega
      · cases h
  obtain ⟨six, gen, pat, w1, w2, c, z, h6, hg, hp, h1, hc, parts⟩ := exists_tokenParts long
  rw [readToken_parts h6 hg hp h1 hc parts] at h
  cases ha : readTokenAttrs six with
  | none => rw [ha] at h; cases h
  | some a =>
    rw [ha] at h
    obtain ⟨valid, rfl⟩ := (readTokenAttrs_eq_some (rest := []) h6).1 (by simpa using ha)
    dsimp only at h
    split at h
    · rename_i fits
      obtain ⟨h2, positive, rfl⟩ := fits
      obtain rfl := Option.some.inj h
      have small : ofBe gen < 65536 := by simpa [hg] using ofBe_lt gen
      have word : be 2 (ofBe gen) = gen := by rw [← hg, be_ofBe]
      have header : readBlock (a.tokenBytes ++ gen ++ pat) = tokenHeader a (ofBe gen) (BitVec.ofNat 64 (ofBe pat)) := by
        rw [tokenHeader, word, patternBytes_ofNat hp]; rfl
      refine ⟨?_, header, valid, Nat.pos_of_ne_zero positive, Nat.le_of_lt_succ small, ?_⟩
      · dsimp only
        have second : (match a.length with
            | .len16 => none
            | .len32 => some (readBlock w2)).elim [] blockBytes = w2 := by
          cases hl : a.length with
          | len16 => rw [hl] at h2; exact (List.length_eq_zero_iff.1 h2).symm
          | len32 => rw [hl] at h2; exact blockBytes_readBlock h2
        rw [header, tokenBytes_parts, word, patternBytes_ofNat hp, blockBytes_readBlock h1, checkBytes_readCheck hc, second,
          parts]
      · dsimp only
        cases a.length <;> simp
    · cases h

/-! ### RUN bodies (R106) -/

/-- An entry at the head is read back (R172). -/
theorem readEntries_entry {e : Entry} (short : e.digits.length ≤ 19) (k : Nat) (rest : List Byte) :
    readEntries (k + 1) (e.bytes ++ rest) = (readEntries k rest).map (e :: ·) := by
  have count : (u8 e.digits.length).toNat = e.digits.length := by simp [u8]; omega
  have bytes : e.bytes ++ rest = u8 e.digits.length :: (e.digits ++ (be 2 e.sequence.toNat ++ rest)) := by simp [Entry.bytes]
  have word : BitVec.ofNat 16 (ofBe (be 2 e.sequence.toNat)) = e.sequence := ofNat_ofBe_be 2 e.sequence
  have entry : (⟨e.digits, BitVec.ofNat 16 (ofBe (be 2 e.sequence.toNat))⟩ : Entry) = e := by rw [word]
  rw [bytes]
  simp only [readEntries, count, if_pos short, List.drop_left, List.take_left]
  change (match readEntries k rest with
    | some es => some ((⟨e.digits, BitVec.ofNat 16 (ofBe (be 2 e.sequence.toNat))⟩ : Entry) :: es)
    | none => none) = _
  rw [entry]
  cases readEntries k rest <;> rfl

/-- What is read as an entry and more is an entry's bytes and what the rest is read as. -/
theorem entry_of_readEntries {k : Nat} {bytes : List Byte} {es : List Entry} (h : readEntries (k + 1) bytes = some es) :
    ∃ e es' rest, es = e :: es' ∧ bytes = e.bytes ++ rest ∧ e.digits.length ≤ 19 ∧ readEntries k rest = some es' := by
  cases bytes with
  | nil => cases h
  | cons n bytes =>
    unfold readEntries at h
    split at h
    · rename_i short
      split at h
      · rename_i s1 s0 rest hd
        split at h
        · rename_i es' hes
          obtain rfl := Option.some.inj h
          have long : n.toNat ≤ bytes.length := by
            have := congrArg List.length hd
            simp at this; omega
          have count : (bytes.take n.toNat).length = n.toNat := by simp [long]
          have seq : be 2 (BitVec.ofNat 16 (ofBe [s1, s0])).toNat = [s1, s0] := be_ofNat_ofBe rfl
          refine ⟨_, es', rest, rfl, ?_, by rw [count]; exact short, hes⟩
          rw [Entry.bytes, count, seq]
          have whole : bytes = bytes.take n.toNat ++ s1 :: s0 :: rest := by rw [← hd, List.take_append_drop]
          simp only [u8, BitVec.ofNat_toNat, BitVec.setWidth_eq, List.cons_append, List.append_assoc, List.nil_append, ← whole]
        · cases h
      · cases h
    · cases h

/-- Bytes are read as `k` entries exactly where they are those of `k` entries of at most 19 digits (R106). -/
theorem readEntries_eq_some {k : Nat} {bytes : List Byte} {es : List Entry} : readEntries k bytes = some es ↔
    bytes = es.flatMap Entry.bytes ∧ es.length = k ∧ ∀ e ∈ es, e.digits.length ≤ 19 := by
  induction k generalizing bytes es with
  | zero =>
    constructor
    · intro h
      cases bytes with
      | nil => obtain rfl := Option.some.inj h; exact ⟨rfl, rfl, nofun⟩
      | cons b bytes => cases h
    · rintro ⟨rfl, none, -⟩
      rw [List.length_eq_zero_iff.1 none]
      rfl
  | succ k ih =>
    constructor
    · intro h
      obtain ⟨e, es, rest, rfl, rfl, short, hr⟩ := entry_of_readEntries h
      obtain ⟨rfl, rfl, all⟩ := ih.1 hr
      exact ⟨rfl, rfl, List.forall_mem_cons.2 ⟨short, all⟩⟩
    · rintro ⟨rfl, length, all⟩
      cases es with
      | nil => cases length
      | cons e es =>
        obtain ⟨short, all⟩ := List.forall_mem_cons.1 all
        rw [List.flatMap_cons, readEntries_entry short, ih.2 ⟨rfl, Nat.succ.inj length, all⟩]
        rfl

/-- A RUN body is read exactly where it is that of a form R106 admits. -/
theorem readRun_eq_some {body : List Byte} {f : RunForm} : readRun body = some f ↔
    body = f.bytes ∧ 1 ≤ f.entries.length ∧ f.entries.length ≤ 16 ∧ ∀ e ∈ f.entries, e.digits.length ≤ 19 := by
  constructor
  · intro h
    unfold readRun at h
    split at h
    · rename_i tag warrant k rest
      split at h
      · rename_i range
        split at h
        · rename_i es hes
          obtain rfl := Option.some.inj h
          obtain ⟨rfl, length, all⟩ := readEntries_eq_some.1 hes
          refine ⟨?_, by rw [length]; exact range.1, by rw [length]; exact range.2, all⟩
          simp [RunForm.bytes, length, u8]
        · cases h
      · cases h
    · cases h
  · rintro ⟨rfl, one, sixteen, all⟩
    have count : (u8 f.entries.length).toNat = f.entries.length := by simp [u8]; omega
    simp only [RunForm.bytes, List.cons_append, List.nil_append, readRun, count, if_pos (And.intro one sixteen),
      readEntries_eq_some.2 ⟨rfl, rfl, all⟩]

/-- Settles O58: tokens and RUN bodies are read as written, and nothing else is. -/
theorem formsAreReadAsWritten : Obligations.FormsAreReadAsWritten :=
  ⟨fun _ _ pattern w1 _ check valid low high second => readToken_tokenBytes valid low high second pattern w1 check,
    fun _ _ h => tokenBytes_of_readToken h,
    fun _ one sixteen digits => readRun_eq_some.2 ⟨rfl, one, sixteen, digits⟩,
    fun _ _ h => readRun_eq_some.1 h, readBlock_blockBytes, readCheck_checkBytes⟩

end Sys2Proof.Machine
end

section
/-! PROOFS. Storage keys and key tokens past the gate (R40 to R50): StorageKeysAreDrawnAndWritten, TokenExportWrapsTheKey,
TokenImportMatchesAndUnwraps, ImportRestoresTheExportedKey. -/

namespace Sys2Proof.Machine

/-! ### The gate of these commands (R14) -/

theorem State.gate_initialise {s : State} (mode : s.mode = .uninitialised) (position : s.custody.position = .custody) :
    s.gate .initialise = none := by
  simp [State.gate, GateRow.initialise, GateRow.entry, mode, position]

theorem State.gate_tokenExport {s : State} (mode : s.mode = .operational) : s.gate .tokenExport = none := by
  simp [State.gate, GateRow.tokenExport, GateRow.entry, mode]

/-- A command of custody that names no slot acts past the gate with its request taken off. -/
theorem CustodyTakes.pass {s : State} {kind : Byte} {row : GateRow} {act : State → Res}
    (takes : CustodyTakes s kind []) (gate : s.gate row = none) :
    (s.takeCustody kind fun body s => s.readCustody kind (readNothing body) fun _ s => s.gated kind row act) =
      act s.afterTaking := by
  rw [takes.take]
  simp only [State.readCustody, readNothing, State.gated, State.gate_afterTaking, gate]

/-- The command in process answers, in the terms of the statements (R122). -/
theorem State.endProcess_eq (s : State) (r : Reply) : s.endProcess r = s.afterGrant r := rfl

/-! ### INITIALISE and STORAGE_ROLL -/

theorem exec_initialise {s : State} (takes : CustodyTakes s kindInitialise []) (mode : s.mode = .uninitialised)
    (position : s.custody.position = .custody) :
    exec .initialise s =
      .next ({ s.afterTaking with draws := s.draws + 1 }.startProcess (.initialise (Config.drawnKey s.draws))) :=
  takes.pass (State.gate_initialise mode position)

theorem exec_storageRoll {s : State} {k : StorageKey} (takes : CustodyTakes s kindStorageRoll [])
    (mode : s.mode = .operational) (position : s.custody.position = .custody) (current : s.storage.current = some k) :
    exec .storageRoll s =
      if 65535 ≤ k.generation then .next (s.afterRefusal kindStorageRoll .generationLimit)
      else .next ({ s.afterTaking with draws := s.draws + 1 }.startProcess (.storageRoll (Config.drawnKey s.draws))) := by
  have gate : s.gate .keyChange = none := (s.gate_keyChange takes.service).2 ⟨mode, position⟩
  have stored : s.afterTaking.storage.current = some k := current
  refine (takes.pass gate).trans ?_
  simp only [stored]
  rfl

/-- Settles O17: each command draws its key past the gate, and the end of its operation writes the record. -/
theorem storageKeysAreDrawnAndWritten : Obligations.StorageKeysAreDrawnAndWritten := by
  refine ⟨⟨fun s takes mode position => ?_, fun s g op drawn engine now process => ?_⟩,
    fun s k takes mode position current => ⟨fun limit => ?_, fun below => ?_⟩,
    fun s g op drawn old engine now process current => ?_⟩
  · rw [exec_initialise takes mode position, State.startProcess_eq_afterJoin rfl]
    rfl
  · change execInitialisePatternEnd s = _
    simp only [execInitialisePatternEnd, engine, process, now, State.endProcess_eq]
    rfl
  · rw [exec_storageRoll takes mode position current, if_pos limit]
  · rw [exec_storageRoll takes mode position current, if_neg (Nat.not_le_of_lt below), State.startProcess_eq_afterJoin rfl]
    rfl
  · change execStorageRollPatternEnd s = _
    simp only [execStorageRollPatternEnd, engine, process, now, current, State.endProcess_eq]
    rfl

/-! ### TOKEN_EXPORT -/

/-- TOKEN_EXPORT past the gate acts on the slot that its body names. -/
theorem exec_tokenExport {s : State} {i : SlotId} (takes : CustodyTakes s kindTokenExport [u8 i.val])
    (mode : s.mode = .operational) :
    exec .tokenExport s = match s.slots[i].exportable, s.storage.current with
      | none, _ => .next (s.afterRefusal kindTokenExport .slotState)
      | some _, none => .fault .noStorageKey
      | some (a, check), some k =>
        .next (s.afterTaking.startProcess (.tokenExport i a (tokenHeader a k.generation k.pattern) check none)) := by
  change execTokenExport s = _
  rw [execTokenExport, takes.take]
  exact State.gatedSlot_u8 (s := s.afterTaking) (State.gate_tokenExport mode) i _

theorem Slot.exportable_of_inactive {sl : Slot} (h : sl.isActive = false) : sl.exportable = none := by
  unfold Slot.isActive at h
  unfold Slot.exportable
  cases hb : sl.body <;> simp_all

/-- The operation of a TOKEN_EXPORT that begins is on the first block of the key, or on the second with W1 formed (R45). -/
theorem State.custodyOp_tokenExport {s : State} {i : SlotId} {a' : Attributes} {c : Contents} {k : StorageKey}
    (body : s.slots[i].body = .active a' c) (current : s.storage.current = some k) (a : Attributes) (header : Block)
    (check : CheckValue) (w1 : Option Block) : s.custodyOp (.tokenExport i a header check w1) =
      some (.encipher (.k32 k.key) (match w1 with
        | none => c.key.firstBlock ^^^ header
        | some w => c.key.secondBlock ^^^ w)) := by
  have key : s.slots[i].activeKey = some c.key := by rw [Slot.activeKey, body]
  simp only [State.custodyOp, current, key]
  cases w1 <;> rfl

theorem exec_tokenExportOperationEnd {s : State} {g : CustodyGrant} {op : BlockOp} {i : SlotId} {a : Attributes}
    {header : Block} {check : CheckValue} {w1 : Option Block} (engine : s.engine = .custody g) (now : g.op = some op)
    (process : s.custody.process = some (.tokenExport i a header check w1)) :
    exec .tokenExportOperationEnd s = .next (match w1, a.length with
      | none, .len16 => s.afterGrant (exportReply i header op.result none check)
      | none, .len32 => s.nextOp g (.tokenExport i a header check (some op.result))
      | some w, _ => s.afterGrant (exportReply i header w (some op.result) check)) := by
  change execTokenExportOperationEnd s = _
  simp only [execTokenExportOperationEnd, engine, process, now]
  cases w1 <;> cases a.length <;> rfl

/-- Settles O18: the record found at taking gives the header, and each operation's end goes on or answers. -/
theorem tokenExportWrapsTheKey : Obligations.TokenExportWrapsTheKey := by
  refine ⟨fun s i takes mode => ⟨fun inactive => ?_, fun a c k body current => ?_⟩,
    fun s g op i a header check engine now => ⟨fun process short => ?_, fun k a' c process long current body => ?_,
      fun w1 process => ?_⟩⟩
  · rw [exec_tokenExport takes mode, Slot.exportable_of_inactive inactive]
  · have found : s.slots[i].exportable = some (a, c.check) := by rw [Slot.exportable, body]
    rw [exec_tokenExport takes mode, found, current]
    exact congrArg Host.Outcome.next (State.startProcess_eq_afterJoin (State.custodyOp_tokenExport (s := s.afterTaking) body current a _ _ _))
  · rw [exec_tokenExportOperationEnd engine now process, short]
    rfl
  · rw [exec_tokenExportOperationEnd engine now process, long]
    simp only [State.nextOp, State.custodyOp_tokenExport body current]
  · rw [exec_tokenExportOperationEnd engine now process]
    rfl

/-! ### TOKEN_IMPORT -/

/-- The storage key of the current generation or of the previous one. -/
def StorageUnit.keyOf (u : StorageUnit) (old : Bool) : Option StorageKey := if old then u.previous else u.current

theorem StorageUnit.matching_current {u : StorageUnit} {k : StorageKey} {p : Pattern} (current : u.current = some k)
    (matched : k.pattern = p) : u.matching p = some (false, k) := by
  unfold StorageUnit.matching
  cases u.previous <;> simp [current, matched]

theorem StorageUnit.matching_previous {u : StorageUnit} {k v : StorageKey} {p : Pattern} (current : u.current = some k)
    (other : k.pattern ≠ p) (previous : u.previous = some v) (matched : v.pattern = p) : u.matching p = some (true, v) := by
  simp [StorageUnit.matching, current, previous, other, matched]

theorem StorageUnit.matching_stale {u : StorageUnit} {k : StorageKey} {p : Pattern} (current : u.current = some k)
    (other : k.pattern ≠ p) (none : ∀ v, u.previous = some v → v.pattern ≠ p) : u.matching p = Option.none := by
  unfold StorageUnit.matching
  cases h : u.previous with
  | none => simp [current, other]
  | some v => simp [current, other, none v h]

/-- TOKEN_IMPORT past the gate acts on the slot that its body names. -/
theorem exec_tokenImport {s : State} {i : SlotId} {t : List Byte} (takes : CustodyTakes s kindTokenImport (u8 i.val :: t))
    (mode : s.mode = .operational) (position : s.custody.position = .custody) :
    exec .tokenImport s =
      if s.slots[i].body ≠ .empty then .next (s.afterRefusal kindTokenImport .slotState)
      else match readToken t with
        | none => .next (s.afterRefusal kindTokenImport .malformed)
        | some token => match s.storage.matching token.pattern with
          | none =>
            .next (s.afterReply (.refused kindTokenImport .staleToken
              (be 2 token.generation ++ be 2 (generationOf s.storage.current))))
          | some (old, k) => .next (s.afterTaking.startProcess (.tokenImport i token old k.generation none none)) :=
  takes.act (form := readImport) (slot := Prod.fst) (x := (u8 i.val, t)) mode position rfl rfl

/-- A matched token waits to be unwrapped under the key that matched (R45, R48). -/
theorem exec_tokenImport_matched {s : State} {i : SlotId} {t : List Byte} {token : Token} {old : Bool} {k : StorageKey}
    (takes : CustodyTakes s kindTokenImport (u8 i.val :: t)) (mode : s.mode = .operational)
    (position : s.custody.position = .custody) (empty : s.slots[i].body = .empty) (reads : readToken t = some token)
    (matched : s.storage.matching token.pattern = some (old, k)) (stored : s.storage.keyOf old = some k) :
    exec .tokenImport s =
      .next (s.afterTaking.afterJoin (.tokenImport i token old k.generation none none)
        (match token.attrs.length with | .len16 => 2 | .len32 => 3) (.decipher (.k32 k.key) token.w1)) := by
  have op : s.afterTaking.custodyOp (.tokenImport i token old k.generation none none) =
      some (.decipher (.k32 k.key) token.w1) := by
    change (s.storage.keyOf old).map _ = _
    rw [stored]; rfl
  rw [exec_tokenImport takes mode position, if_neg (not_not.2 empty), reads]
  simp only [matched]
  rw [State.startProcess_eq_afterJoin op]
  rfl

theorem exec_tokenImportOperationEnd {s : State} {g : CustodyGrant} {op : BlockOp} {i : SlotId} {token : Token} {old : Bool}
    {n : Nat} {k1 k2 : Option Block} (engine : s.engine = .custody g) (now : g.op = some op)
    (process : s.custody.process = some (.tokenImport i token old n k1 k2)) :
    exec .tokenImportOperationEnd s = .next (match k1, token.w2, k2 with
      | none, _, _ => s.nextOp g (.tokenImport i token old n (some (op.result ^^^ token.header)) none)
      | some a, some _, none => s.nextOp g (.tokenImport i token old n (some a) (some (op.result ^^^ token.w1)))
      | some a, some _, some b => s.endImport i token old n (.k32 (a ++ b)) (firstThree op.result)
      | some a, none, _ => s.endImport i token old n (.k16 a) (firstThree op.result)) := by
  change execTokenImportOperationEnd s = _
  simp only [execTokenImportOperationEnd, engine, process, now]
  cases k1 <;> cases token.w2 <;> cases k2 <;> rfl

/-- The outcome of a TOKEN_IMPORT in the terms of the statements (R50). -/
theorem State.endImport_eq (s : State) (i : SlotId) (token : Token) (old : Bool) (n : Nat) (key : KeyValue)
    (computed : CheckValue) : s.endImport i token old n key computed =
      if computed = token.check then
        (s.withSlot i (Slot.fresh i
            (.active token.attrs { key := key, check := token.check, origin := .imported, uses := 0 }))).afterGrant
          (if old then
            .ok kindTokenImport .oldGeneration
              ([u8 i.val, token.attrs.kind.byte] ++ checkBytes token.check ++ be 2 n
                ++ be 2 (match s.storage.current with | none => 0 | some k => k.generation))
          else .ok kindTokenImport .none ([u8 i.val, token.attrs.kind.byte] ++ checkBytes token.check))
      else s.afterGrant (.refused kindTokenImport .tokenCorrupt (be 2 n)) := by
  unfold State.endImport
  split
  · cases old <;> rfl
  · rfl

/-- Settles O19: the token is judged and matched at its taking, and each operation's end goes on or writes the outcome. -/
theorem tokenImportMatchesAndUnwraps : Obligations.TokenImportMatchesAndUnwraps := by
  constructor
  · intro s i t k takes mode position current isToken
    refine ⟨fun taken => ?_, fun empty none => ?_, fun empty a generation pattern w1 w2 check formed => ?_⟩
    · rw [exec_tokenImport takes mode position, if_pos taken]
    · have unread : readToken t = Option.none := by
        cases reads : readToken t with
        | none => rfl
        | some token =>
          obtain ⟨bytes, header, valid, low, high, second⟩ := tokenBytes_of_readToken reads
          exact absurd ⟨valid, low, high, second, header ▸ bytes⟩ (none _ _ _ _ _ _)
      rw [exec_tokenImport takes mode position, if_neg (not_not.2 empty), unread]
    · obtain ⟨valid, low, high, second, rfl⟩ := formed
      have reads := readToken_tokenBytes valid low high second pattern w1 check
      refine ⟨fun matched => ?_, fun v other previous matched => ?_, fun other stale => ?_⟩
      · exact exec_tokenImport_matched takes mode position empty reads (StorageUnit.matching_current current matched) current
      · exact exec_tokenImport_matched takes mode position empty reads
          (StorageUnit.matching_previous current other previous matched) previous
      · rw [exec_tokenImport takes mode position, if_neg (not_not.2 empty), reads]
        simp only [StorageUnit.matching_stale current other stale, current]
        rfl
  · intro s g op i token old n engine now goesOn ended
    have ends {k1 k2 : Option Block} (process : s.custody.process = some (.tokenImport i token old n k1 k2)) :=
      exec_tokenImportOperationEnd engine now process
    refine ⟨fun process short => ?_, fun w2 k process long stored => ?_, fun w2 a process long => ?_,
      fun a process short => ?_, fun w2 a b process long => ?_⟩
    · rw [ends process]
      simp only [State.nextOp, State.custodyOp, short]
      rfl
    · rw [ends process]
      simp only [State.nextOp, State.custodyOp, long, stored]
      rfl
    · rw [ends process]
      simp only [State.nextOp, State.custodyOp, long]
      rfl
    · rw [ends process]
      simp only [short, State.endImport_eq]
      rfl
    · rw [ends process]
      simp only [long, State.endImport_eq]
      rfl

/-! ### A key exported and imported again -/

theorem runCommands_cons {c : Instr} {s t : State} (h : exec c s = .next t) (cs : List Instr) :
    runCommands (c :: cs) s = runCommands cs t := by simp only [runCommands, h]

/-- This command is in process, and the engine performs this operation for it (R122). -/
structure State.Serves (s : State) (p : Process) (op : BlockOp) : Prop where
  process : s.custody.process = some p
  engine : ∃ g, s.engine = .custody g ∧ g.op = some op

theorem State.afterJoin_serves {s : State} (idle : s.engine = .idle) (p : Process) (n : Nat) (op : BlockOp) :
    (s.afterJoin p n op).Serves p op := by
  rw [State.afterJoin, idle]
  exact ⟨rfl, _, rfl, rfl⟩

theorem State.nextOp_serves {s : State} {p : Process} {op : BlockOp} (reads : s.custodyOp p = some op) (g : CustodyGrant) :
    (s.nextOp g p).Serves p op := ⟨rfl, _, rfl, reads⟩

theorem State.afterJoin_slots (s : State) (p : Process) (n : Nat) (op : BlockOp) :
    (s.afterJoin p n op).slots = s.slots := by
  unfold State.afterJoin
  split <;> rfl

theorem State.afterJoin_storage (s : State) (p : Process) (n : Nat) (op : BlockOp) :
    (s.afterJoin p n op).storage = s.storage := by
  unfold State.afterJoin
  split <;> rfl

theorem State.afterGrant_slots (s : State) (r : Reply) : (s.afterGrant r).slots = s.slots := by simp [State.afterGrant]

theorem State.afterGrant_buffer (s : State) (r : Reply) : (s.afterGrant r).custody.link.buffer = some r := by
  simp [State.afterGrant]

theorem State.withSlot_same (s : State) (i : SlotId) (x : Slot) : (s.withSlot i x).slots[i] = x := by simp [State.withSlot]

theorem KeyValue.eq_k16 {k : KeyValue} (h : k.length = .len16) : ∃ x, k = .k16 x := by
  cases k with
  | k16 x => exact ⟨x, rfl⟩
  | k32 x => cases h

theorem KeyValue.eq_k32 {k : KeyValue} (h : k.length = .len32) : ∃ x, k = .k32 x := by
  cases k with
  | k16 x => cases h
  | k32 x => exact ⟨x, rfl⟩

/-- A 32-byte key is its two blocks (R45). -/
theorem KeyValue.blocks_append (x : BitVec 256) : (KeyValue.k32 x).firstBlock ++ (KeyValue.k32 x).secondBlock = x := by
  apply BitVec.eq_of_getLsbD_eq
  intro i hi
  simp only [KeyValue.firstBlock, KeyValue.secondBlock, BitVec.getLsbD_append, BitVec.getLsbD_extractLsb']
  split
  · simp [*]
  · rename_i high
    simp [show i - 128 < 128 by omega, show 128 + (i - 128) = i by omega]

/-- W1 of a key with these attributes under a storage key (R45). -/
def exportedFirst (a : Attributes) (key : KeyValue) (k : StorageKey) : Block :=
  encipher (.k32 k.key) (key.firstBlock ^^^ tokenHeader a k.generation k.pattern)

/-- W2 of a 32-byte key (R45). -/
def exportedSecond (a : Attributes) (key : KeyValue) (k : StorageKey) : Block :=
  encipher (.k32 k.key) (key.secondBlock ^^^ exportedFirst a key k)

/-- The token of a key with these attributes under a storage key (R44, R45). -/
def exportedToken (a : Attributes) (c : Contents) (k : StorageKey) : Token :=
  { header := tokenHeader a k.generation k.pattern, attrs := a, generation := k.generation, pattern := k.pattern
    w1 := exportedFirst a c.key k
    w2 := match a.length with
      | .len16 => none
      | .len32 => some (exportedSecond a c.key k)
    check := c.check }

/-- The bytes of that token. -/
def exportedBytes (a : Attributes) (c : Contents) (k : StorageKey) : List Byte :=
  tokenBytes (exportedToken a c k).header (exportedToken a c k).w1 (exportedToken a c k).w2 c.check

/-- The block operations that wrap a key of this length (R45). -/
def KeyLength.blocks : KeyLength → Nat
  | .len16 => 1
  | .len32 => 2

theorem readToken_exportedBytes {a : Attributes} (c : Contents) {k : StorageKey} (valid : a.kind.Valid) (lawful : k.Lawful) :
    readToken (exportedBytes a c k) = some (exportedToken a c k) := by
  have second : (exportedToken a c k).w2.isSome = true ↔ a.length = .len32 := by
    unfold exportedToken
    dsimp only
    cases a.length <;> simp
  exact readToken_tokenBytes valid lawful.generation.1 lawful.generation.2 second _ _ _

/-- The ends of a TOKEN_EXPORT's operations answer the token of the slot's key (R45, R46). -/
theorem runCommands_exportEnds {s : State} {i : SlotId} {a : Attributes} {c : Contents} {k : StorageKey}
    (serves : s.Serves (.tokenExport i a (tokenHeader a k.generation k.pattern) c.check none)
      (.encipher (.k32 k.key) (c.key.firstBlock ^^^ tokenHeader a k.generation k.pattern)))
    (body : s.slots[i].body = .active a c) (current : s.storage.current = some k) :
    ∃ u, runCommands (List.replicate a.length.blocks .tokenExportOperationEnd) s = .next u ∧
      u.custody.link.buffer = some (.ok kindTokenExport .none (u8 i.val :: exportedBytes a c k)) := by
  obtain ⟨process, g, engine, now⟩ := serves
  have first := exec_tokenExportOperationEnd engine now process
  cases hl : a.length with
  | len16 =>
    rw [hl] at first
    refine ⟨_, runCommands_cons first [], ?_⟩
    rw [State.afterGrant_buffer, exportedBytes, exportedToken, hl]
    rfl
  | len32 =>
    rw [hl] at first
    obtain ⟨process, g', engine, now⟩ := State.nextOp_serves (State.custodyOp_tokenExport body current a
      (tokenHeader a k.generation k.pattern) c.check (some (exportedFirst a c.key k))) g
    refine ⟨_, (runCommands_cons first _).trans
      (runCommands_cons (exec_tokenExportOperationEnd engine now process) []), ?_⟩
    rw [State.afterGrant_buffer, exportedBytes, exportedToken, hl]
    rfl

/-- The check value of the token's key makes the slot ACTIVE with that key (R50). -/
theorem State.endImport_body {s : State} {i : SlotId} {token : Token} {key : KeyValue} (check : token.check = checkValue key)
    (old : Bool) (n : Nat) :
    (s.endImport i token old n key (firstThree (BlockOp.encipher key 0).result)).slots[i].body =
      .active token.attrs { key := key, check := token.check, origin := .imported, uses := 0 } := by
  have found : firstThree (BlockOp.encipher key 0).result = token.check := check.symm
  rw [State.endImport_eq, if_pos found, State.afterGrant_slots, State.withSlot_same]
  rfl

/-- The operations' ends of a TOKEN_IMPORT of that token make the slot ACTIVE with the key exported (R49, R50). -/
theorem runCommands_importEnds {s : State} {j : SlotId} {a : Attributes} {c : Contents} {k : StorageKey} {old : Bool} {n : Nat}
    (serves : s.Serves (.tokenImport j (exportedToken a c k) old n none none)
      (.decipher (.k32 k.key) (exportedFirst a c.key k)))
    (length : c.key.length = a.length) (check : c.check = checkValue c.key) (stored : s.storage.keyOf old = some k) :
    ∃ v, runCommands (List.replicate (a.length.blocks + 1) .tokenImportOperationEnd) s = .next v ∧
      v.slots[j].body = .active a { key := c.key, check := c.check, origin := .imported, uses := 0 } := by
  obtain ⟨process, g, engine, now⟩ := serves
  have k1 : BlockOp.result (.decipher (.k32 k.key) (exportedFirst a c.key k)) ^^^ (exportedToken a c k).header =
      c.key.firstBlock := by simp [BlockOp.result, exportedFirst, exportedToken]
  have first : exec .tokenImportOperationEnd s =
      .next (s.nextOp g (.tokenImport j (exportedToken a c k) old n (some c.key.firstBlock) none)) :=
    (exec_tokenImportOperationEnd engine now process).trans (by rw [k1])
  rw [List.replicate_succ, runCommands_cons first]
  cases hl : a.length with
  | len16 =>
    obtain ⟨x, hk⟩ := KeyValue.eq_k16 (length.trans hl)
    have w2 : (exportedToken a c k).w2 = none := by rw [exportedToken, hl]
    rw [hk] at check ⊢
    obtain ⟨process, g', engine, now⟩ := State.nextOp_serves (s := s) (op := .encipher (.k16 x) 0)
      (p := .tokenImport j (exportedToken a c k) old n (some (KeyValue.k16 x).firstBlock) none)
      (by simp only [State.custodyOp, w2, KeyValue.firstBlock]) g
    have last := exec_tokenImportOperationEnd engine now process
    simp only [w2] at last
    exact ⟨_, runCommands_cons last [], State.endImport_body (token := exportedToken a c k) check old n⟩
  | len32 =>
    obtain ⟨x, hk⟩ := KeyValue.eq_k32 (length.trans hl)
    have w2 : (exportedToken a c k).w2 = some (exportedSecond a c.key k) := by rw [exportedToken, hl]
    have k2 : BlockOp.result (.decipher (.k32 k.key) (exportedSecond a c.key k)) ^^^ (exportedToken a c k).w1 =
        c.key.secondBlock := by simp [BlockOp.result, exportedSecond, exportedToken]
    have whole : c.key.firstBlock ++ c.key.secondBlock = x := by rw [hk, KeyValue.blocks_append]
    obtain ⟨process, g2, engine, now⟩ := State.nextOp_serves (s := s) (op := .decipher (.k32 k.key) (exportedSecond a c.key k))
      (p := .tokenImport j (exportedToken a c k) old n (some c.key.firstBlock) none)
      (by simp only [State.custodyOp, w2]; change (s.storage.keyOf old).map _ = _; rw [stored]; rfl) g
    have second := exec_tokenImportOperationEnd engine now process
    simp only [w2, k2] at second
    obtain ⟨process, g3, engine, now⟩ := State.nextOp_serves (op := .encipher (.k32 x) 0)
      (s := s.nextOp g (.tokenImport j (exportedToken a c k) old n (some c.key.firstBlock) none))
      (p := .tokenImport j (exportedToken a c k) old n (some c.key.firstBlock) (some c.key.secondBlock))
      (by simp only [State.custodyOp, w2, whole]) g2
    have last := exec_tokenImportOperationEnd engine now process
    simp only [w2, whole] at last
    refine ⟨_, (runCommands_cons second _).trans (runCommands_cons last []), ?_⟩
    rw [hk] at check ⊢
    exact State.endImport_body (token := exportedToken a c k) check old n

/-- Settles O59: the operations of TOKEN_IMPORT undo those of TOKEN_EXPORT, and the check value is that of the key. -/
theorem importRestoresTheExportedKey : Obligations.ImportRestoresTheExportedKey := by
  intro s i a c k takes mode idle body valid length check current lawful blocks
  have count : blocks = a.length.blocks := by cases h : a.length <;> simp only [blocks, h] <;> rfl
  have exports := (tokenExportWrapsTheKey.1 s i takes mode).2 a c k body current
  have exported : ∃ u, runCommands (.tokenExport :: List.replicate a.length.blocks .tokenExportOperationEnd) s = .next u ∧
      u.custody.link.buffer = some (.ok kindTokenExport .none (u8 i.val :: exportedBytes a c k)) := by
    rw [runCommands_cons exports]
    exact runCommands_exportEnds (State.afterJoin_serves (s := s.afterTaking) idle _ _ _)
      (by rw [State.afterJoin_slots]; exact body) (by rw [State.afterJoin_storage]; exact current)
  obtain ⟨u, ran, buffer⟩ := exported
  rw [count]
  refine ⟨u, exportedBytes a c k, ran, buffer, fun t j takes mode position idle empty holds => ?_⟩
  obtain ⟨old, matched, stored⟩ : ∃ old, t.storage.matching k.pattern = some (old, k) ∧ t.storage.keyOf old = some k := by
    obtain current | ⟨previous, n, current, other⟩ := holds
    · exact ⟨false, StorageUnit.matching_current current rfl, current⟩
    · exact ⟨true, StorageUnit.matching_previous current other previous rfl, previous⟩
  have imports := exec_tokenImport_matched takes mode position empty (readToken_exportedBytes c valid lawful) matched stored
  rw [runCommands_cons imports]
  exact runCommands_importEnds (State.afterJoin_serves (s := t.afterTaking) idle _ _ _) length check
    (by rw [State.afterJoin_storage]; exact stored)

end Sys2Proof.Machine
end


section
/-! SUPPORT. The law of device states by kind of device state (R37, R54, R151, R155, R158), and the shared operations that keep
it: those that leave all it speaks of, those that a device state makes free, and those that begin and end an erase, a stop and a
start (R140, R141, R142, R150). -/

namespace Sys2Proof.Machine

/-! ### The law of device states, by kind of device state -/

/-- The device state that admits a command in process (R14). -/
def Process.home : Process → Mode
  | .initialise _ => .uninitialised
  | .componentCheck _ _ _ _ _ _ | .finalCheck _ | .storageRoll _ | .tokenExport _ _ _ _ _
  | .tokenImport _ _ _ _ _ _ => .operational

theorem ModeLaw.home {s : State} (h : ModeLaw s) {p : Process} (now : s.custody.process = some p) : s.mode = p.home := by
  have admitted := h.process p now
  cases p <;> exact admitted

/-- Commands are in process in service only (R14, R158). -/
theorem ModeLaw.free {s : State} (h : ModeLaw s) (out : s.mode.inService = false) : s.custody.process = none := by
  cases now : s.custody.process with
  | none => rfl
  | some p =>
    rw [h.home now] at out
    cases p <;> cases out

theorem Mode.running_of_inService {m : Mode} (h : m.inService = true) : m.running = true := by
  cases m <;> simp_all [Mode.inService, Mode.running]

theorem Mode.eq_stopped {m : Mode} (h : m.running = false) : m = .stopped := by
  cases m <;> simp_all [Mode.running]

/-- In a valid domain without an erase pending, storage keys and slots are there only with a current storage key (R37, R155). -/
def State.KeysHeld (s : State) : Prop :=
  s.marker = Config.marker → s.tamper.erasePending = false → s.storage.current = none → s.storage.Clear ∧ s.AllEmpty

/-- In a valid domain without an erase pending, every unit of the key store holds its record (R142, R143). -/
def State.RecordsHeld (s : State) : Prop :=
  s.marker = Config.marker → s.tamper.erasePending = false → s.passes.units = Vector.replicate 50 none

theorem ModeLaw.keysHeld {s : State} (h : ModeLaw s) : s.KeysHeld := by
  intro valid pending absent
  cases mode : s.mode with
  | stopped => exact h.kept (.inl mode) valid pending absent
  | starting phase =>
    cases phase with
    | check => exact h.kept (.inr (.inl mode)) valid pending absent
    | clearing => exact absurd valid (h.clearing mode)
    | sweep => exact h.kept (.inr (.inr mode)) valid pending absent
  | uninitialised => exact h.clear (.inl mode)
  | operational =>
    have present := h.operational mode
    rw [absent] at present
    cases present
  | erasing =>
    have begun := h.erasing mode
    rw [pending] at begun
    cases begun
  | locked => exact h.clear (.inr mode)

/-- What holds in every state in service: a valid domain on the main supply, no erase pending and no unit overwritten (R149,
R151, R158). -/
structure State.Settled (s : State) : Prop where
  pending : s.tamper.erasePending = false
  marker : s.marker = Config.marker
  supply : stopLevel ≤ s.vmain
  units : s.passes.units = Vector.replicate 50 none
  written : s.passes.written = 0

theorem ModeLaw.settled {s : State} (h : ModeLaw s) (service : s.mode.inService = true) : s.Settled where
  pending := h.service service
  marker := h.valid (.inl service)
  supply := h.supply (Mode.running_of_inService service)
  units := h.records (h.valid (.inl service)) (h.service service)
  written := h.passes fun erasing => by rw [erasing] at service; cases service

/-- So it does in a sweep after which no erase is due (R153, R155). -/
theorem ModeLaw.settled_of_sweep {s : State} (h : ModeLaw s) (sweep : s.mode = .starting .sweep)
    (pending : s.tamper.erasePending = false) : s.Settled where
  pending := pending
  marker := h.sweep sweep
  supply := h.supply (by rw [sweep]; rfl)
  units := h.records (h.sweep sweep) pending
  written := h.passes (by rw [sweep]; nofun)

/-- The law in service. -/
theorem ModeLaw.of_settled {t : State} (settled : t.Settled) (service : t.mode.inService = true)
    (operational : t.mode = .operational → t.storage.current.isSome = true)
    (clear : t.mode = .uninitialised ∨ t.mode = .locked → t.storage.Clear ∧ t.AllEmpty)
    (home : ∀ p, t.custody.process = some p → t.mode = p.home) : ModeLaw t where
  operational := operational
  clear := clear
  kept out := by rcases out with e | e | e <;> rw [e] at service <;> cases service
  erasing e := by rw [e] at service; cases service
  service _ := settled.pending
  sweep _ := settled.marker
  valid _ := settled.marker
  supply _ := settled.supply
  clearing e := by rw [e] at service; cases service
  records _ _ := settled.units
  passes _ := settled.written
  process p now := by
    have admitted := home p now
    cases p <;> exact admitted

/-- The law while stopped and in STARTING. -/
theorem ModeLaw.of_out {t : State} (out : t.mode = .stopped ∨ ∃ phase, t.mode = .starting phase) (keys : t.KeysHeld)
    (records : t.RecordsHeld) (written : t.passes.written = 0) (free : t.custody.process = none)
    (sweep : t.mode = .starting .sweep → t.marker = Config.marker)
    (clearing : t.mode = .starting .clearing → t.marker ≠ Config.marker)
    (supply : t.mode.running = true → stopLevel ≤ t.vmain) : ModeLaw t where
  operational e := by rcases out with o | ⟨_, o⟩ <;> rw [e] at o <;> cases o
  clear e := by rcases out with o | ⟨_, o⟩ <;> rcases e with e | e <;> rw [e] at o <;> cases o
  kept _ := keys
  erasing e := by rcases out with o | ⟨_, o⟩ <;> rw [e] at o <;> cases o
  service e := by rcases out with o | ⟨_, o⟩ <;> rw [o] at e <;> cases e
  sweep := sweep
  valid e := by rcases out with o | ⟨_, o⟩ <;> rw [o] at e <;> rcases e with e | e <;> cases e
  supply := supply
  clearing := clearing
  records := records
  passes _ := written
  process p now := by rw [free] at now; cases now

/-- The law in ERASING (R141). -/
theorem ModeLaw.of_erasing {t : State} (mode : t.mode = .erasing) (pending : t.tamper.erasePending = true)
    (marker : t.marker = Config.marker) (supply : stopLevel ≤ t.vmain) (free : t.custody.process = none) : ModeLaw t where
  operational e := by rw [mode] at e; cases e
  clear e := by rcases e with e | e <;> rw [mode] at e <;> cases e
  kept e := by rcases e with e | e | e <;> rw [mode] at e <;> cases e
  erasing _ := pending
  service e := by rw [mode] at e; cases e
  sweep _ := marker
  valid _ := marker
  supply _ := supply
  clearing e := by rw [mode] at e; cases e
  records _ e := by rw [pending] at e; cases e
  passes e := absurd mode e
  process p now := by rw [free] at now; cases now

/-! ### What keeps the law -/

/-- The law of device states, once it holds, holds after. -/
def ModeHeld (s t : State) : Prop := ModeLaw s → ModeLaw t

/-- What the law speaks of, but for the slots and the command in process. -/
@[simp] def State.control (s : State) : Mode × BitVec 32 × Nat × Bool × Passes × StorageUnit :=
  (s.mode, s.marker, s.vmain, s.tamper.erasePending, s.passes, s.storage)

/-- Two states that agree on it. -/
structure SameControl (s t : State) : Prop where
  mode : t.mode = s.mode
  marker : t.marker = s.marker
  vmain : t.vmain = s.vmain
  pending : t.tamper.erasePending = s.tamper.erasePending
  passes : t.passes = s.passes
  storage : t.storage = s.storage

theorem sameControl_of_eq {s t : State} (e : t.control = s.control) : SameControl s t := by
  simp only [State.control, Prod.mk.injEq] at e
  obtain ⟨mode, marker, vmain, pending, passes, storage⟩ := e
  exact ⟨mode, marker, vmain, pending, passes, storage⟩

theorem SameControl.settled {s t : State} (same : SameControl s t) (h : s.Settled) : t.Settled where
  pending := same.pending.trans h.pending
  marker := same.marker.trans h.marker
  supply := same.vmain ▸ h.supply
  units := by rw [same.passes]; exact h.units
  written := by rw [same.passes]; exact h.written

theorem State.AllEmpty.of_bodies {s t : State} (bodies : ∀ i : SlotId, t.slots[i].body = s.slots[i].body)
    (h : s.AllEmpty) : t.AllEmpty := fun i => (bodies i).trans (h i)

/-- The law goes over to slots that are EMPTY where they were and to a command in process that the device state admits. -/
theorem ModeLaw.carry {s t : State} (h : ModeLaw s) (same : SameControl s t) (slots : s.AllEmpty → t.AllEmpty)
    (home : ∀ p, t.custody.process = some p → s.mode = p.home) : ModeLaw t where
  operational e := by rw [same.storage]; exact h.operational (same.mode ▸ e)
  clear e := by
    rw [same.storage]
    exact (h.clear (same.mode ▸ e)).imp id slots
  kept e valid pending absent := by
    rw [same.storage] at absent ⊢
    exact (h.kept (same.mode ▸ e) (same.marker ▸ valid) (same.pending ▸ pending) absent).imp id slots
  erasing e := same.pending.trans (h.erasing (same.mode ▸ e))
  service e := same.pending.trans (h.service (same.mode ▸ e))
  sweep e := same.marker.trans (h.sweep (same.mode ▸ e))
  valid e := same.marker.trans (h.valid (same.mode ▸ e))
  supply e := by rw [same.vmain]; exact h.supply (same.mode ▸ e)
  clearing e := by rw [same.marker]; exact h.clearing (same.mode ▸ e)
  records valid pending := by
    rw [same.passes]
    exact h.records (same.marker ▸ valid) (same.pending ▸ pending)
  passes e := by rw [same.passes]; exact h.passes (same.mode ▸ e)
  process p now := by
    have admitted := same.mode.trans (home p now)
    cases p <;> exact admitted

/-- A change of the slots that leaves EMPTY ones EMPTY. -/
theorem ModeHeld.of_slots {s t : State} (control : t.control = s.control)
    (process : t.custody.process = s.custody.process) (slots : s.AllEmpty → t.AllEmpty) : ModeHeld s t :=
  fun h => h.carry (sameControl_of_eq control) slots fun _ now => h.home (process ▸ now)

/-- A change of the command in process. -/
theorem ModeHeld.of_process {s t : State} (control : t.control = s.control) (slots : t.slots = s.slots)
    (home : ModeLaw s → ∀ p, t.custody.process = some p → s.mode = p.home) : ModeHeld s t :=
  fun h => h.carry (sameControl_of_eq control) (fun empty i => by rw [slots]; exact empty i) (home h)

/-- All that the law speaks of. -/
@[simp] def State.modeParts (s : State) :
    (Mode × BitVec 32 × Nat × Bool × Passes × StorageUnit) × Vector Slot 48 × Option Process :=
  (s.control, s.slots, s.custody.process)

theorem ModeHeld.of_parts {s t : State} (parts : t.modeParts = s.modeParts) : ModeHeld s t := by
  simp only [State.modeParts, Prod.mk.injEq] at parts
  obtain ⟨control, slots, process⟩ := parts
  exact .of_process control slots fun h _ now => h.home (process ▸ now)

/-- In OPERATIONAL the slots are free to change (R37, R54). -/
theorem ModeHeld.of_operational {s t : State} (mode : s.mode = .operational) (control : t.control = s.control)
    (process : t.custody.process = s.custody.process) : ModeHeld s t := fun h => by
  have same := sameControl_of_eq control
  have after := same.mode.trans mode
  refine .of_settled (same.settled (h.settled (by rw [mode]; rfl))) (by rw [after]; rfl)
    (fun _ => by rw [same.storage]; exact h.operational mode) (fun e => ?_)
    fun p now => same.mode.trans (h.home (process ▸ now))
  rcases e with e | e <;> rw [after] at e <;> cases e

theorem ModeHeld.trans {s t u : State} (h : ModeHeld s t) (k : ModeHeld t u) : ModeHeld s u := k ∘ h

theorem modeHeld_steady : Steady ModeHeld where
  refl _ := id
  trans := .trans
  reply _ _ _ := .of_parts (by simp)
  popFrame _ _ := .of_parts (by simp)

/-- A command's effect may be read under the law. -/
theorem Gives.assuming {s : State} {r : Res} (h : ModeLaw s → Gives ModeHeld s r) : Gives ModeHeld s r :=
  fun t ht law => h law t ht law

/-! ### Past the gate (R14) -/

namespace Steady

variable {R : State → State → Prop} (h : Steady R) {s : State}
include h

theorem pastGate {kind : Byte} {r : GateRow} {act : State → Res} (ha : s.gate r = none → Gives R s (act s)) :
    Gives R s (s.gated kind r act) := by
  obtain ⟨c, _, e⟩ | ⟨passes, e⟩ := s.gated_cases kind r act
  · rw [e]; exact h.refuse s _ _
  · rw [e]; exact ha passes

theorem pastSlotGate {kind : Byte} {r : GateRow} {slot : Byte} {act : SlotId → State → Res}
    (ha : s.gate r = none → ∀ i, Gives R s (act i s)) : Gives R s (s.gatedSlot kind r slot act) := by
  obtain ⟨c, e⟩ | ⟨i, passes, _, e⟩ := s.gatedSlot_cases kind r slot act
  · rw [e]; exact h.refuse s _ _
  · rw [e]; exact ha passes i

end Steady

theorem State.gate_entry {s : State} {r : GateRow} (h : s.gate r = none) : r.entry s.mode = none := by
  unfold State.gate at h
  split at h
  · cases h
  · assumption

theorem State.Free.operational {s : State} (free : s.Free) (passes : s.gate .keyChange = none) : s.mode = .operational :=
  ((s.gate_keyChange free.service).1 passes).1

theorem State.Free.operational_of_export {s : State} (free : s.Free) (passes : s.gate .tokenExport = none) :
    s.mode = .operational := by
  have entry := State.gate_entry passes
  have service := free.service
  cases mode : s.mode <;> simp_all [GateRow.entry, GateRow.tokenExport, Mode.inService]

theorem State.Free.uninitialised {s : State} (free : s.Free) (passes : s.gate .initialise = none) :
    s.mode = .uninitialised := by
  have entry := State.gate_entry passes
  have service := free.service
  cases mode : s.mode <;> simp_all [GateRow.entry, GateRow.initialise, Mode.inService]

/-! ### The command in process -/

theorem State.startProcess_process (s : State) (p : Process) : (s.startProcess p).custody.process = some p := by
  simp [State.startProcess]

theorem State.endProcess_process (s : State) (r : Reply) : (s.endProcess r).custody.process = none := by
  simp [State.endProcess]

theorem modeHeld_inProcess {s : State} {p : Option Process} (home : ModeLaw s → ∀ q, p = some q → s.mode = q.home) :
    ModeHeld s (s.inProcess p) := by
  unfold State.inProcess
  exact .of_process (by simp) (by simp) home

theorem modeHeld_outOfProcess (s : State) : ModeHeld s (s.inProcess none) := modeHeld_inProcess fun _ _ e => by cases e

theorem modeHeld_startProcess {s : State} {p : Process} (mode : s.mode = p.home) : ModeHeld s (s.startProcess p) :=
  .of_process (by simp) (by simp) fun _ q now => by
    rw [State.startProcess_process] at now
    rw [← Option.some.inj now, mode]

theorem modeHeld_endProcess (s : State) (r : Reply) : ModeHeld s (s.endProcess r) :=
  .of_process (by simp) (by simp) fun _ _ now => by
    rw [State.endProcess_process] at now
    cases now

theorem modeHeld_nextOp {s : State} {g : CustodyGrant} {p : Process} (mode : s.mode = p.home) : ModeHeld s (s.nextOp g p) :=
  .of_process (by simp) (by simp) fun _ q now => by
    rw [← Option.some.inj (now : some p = some q), mode]

/-! ### Slots, warrants and the other shared operations -/

/-- In OPERATIONAL any slot may change (R54). -/
theorem modeHeld_writeSlot {s : State} (mode : s.mode = .operational) (i : SlotId) (b : SlotBody) (n : Nat)
    (p : Option Assembly) : ModeHeld s (s.writeSlot i b n p) := .of_operational mode (by simp) (by simp)

theorem modeHeld_emptySlot {s : State} (mode : s.mode = .operational) (i : SlotId) : ModeHeld s (s.emptySlot i) :=
  .of_operational mode (by simp) (by simp)

theorem modeHeld_setAssembly (s : State) (i : SlotId) (p : Assembly) : ModeHeld s (s.setAssembly i p) :=
  .of_slots (by simp) (by simp) (State.AllEmpty.of_bodies fun j => s.setAssembly_body i j p)

theorem modeHeld_setRefs (s : State) (i : SlotId) (n : Nat) : ModeHeld s (s.setRefs i n) :=
  .of_slots (by simp) (by simp) (State.AllEmpty.of_bodies fun j => s.setRefs_body i j n)

theorem modeHeld_setWarrant (s : State) (id : Nat) (f : Warrant → Warrant) : ModeHeld s (s.setWarrant id f) :=
  .of_parts (by simp)

theorem modeHeld_addWarrant (s : State) (w : Warrant) : ModeHeld s (s.addWarrant w) :=
  ModeHeld.trans (.of_parts (by simp)) (modeHeld_setRefs _ w.master _)

theorem modeHeld_setLane (s : State) (l : LaneId) (x : Lane) : ModeHeld s (s.setLane l x) := .of_parts (by simp)

theorem modeHeld_setLink (s : State) (k : Link) (x : LinkState) : ModeHeld s (s.setLink k x) := .of_parts (by simp)

theorem modeHeld_moveRefs (s : State) (old : Option SlotId) (new : SlotId) : ModeHeld s (s.moveRefs old new) := by
  have bodies (i : SlotId) := (s.moveRefs_record old new i).1
  obtain ⟨v, e⟩ := s.moveRefs_rest old new
  rw [e] at bodies ⊢
  exact .of_slots (by simp) (by simp) (State.AllEmpty.of_bodies bodies)

/-- A use is counted in an ACTIVE slot only (R9). -/
theorem modeHeld_raiseUses (s : State) (i : SlotId) : ModeHeld s (s.raiseUses i) :=
  .of_slots (by simp) (by simp) fun empty j => by
    by_cases e : i = j
    · subst e
      have body := empty i
      unfold State.raiseUses
      rw [State.writeSlot_same, body]
      rfl
    · unfold State.raiseUses
      rw [State.writeSlot_other _ _ _ _ _ _ e]
      exact empty j

theorem modeHeld_raiseUsesOf (s : State) (i : Option SlotId) : ModeHeld s (s.raiseUsesOf i) := by
  cases i with
  | none => exact id
  | some i => exact modeHeld_raiseUses s i

theorem modeHeld_completeEntry (s : State) (g : RunGrant) (tie : Nat) (o : Block) : ModeHeld s (s.completeEntry g tie o) := by
  have debits : ModeHeld s (s.debitTied tie) := .of_parts (by simp)
  unfold State.completeEntry
  exact ((debits.trans (modeHeld_raiseUsesOf _ _)).trans (modeHeld_raiseUsesOf _ _)).trans (modeHeld_setLane _ _ _)

theorem modeHeld_withdraw (s : State) (r : Requester) : ModeHeld s (s.withdraw r) := .of_parts (by simp)

theorem modeHeld_serveLane (s : State) (l : LaneId) (f : Frame) : ModeHeld s (s.serveLane l f) := .of_parts (by simp)

theorem modeHeld_runStop (s : State) (l : LaneId) : ModeHeld s (s.runStop l) := .of_parts (by simp)

theorem modeHeld_walkOn (s : State) (g : RunGrant) : ModeHeld s (s.walkOn g) := .of_parts (by simp)

theorem modeHeld_considerHead (s : State) (l : LaneId) : ModeHeld s (s.considerHead l) := .of_parts (by simp)

theorem modeHeld_handOn (s : State) (k : Link) (r : Reply) : ModeHeld s (s.handOn k r) := by
  cases k with
  | custody =>
    unfold State.handOn
    dsimp only
    split
    · exact .of_parts (by simp)
    · exact id
  | lane l =>
    unfold State.handOn
    refine ModeHeld.trans ?_ (modeHeld_considerHead _ l)
    split
    · exact modeHeld_setLane s l _
    · exact id

theorem modeHeld_immediate (s : State) (k : Link) (kind : Byte) : ModeHeld s (s.immediate k kind) := by
  unfold State.immediate
  split
  · exact modeHeld_setLink s _ _
  · split
    · exact modeHeld_runStop s _
    · exact modeHeld_setLink s _ _

theorem modeHeld_receive (s : State) (k : Link) (bytes : List Byte) : ModeHeld s (s.receive k bytes) := by
  unfold State.receive
  split
  · split
    · split
      · split
        · exact modeHeld_immediate s k _
        · exact modeHeld_setLink s k _
      · exact modeHeld_setLink s k _
    · exact modeHeld_setLink s k _
  · exact modeHeld_setLink s k _

/-! ### The custody switch -/

/-- A component in process for an emptied slot stays one, or ends (R33). -/
theorem modeHeld_abandonComponent (s : State) : ModeHeld s s.abandonComponent := by
  unfold State.abandonComponent
  split
  · rename_i i c v k l e now
    have waits : ModeHeld s (((s.inProcess none).withdraw .custody).custodyRefuse kindComponent .notInCustody) :=
      ((modeHeld_outOfProcess s).trans (modeHeld_withdraw _ .custody)).trans (modeHeld_steady.reply _ _ _)
    split
    · split
      · refine modeHeld_inProcess fun h p same => ?_
        have operational : s.mode = .operational := h.home now
        rw [← Option.some.inj same, operational, Process.home]
      · exact waits
      · exact waits
    · exact id
  · exact id

theorem modeHeld_abandonAssemblies (s : State) : ModeHeld s s.abandonAssemblies :=
  .of_slots (by simp) (by simp) fun empty i => by
    simp only [State.abandonAssemblies, ofFn_get]
    split
    · rfl
    · exact empty i

theorem modeHeld_sampleSwitch (s : State) (pin : Level) : ModeHeld s (s.sampleSwitch pin) := by
  unfold State.sampleSwitch
  split
  rename_i position count confirmed _
  have counts : ModeHeld s { s with custody := { s.custody with position := position, count := count } } := .of_parts (by simp)
  dsimp only
  split
  · exact (counts.trans (modeHeld_abandonComponent _)).trans (modeHeld_abandonAssemblies _)
  · exact counts

/-! ### The Tamper Monitor and the erase -/

/-- A change of the tamper settings or of the tamper record, with the erase pending or not as before. -/
theorem modeHeld_tamper (s : State) {t : Tamper} (pending : t.erasePending = s.tamper.erasePending) :
    ModeHeld s { s with tamper := t } := .of_parts (by simp [pending])

theorem modeHeld_notice (s : State) : ModeHeld s s.notice := by
  unfold State.notice
  split
  · exact modeHeld_setLink s _ _
  · exact id

/-- An erase begins on a valid domain, on the main supply (R141, R151, R158). -/
theorem ModeLaw.eraseBegin {s : State} (marker : s.marker = Config.marker) (supply : stopLevel ≤ s.vmain) :
    ModeLaw s.eraseBegin := .of_erasing rfl rfl marker supply rfl

theorem modeHeld_eraseBegin {s : State} (service : s.mode.inService = true) : ModeHeld s s.eraseBegin := fun h =>
  .eraseBegin (h.settled service).marker (h.settled service).supply

/-- While stopped and in STARTING an erase ordered waits (R140). -/
theorem modeHeld_setPending {s : State} (out : s.mode = .stopped ∨ ∃ phase, s.mode = .starting phase) :
    ModeHeld s { s with tamper := { s.tamper with erasePending := true } } := fun h => by
  have away : s.mode.inService = false := by obtain e | ⟨_, e⟩ := out <;> rw [e] <;> rfl
  have other : s.mode ≠ .erasing := by obtain e | ⟨_, e⟩ := out <;> rw [e] <;> nofun
  exact .of_out out nofun nofun (h.passes other) (h.free away) h.sweep h.clearing h.supply

theorem modeHeld_orderErase (s : State) : ModeHeld s s.orderErase := by
  unfold State.orderErase
  split
  · rename_i mode; exact modeHeld_eraseBegin (by rw [mode]; rfl)
  · rename_i mode; exact modeHeld_eraseBegin (by rw [mode]; rfl)
  · rename_i mode; exact modeHeld_eraseBegin (by rw [mode]; rfl)
  · exact id
  · rename_i phase mode; exact modeHeld_setPending (.inr ⟨phase, mode⟩)
  · rename_i mode; exact modeHeld_setPending (.inl mode)

theorem modeHeld_tamperEvent (s : State) (x : Source) (r : Response) : ModeHeld s (s.tamperEvent x r) := by
  have records : ModeHeld s { s with tamper := s.tamper.record x } := modeHeld_tamper s rfl
  unfold State.tamperEvent
  dsimp only
  split
  · exact records.trans (modeHeld_notice _)
  · exact records.trans (modeHeld_orderErase _)

theorem modeHeld_sampleInput (s : State) (i : InputId) (v : Level) : ModeHeld s (s.sampleInput i v) := by
  have samples : ModeHeld s
      { s with tamper := { s.tamper with inputs := s.tamper.inputs.set i (s.tamper.inputs[i].sample v).1 } } :=
    modeHeld_tamper s rfl
  unfold State.sampleInput
  dsimp only
  split
  · exact samples.trans (modeHeld_tamperEvent _ _ _)
  · exact samples

/-- The passes write in ERASING, where the law says nothing of keys, slots and units (R142). -/
theorem modeHeld_overwriteNext {s : State} (mode : s.mode = .erasing) : ModeHeld s s.overwriteNext := fun h => by
  refine .of_erasing (by simp [mode]) ?_ ?_ ?_ ?_
  · rw [State.overwriteNext_tamper]; exact h.erasing mode
  · rw [State.overwriteNext_marker]; exact h.valid (.inr mode)
  · rw [State.overwriteNext_vmain]; exact h.supply (by rw [mode]; rfl)
  · rw [State.overwriteNext_custody]; exact h.free (by rw [mode]; rfl)

/-! ### Stopping and starting -/

/-- A slot that is EMPTY before a sweep is EMPTY after (R154). -/
theorem SweptTo.allEmpty {s t : State} (h : SweptTo s t) (empty : s.AllEmpty) : t.AllEmpty := fun i => by
  cases h.slots i with
  | same body _ => exact body.trans (empty i)
  | faulted a c before _ _ =>
    rw [empty i] at before
    cases before
  | emptied body _ => exact body

theorem modeHeld_sweepFirst (s : State) (n : Nat) : ModeHeld s (s.sweepFirst n) :=
  .of_slots (by simp) (by simp) ((sweptTo_sweepFirst s n).allEmpty)

theorem modeHeld_cutSweep (s : State) (cut : SweepCut) : ModeHeld s (s.cutSweep cut) := by
  by_cases mode : s.mode = .starting .sweep
  · rw [State.cutSweep_of_sweep cut mode]
    exact .of_slots (by simp) (by simp) ((sweptTo_cut s cut.steps cut.records).allEmpty)
  · rw [State.cutSweep_of_ne cut mode]
    exact id

/-- The volatile state begins in `stopped` or, on the main supply, in STARTING; the battery domain is as it was (R143, R150,
R158). -/
theorem ModeLaw.restart {s : State} (h : ModeLaw s) {m : Mode}
    (out : m = .stopped ∨ m = .starting .check ∧ stopLevel ≤ s.vmain) : ModeLaw { s.volatileStart with mode := m } := by
  have pending : s.volatileStart.tamper.erasePending = s.tamper.erasePending := by simp only [State.volatileStart]
  have keys : State.KeysHeld { s.volatileStart with mode := m } := fun valid quiet absent => by
    obtain ⟨clear, empty⟩ := h.keysHeld (by simpa using valid) (pending.symm.trans quiet) (by simpa using absent)
    refine ⟨by simpa using clear, fun i => ?_⟩
    change s.volatileStart.slots[i].body = .empty
    rw [State.volatileStart_slot]
    exact empty i
  have records : State.RecordsHeld { s.volatileStart with mode := m } := fun valid quiet => by
    have held := h.records (by simpa using valid) (pending.symm.trans quiet)
    simp [held]
  have free := s.volatileStart_process
  rcases out with rfl | ⟨rfl, supply⟩
  · exact .of_out (.inl rfl) keys records (by simp) free nofun nofun nofun
  · exact .of_out (.inr ⟨_, rfl⟩) keys records (by simp) free nofun nofun fun _ => by simpa using supply

theorem modeHeld_stopLogic (s : State) (cut : SweepCut) : ModeHeld s (s.stopLogic cut) := fun h =>
  (modeHeld_cutSweep s cut h).restart (.inl rfl)

theorem modeHeld_enterStarting {s : State} (supply : stopLevel ≤ s.vmain) : ModeHeld s s.enterStarting := fun h =>
  h.restart (.inr ⟨rfl, supply⟩)

/-- The main supply moves, but for a running part not below the stop level (R158). -/
theorem modeHeld_vmain {s : State} {mv : Nat} (supply : s.mode.running = true → stopLevel ≤ mv) :
    ModeHeld s { s with vmain := mv } := fun h => { h with supply := supply }

/-- A domain is lost only while the part is stopped (R151, R158). -/
theorem modeHeld_keepDomain (s : State) : ModeHeld s s.keepDomain := by
  unfold State.keepDomain
  split
  · exact id
  · rename_i lost
    intro h
    have stopped : s.mode = .stopped := Mode.eq_stopped (by
      cases running : s.mode.running with
      | false => rfl
      | true => simp [h.supply running] at lost)
    exact .of_out (.inl stopped) (fun valid => absurd valid lostMarker_ne) (fun valid => absurd valid lostMarker_ne)
      (h.passes (by simp [stopped])) (h.free (by rw [stopped]; rfl)) (by simp [stopped]) (by simp [stopped])
      (by simp [stopped, Mode.running])

end Sys2Proof.Machine
end

section
/-! PROOFS. Every command but a fault of the battery-backed memory, and so every such step, keeps keys, device state, marker,
main supply and overwritten units in agreement (R37, R54, R138 to R143, R149, R151, R155, R158): ModeLawIsKept. -/

namespace Sys2Proof.Machine

/-! ### Key ceremonies -/

theorem modeHeld_acceptComponent {s : State} (mode : s.mode = .operational) (i : SlotId) (p : Assembly)
    (f : ComponentForm) : ModeHeld s (s.acceptComponent i p f) := by
  have combines := modeHeld_setAssembly s i (p.combine f.custodian.toNat f.value)
  unfold State.acceptComponent
  dsimp only
  split
  · exact modeHeld_startProcess mode
  · split
    · exact combines.trans (modeHeld_startProcess mode)
    · exact combines.trans (modeHeld_steady.reply _ _ _)

theorem modeHeld_execAssemble (s : State) : Gives ModeHeld s (execAssemble s) := by
  have steady := modeHeld_steady
  refine steady.takeCustody fun _ u free => steady.readCustody fun f => steady.pastSlotGate fun passes i =>
    steady.refuseOr ?_
  split
  · exact steady.refuse u _ _
  · exact .next ((modeHeld_writeSlot (free.operational passes) i _ _ _).trans (steady.reply _ _ _))

theorem modeHeld_execComponent (s : State) : Gives ModeHeld s (execComponent s) := by
  have steady := modeHeld_steady
  refine steady.takeCustody fun _ u free => steady.readCustody fun f => steady.pastSlotGate fun passes i => ?_
  split
  · exact steady.refuse u _ _
  · exact .next (modeHeld_acceptComponent (free.operational passes) i _ f)
  · exact steady.same u

theorem modeHeld_execComponentCheckEnd (s : State) : Gives ModeHeld s (execComponentCheckEnd s) := by
  unfold execComponentCheckEnd
  split
  · rename_i g i c v k l e engine now
    refine Gives.assuming fun h => ?_
    have mode : s.mode = .operational := h.home now
    split
    · exact .fault s _
    · dsimp only
      split
      · exact .next (modeHeld_endProcess s _)
      · split
        · exact .next (modeHeld_endProcess s _)
        · split
          · exact .fault s _
          · have combines := modeHeld_setAssembly s i
            split
            · exact .next ((combines _).trans (modeHeld_nextOp mode))
            · exact .next ((combines _).trans (modeHeld_endProcess _ _))
  · exact modeHeld_steady.same s

theorem modeHeld_execFinalCheckEnd (s : State) : Gives ModeHeld s (execFinalCheckEnd s) := by
  unfold execFinalCheckEnd
  split
  · rename_i g i engine now
    refine Gives.assuming fun h => ?_
    have mode : s.mode = .operational := h.home now
    split
    · exact .fault s _
    · exact .fault s _
    · dsimp only
      split
      · exact .next ((modeHeld_writeSlot mode i _ 0 _).trans (modeHeld_endProcess _ _))
      · exact .next ((modeHeld_emptySlot mode i).trans (modeHeld_endProcess _ _))
  · exact modeHeld_steady.same s

theorem modeHeld_execAssemblyCancel (s : State) : Gives ModeHeld s (execAssemblyCancel s) := by
  have steady := modeHeld_steady
  refine steady.takeCustody fun _ u free => steady.readCustody fun _ => steady.pastSlotGate fun passes i => ?_
  split
  · exact steady.refuse u _ _
  · exact steady.refuseOr (.next ((modeHeld_emptySlot (free.operational passes) i).trans (steady.reply _ _ _)))

theorem modeHeld_execCustodySwitchChange (samples : List Level) (s : State) :
    Gives ModeHeld s (execCustodySwitchChange samples s) :=
  modeHeld_steady.guarded (.next (modeHeld_steady.foldl modeHeld_sampleSwitch s samples))

/-! ### The Key Table, storage keys and tokens -/

theorem modeHeld_execSlotStatus (s : State) : Gives ModeHeld s (execSlotStatus s) :=
  modeHeld_steady.takeCustody fun _ u _ => modeHeld_steady.readCustody fun _ => modeHeld_steady.gatedSlot fun _ =>
    .next (modeHeld_steady.reply u _ _)

theorem modeHeld_execSlotErase (s : State) : Gives ModeHeld s (execSlotErase s) := by
  have steady := modeHeld_steady
  refine steady.takeCustody fun _ u free => steady.readCustody fun _ => steady.pastSlotGate fun passes i => ?_
  split
  · exact steady.refuse u _ _
  · exact steady.refuseOr (.next ((modeHeld_emptySlot (free.operational passes) i).trans (steady.reply _ _ _)))

theorem modeHeld_draw (s : State) : ModeHeld s s.draw.2 := by
  unfold State.draw
  exact .of_parts (by simp)

theorem modeHeld_execInitialise (s : State) : Gives ModeHeld s (execInitialise s) :=
  modeHeld_steady.takeCustody fun _ u free => modeHeld_steady.readCustody fun _ => modeHeld_steady.pastGate fun passes =>
    .next ((modeHeld_draw u).trans (modeHeld_startProcess (free.uninitialised passes)))

/-- A command that writes the current storage key ends in OPERATIONAL (R37, R41, R42). -/
theorem ModeLaw.takesKey {s : State} (h : ModeLaw s) (service : s.mode.inService = true) {u : StorageUnit}
    (current : u.current.isSome = true) (r : Reply) :
    ModeLaw ({ s with storage := u, mode := .operational }.endProcess r) := by
  have settled := h.settled service
  have taken : ({ s with storage := u, mode := .operational } : State).Settled :=
    ⟨settled.pending, settled.marker, settled.supply, settled.units, settled.written⟩
  have same : SameControl { s with storage := u, mode := .operational }
      ({ s with storage := u, mode := .operational }.endProcess r) := sameControl_of_eq (by simp)
  exact .of_settled (same.settled taken) (by simp [Mode.inService]) (by simp [current]) (by simp) fun p now => by
    rw [State.endProcess_process] at now
    cases now

theorem modeHeld_execInitialisePatternEnd (s : State) : Gives ModeHeld s (execInitialisePatternEnd s) := by
  unfold execInitialisePatternEnd
  split
  · rename_i g d engine now
    split
    · exact .fault s _
    · refine .next fun h => ?_
      have mode : s.mode = .uninitialised := h.home now
      exact h.takesKey (by rw [mode]; rfl) rfl _
  · exact modeHeld_steady.same s

theorem modeHeld_execStorageRoll (s : State) : Gives ModeHeld s (execStorageRoll s) := by
  have steady := modeHeld_steady
  refine steady.takeCustody fun _ u free => steady.readCustody fun _ => steady.pastGate fun passes => ?_
  split
  · exact .fault u _
  · exact steady.refuseOr (.next ((modeHeld_draw u).trans (modeHeld_startProcess (free.operational passes))))

theorem modeHeld_execStorageRollPatternEnd (s : State) : Gives ModeHeld s (execStorageRollPatternEnd s) := by
  unfold execStorageRollPatternEnd
  split
  · rename_i g d engine now
    split
    · exact .fault s _
    · exact .fault s _
    · rename_i op old _ _
      refine .next fun h => ?_
      have mode : s.mode = .operational := h.home now
      have rolled := h.takesKey (by rw [mode]; rfl)
        (u := ⟨some (storageKey d (old.generation + 1) op.result), some old⟩) rfl
      rw [← mode] at rolled
      exact rolled _
  · exact modeHeld_steady.same s

theorem modeHeld_execTokenExport (s : State) : Gives ModeHeld s (execTokenExport s) := by
  have steady := modeHeld_steady
  refine steady.takeCustody fun _ u free => steady.readCustody fun _ => steady.pastSlotGate fun passes i => ?_
  split
  · exact steady.refuse u _ _
  · exact .fault u _
  · exact .next (modeHeld_startProcess (free.operational_of_export passes))

theorem modeHeld_execTokenExportOperationEnd (s : State) : Gives ModeHeld s (execTokenExportOperationEnd s) := by
  unfold execTokenExportOperationEnd
  split
  · rename_i g i a header check w1 engine now
    refine Gives.assuming fun h => ?_
    have mode : s.mode = .operational := h.home now
    split
    · exact .fault s _
    · split
      · exact .next (modeHeld_endProcess s _)
      · exact .next (modeHeld_nextOp mode)
      · exact .next (modeHeld_endProcess s _)
  · exact modeHeld_steady.same s

theorem modeHeld_execTokenImport (s : State) : Gives ModeHeld s (execTokenImport s) := by
  have steady := modeHeld_steady
  refine steady.takeCustody fun _ u free => steady.readCustody fun f => steady.pastSlotGate fun passes i =>
    steady.refuseOr ?_
  split
  · exact steady.refuse u _ _
  · split
    · exact .next (steady.reply u _ _)
    · exact .next (modeHeld_startProcess (free.operational passes))

theorem modeHeld_endImport {s : State} (mode : s.mode = .operational) (i : SlotId) (t : Token) (b : Bool) (n : Nat)
    (key : KeyValue) (c : CheckValue) : ModeHeld s (s.endImport i t b n key c) := by
  unfold State.endImport
  split
  · exact (modeHeld_writeSlot mode i _ 0 none).trans (modeHeld_endProcess _ _)
  · exact modeHeld_endProcess s _

theorem modeHeld_execTokenImportOperationEnd (s : State) : Gives ModeHeld s (execTokenImportOperationEnd s) := by
  unfold execTokenImportOperationEnd
  split
  · rename_i g i t b n k1 k2 engine now
    refine Gives.assuming fun h => ?_
    have mode : s.mode = .operational := h.home now
    split
    · exact .fault s _
    · split
      · exact .next (modeHeld_nextOp mode)
      · exact .next (modeHeld_nextOp mode)
      · exact .next (modeHeld_endImport mode _ _ _ _ _ _)
      · exact .next (modeHeld_endImport mode _ _ _ _ _ _)
  · exact modeHeld_steady.same s

/-! ### Warrants -/

theorem modeHeld_execWarrantOpen (s : State) : Gives ModeHeld s (execWarrantOpen s) := by
  have steady := modeHeld_steady
  refine steady.takeCustody fun _ u _ => steady.readCustody fun f => steady.served ?_
  split
  · exact steady.refuse u _ _
  · split
    · exact steady.refuse u _ _
    · exact .next ((modeHeld_addWarrant u _).trans (steady.reply _ _ _))

theorem modeHeld_execWarrantHold (s : State) : Gives ModeHeld s (execWarrantHold s) := by
  have steady := modeHeld_steady
  refine steady.takeCustody fun _ u _ => steady.readCustody fun _ => steady.withWarrant fun w => steady.refuseOr ?_
  exact .next ((modeHeld_setWarrant u _ _).trans (steady.reply _ _ _))

theorem modeHeld_execWarrantRelease (s : State) : Gives ModeHeld s (execWarrantRelease s) := by
  have steady := modeHeld_steady
  refine steady.takeCustody fun _ u _ => steady.readCustody fun _ => steady.withWarrant fun w => steady.refuseOr ?_
  exact .next ((modeHeld_setWarrant u _ _).trans (steady.reply _ _ _))

theorem modeHeld_execWarrantExtend (s : State) : Gives ModeHeld s (execWarrantExtend s) := by
  have steady := modeHeld_steady
  refine steady.takeCustody fun _ u _ => steady.readCustody fun f => steady.withWarrant fun w => ?_
  exact steady.refuseOr (steady.refuseOr (.next ((modeHeld_setWarrant u _ _).trans (steady.reply _ _ _))))

theorem modeHeld_execWarrantClose (s : State) : Gives ModeHeld s (execWarrantClose s) := by
  have steady := modeHeld_steady
  refine steady.takeCustody fun _ u _ => steady.readCustody fun _ => steady.withWarrant fun w => steady.refuseOr ?_
  exact .next (((modeHeld_setWarrant u _ _).trans (modeHeld_setRefs _ w.master _)).trans (steady.reply _ _ _))

theorem modeHeld_execWarrantPurge (s : State) : Gives ModeHeld s (execWarrantPurge s) := by
  have steady := modeHeld_steady
  refine steady.takeCustody fun _ u _ => steady.readCustody fun _ => steady.withWarrant fun w => steady.refuseOr ?_
  have purges : ModeHeld u (u.removeWarrant w.id) := .of_parts (by simp)
  exact .next (purges.trans (steady.reply _ _ _))

theorem modeHeld_execWarrantStatus (k : Link) (s : State) : Gives ModeHeld s (execWarrantStatus k s) := by
  have steady := modeHeld_steady
  cases k with
  | custody =>
    unfold execWarrantStatus
    refine steady.takeCustody fun _ u _ => steady.readCustody fun _ => steady.withWarrant fun _ => ?_
    exact .next (steady.reply u _ _)
  | lane l =>
    unfold execWarrantStatus
    exact steady.takeLane (modeHeld_serveLane s l)

theorem modeHeld_execWarrantList (s : State) : Gives ModeHeld s (execWarrantList s) :=
  modeHeld_steady.takeCustody fun _ u _ => modeHeld_steady.readCustody fun _ => modeHeld_steady.served
    (.next (modeHeld_steady.reply u _ _))

/-! ### Lanes and the engine -/

theorem modeHeld_execLaneBind (s : State) : Gives ModeHeld s (execLaneBind s) := by
  have steady := modeHeld_steady
  refine steady.takeCustody fun _ u _ => steady.readCustody fun f => steady.served ?_
  split
  · exact steady.refuse u _ _
  · refine steady.refuseOr ?_
    split
    · exact steady.refuse u _ _
    · exact .next (((modeHeld_moveRefs u _ _).trans (modeHeld_setLane _ _ _)).trans (steady.reply _ _ _))

theorem modeHeld_execLaneUnbind (s : State) : Gives ModeHeld s (execLaneUnbind s) := by
  have steady := modeHeld_steady
  refine steady.takeCustody fun _ u _ => steady.readCustody fun _ => steady.served ?_
  split
  · exact steady.refuse u _ _
  · dsimp only
    split
    · exact steady.refuse u _ _
    · exact steady.refuseOr
        (.next (((modeHeld_setRefs u _ _).trans (modeHeld_setLane _ _ _)).trans (steady.reply _ _ _)))

theorem modeHeld_execSetQuantum (s : State) : Gives ModeHeld s (execSetQuantum s) := by
  have steady := modeHeld_steady
  refine steady.takeCustody fun _ u _ => steady.readCustody fun v => steady.refuseOr ?_
  have sets : ModeHeld u { u with quantum := quantumOf v.toNat } := .of_parts (by simp)
  exact .next (sets.trans (steady.reply _ _ _))

theorem modeHeld_engine (s : State) (e : Engine) : ModeHeld s { s with engine := e } := .of_parts (by simp)

theorem modeHeld_execRunStop (stop : Stop) (s : State) : Gives ModeHeld s (execRunStop stop s) := by
  refine modeHeld_steady.guarded ?_
  obtain e | ⟨g, n, m, _, _, _, _, _, e⟩ := s.takeStop_cases stop
  · rw [e]; exact .next (modeHeld_runStop s _)
  · rw [e]; exact .next (modeHeld_engine s _)

theorem modeHeld_execRun (l : LaneId) (s : State) : Gives ModeHeld s (execRun l s) :=
  modeHeld_steady.takeLane (modeHeld_serveLane s l)

theorem modeHeld_execLaneStatus (l : LaneId) (s : State) : Gives ModeHeld s (execLaneStatus l s) :=
  modeHeld_steady.takeLane (modeHeld_serveLane s l)

theorem modeHeld_choose (s : State) : ModeHeld s s.choose := .of_parts (by simp)

/-- A grant just given begins its walk (R87). -/
theorem modeHeld_execGrant (s : State) : Gives ModeHeld s (execGrant s) := by
  have walks {u : State} (given : ModeHeld s u) : Gives ModeHeld s (match u.engine with
      | .lane g => match g.stage with
        | .opening => .next (u.walkOn g)
        | .deriving _ _ => .next u
        | .checking _ _ _ => .next u
        | .keystream _ _ _ _ => .next u
        | .withheld => .next u
      | .idle => .next u
      | .custody _ => .next u) := by
    split
    · split
      · exact .next (given.trans (modeHeld_walkOn u _))
      all_goals exact .next given
    · exact .next given
    · exact .next given
  unfold execGrant
  split
  · exact modeHeld_steady.same s
  · refine walks ?_
    split
    · exact modeHeld_choose s
    · exact id
    · exact id

theorem modeHeld_execCardKeyDerivationEnd (s : State) : Gives ModeHeld s (execCardKeyDerivationEnd s) := by
  unfold execCardKeyDerivationEnd
  split
  · split
    · exact .next (modeHeld_engine s _)
    · exact .fault s _
    all_goals exact modeHeld_steady.same s
  · exact modeHeld_steady.same s
  · exact modeHeld_steady.same s

theorem modeHeld_execCardCheckValueEnd (s : State) : Gives ModeHeld s (execCardCheckValueEnd s) := by
  unfold execCardCheckValueEnd
  split
  · split
    · exact .next (modeHeld_engine s _)
    · exact .fault s _
    all_goals exact modeHeld_steady.same s
  · exact modeHeld_steady.same s
  · exact modeHeld_steady.same s

theorem modeHeld_execKeystreamBlockEnd (s : State) : Gives ModeHeld s (execKeystreamBlockEnd s) := by
  unfold execKeystreamBlockEnd
  split
  · split
    · split
      · exact modeHeld_steady.same s
      · exact .next ((modeHeld_completeEntry s _ _ _).trans (modeHeld_walkOn _ _))
    · exact .fault s _
    all_goals exact modeHeld_steady.same s
  · exact modeHeld_steady.same s
  · exact modeHeld_steady.same s

/-! ### Links -/

theorem modeHeld_execRequestTransfer (k : Link) (x : Shifted) (s : State) :
    Gives ModeHeld s (execRequestTransfer k x s) := by
  have shifts : ModeHeld s (s.shiftOut k (List.replicate x.bytes.length 0)) := modeHeld_setLink s k _
  refine modeHeld_steady.guarded (.next (shifts.trans ?_))
  unfold State.receiveTransfer
  split
  · exact modeHeld_receive _ k _
  · exact modeHeld_setLink _ k _

theorem modeHeld_execCollectBegin (k : Link) (s : State) : Gives ModeHeld s (execCollectBegin k s) :=
  modeHeld_steady.guarded (.next (modeHeld_setLink s k _))

theorem modeHeld_execCollectEnd (k : Link) (clocked cut : Nat) (s : State) :
    Gives ModeHeld s (execCollectEnd k clocked cut s) := by
  unfold execCollectEnd
  split
  · exact modeHeld_steady.same s
  · dsimp only
    split
    · exact .next (modeHeld_setLink s k _)
    · exact .next ((modeHeld_setLink s k _).trans (modeHeld_handOn _ k _))

theorem modeHeld_execUnknownRequest (k : Link) (s : State) : Gives ModeHeld s (execUnknownRequest k s) := by
  have steady := modeHeld_steady
  cases k with
  | custody =>
    unfold execUnknownRequest
    dsimp only
    split
    · exact steady.same s
    · split
      · exact steady.same s
      · exact steady.takeCustody fun _ u _ => steady.refuse u _ _
  | lane l =>
    unfold execUnknownRequest
    exact steady.takeLane (modeHeld_serveLane s l)

theorem modeHeld_execLinkClear (s : State) : Gives ModeHeld s (execLinkClear s) :=
  modeHeld_steady.guarded (.next (modeHeld_setLink s _ _))

theorem modeHeld_execLaneClear (l : LaneId) (s : State) : Gives ModeHeld s (execLaneClear l s) :=
  modeHeld_steady.guarded (.next (modeHeld_setLink s _ _))

theorem modeHeld_execDeviceStatus (s : State) : Gives ModeHeld s (execDeviceStatus s) :=
  modeHeld_steady.takeCustody fun _ u _ => modeHeld_steady.readCustody fun _ => .next (modeHeld_steady.reply u _ _)

/-! ### The Tamper Monitor and the erase -/

theorem modeHeld_execTamperSetup (raw : BitVec 6) (s : State) : Gives ModeHeld s (execTamperSetup raw s) := by
  have steady := modeHeld_steady
  refine steady.takeCustody fun _ u _ => steady.readCustody fun _ => steady.gated ?_
  split
  · exact steady.refuse u _ _
  · exact .next (ModeHeld.trans (modeHeld_tamper u (by rfl)) (steady.reply _ _ _))

/-- An acknowledged erase leaves an empty part empty (R147). -/
theorem modeHeld_acknowledge {s : State} (free : s.custody.process = none) (mode : s.mode = .locked) :
    ModeHeld s { s with tamper := s.tamper.acknowledge, mode := .uninitialised } := fun h => by
  have settled := h.settled (by rw [mode]; rfl)
  exact .of_settled ⟨settled.pending, settled.marker, settled.supply, settled.units, settled.written⟩ rfl nofun
    (fun _ => h.clear (.inr mode)) fun p now => by cases free.symm.trans now

theorem modeHeld_execTamperAck (s : State) : Gives ModeHeld s (execTamperAck s) := by
  have steady := modeHeld_steady
  refine steady.takeCustody fun _ u free => steady.readCustody fun _ => steady.gated ?_
  split
  · rename_i mode
    exact steady.refuseOr (.next ((modeHeld_acknowledge free.process mode).trans (steady.reply _ _ _)))
  · exact .next (ModeHeld.trans (modeHeld_tamper u (by rfl)) (steady.reply _ _ _))

theorem modeHeld_execTamperInputEdge (i : InputId) (samples : List Level) (s : State) :
    Gives ModeHeld s (execTamperInputEdge i samples s) :=
  modeHeld_steady.guarded (.next (modeHeld_steady.foldl (fun u v => modeHeld_sampleInput u i v) s samples))

/-- A completed erase leaves an empty part, LOCKED, with no unit overwritten (R142). -/
theorem modeHeld_execEraseComplete (s : State) : Gives ModeHeld s (execEraseComplete s) := by
  unfold execEraseComplete
  split
  · rename_i mode
    refine .next fun h => ?_
    have free := h.free (by rw [mode]; rfl)
    exact .of_settled ⟨rfl, h.valid (.inr mode), h.supply (by rw [mode]; rfl), rfl, rfl⟩ rfl nofun
      (fun _ => ⟨⟨rfl, rfl⟩, fun i => by rw [ofFn_get]; rfl⟩) fun p now => by cases free.symm.trans now
  · exact modeHeld_steady.same s

/-- Every threshold of the supply monitor is above the stop level (R136, R150). -/
theorem stopLevel_le_thresholdMv (i : Fin 8) : stopLevel ≤ thresholdMv i := by
  unfold thresholdMv stopLevel
  split <;> decide

theorem modeHeld_execSupplyAboveThreshold (mv : Nat) (s : State) :
    Gives ModeHeld s (execSupplyAboveThreshold mv s) := by
  unfold execSupplyAboveThreshold
  split
  · rename_i above
    have level : stopLevel ≤ mv := by
      simp only [Bool.and_eq_true, decide_eq_true_eq] at above
      exact (stopLevel_le_thresholdMv _).trans above.2.le
    split
    · exact .next (ModeHeld.trans (modeHeld_vmain fun _ => level) (modeHeld_tamper _ (by rfl)))
    · exact .next (modeHeld_vmain fun _ => level)
  · exact modeHeld_steady.same s

theorem modeHeld_execSupplyBelowThreshold (mv : Nat) (s : State) :
    Gives ModeHeld s (execSupplyBelowThreshold mv s) := by
  unfold execSupplyBelowThreshold
  split
  · rename_i below
    have level : stopLevel ≤ mv := by
      simp only [Bool.and_eq_true, decide_eq_true_eq] at below
      exact below.1.2
    split
    · exact .next (ModeHeld.trans (modeHeld_vmain fun _ => level) (modeHeld_tamper _ (by rfl)))
    · exact .next (modeHeld_vmain fun _ => level)
  · exact modeHeld_steady.same s

theorem modeHeld_execSupplyTimerExpiry (s : State) : Gives ModeHeld s (execSupplyTimerExpiry s) :=
  modeHeld_steady.guarded (.next (ModeHeld.trans (modeHeld_tamper s (by rfl)) (modeHeld_tamperEvent _ _ _)))

/-! ### Stopping and starting -/

theorem modeHeld_stopIfRunning (s : State) (cut : SweepCut) :
    ModeHeld s (if s.mode.running then s.stopLogic cut else s) := by
  split
  · exact modeHeld_stopLogic s cut
  · exact id

theorem State.stopIfRunning_mode (s : State) (cut : SweepCut) :
    (if s.mode.running then s.stopLogic cut else s).mode = .stopped := by
  split
  · rfl
  · rename_i out
    exact Mode.eq_stopped (Bool.eq_false_iff.2 out)

theorem modeHeld_execMainSupplyLoss (mv : Nat) (cut : SweepCut) (s : State) :
    Gives ModeHeld s (execMainSupplyLoss mv cut s) := by
  refine modeHeld_steady.guarded (.next (((modeHeld_stopIfRunning s cut).trans (modeHeld_vmain ?_)).trans
    (modeHeld_keepDomain _)))
  rw [s.stopIfRunning_mode cut]
  nofun

theorem modeHeld_resetHeld (s : State) (b : Bool) : ModeHeld s { s with resetHeld := b } :=
  .of_parts (by simp)

theorem modeHeld_execResetAssert (cut : SweepCut) (s : State) : Gives ModeHeld s (execResetAssert cut s) :=
  modeHeld_steady.guarded (.next ((modeHeld_stopIfRunning s cut).trans (modeHeld_resetHeld _ true)))

theorem modeHeld_execMainSupplyRise (mv : Nat) (s : State) : Gives ModeHeld s (execMainSupplyRise mv s) := by
  unfold execMainSupplyRise
  split
  · rename_i rising
    obtain ⟨_, _, above⟩ := rising
    have rises : ModeHeld s { s with vmain := mv } := modeHeld_vmain fun _ => above.le
    dsimp only
    split
    · exact .next rises
    · exact .next (rises.trans (modeHeld_enterStarting above.le))
  · exact modeHeld_steady.same s

theorem modeHeld_execResetRelease (s : State) : Gives ModeHeld s (execResetRelease s) := by
  have releases := modeHeld_resetHeld s false
  refine modeHeld_steady.guarded ?_
  dsimp only
  split
  · rename_i above
    exact .next (releases.trans (modeHeld_enterStarting above.le))
  · exact .next releases

/-- The marker tells a clearing, an erase and a sweep apart (R151, R153, R155). -/
theorem modeHeld_execValidityCheck (raw : BitVec 6) (s : State) : Gives ModeHeld s (execValidityCheck raw s) := by
  unfold execValidityCheck
  split
  · rename_i mode
    refine Gives.assuming fun h => ?_
    have supply : stopLevel ≤ s.vmain := h.supply (by rw [mode]; rfl)
    have written : s.passes.written = 0 := h.passes (by rw [mode]; nofun)
    have free : s.custody.process = none := h.free (by rw [mode]; rfl)
    split
    · rename_i invalid
      have lost : s.marker ≠ Config.marker := by simpa [State.markerValid] using invalid
      exact .next fun _ => .of_out (.inr ⟨_, rfl⟩) (fun valid => absurd valid lost) (fun valid => absurd valid lost)
        written free nofun (fun _ => lost) fun _ => supply
    · rename_i valid
      have marker : s.marker = Config.marker := by simpa [State.markerValid] using valid
      split
      · exact .next fun _ => .eraseBegin marker supply
      · exact .next fun _ => .of_out (.inr ⟨_, rfl⟩) h.keysHeld h.records written free (fun _ => marker) nofun
          fun _ => supply
  · exact modeHeld_steady.same s

/-- A battery-loss clearing leaves an empty part, in a valid domain with no unit overwritten (R151). -/
theorem modeHeld_execBatteryLossClearingEnd (s : State) : Gives ModeHeld s (execBatteryLossClearingEnd s) := by
  unfold execBatteryLossClearingEnd
  split
  · rename_i mode
    refine Gives.assuming fun h => ?_
    have supply : stopLevel ≤ s.vmain := h.supply (by rw [mode]; rfl)
    have free : s.custody.process = none := h.free (by rw [mode]; rfl)
    split
    · exact .next fun _ => .eraseBegin rfl (by simpa using supply)
    · rename_i quiet
      exact .next fun _ => .of_settled ⟨by simpa using quiet, rfl, by simpa using supply, rfl, rfl⟩ rfl nofun
        (fun _ => ⟨⟨rfl, rfl⟩, fun i => by simp only [State.clearDomain, ofFn_get]; rfl⟩) fun p now => by
          rw [State.clearDomain_custody] at now
          cases free.symm.trans now
  · exact modeHeld_steady.same s

/-- After a sweep the storage keys and the causes tell the device state (R155). -/
theorem modeHeld_afterSweep {s : State} (mode : s.mode = .starting .sweep) : ModeHeld s s.afterSweep := fun h => by
  have marker : s.marker = Config.marker := h.sweep mode
  have free : s.custody.process = none := h.free (by rw [mode]; rfl)
  have out (m : Mode) : ∀ p, s.custody.process = some p → m = p.home := fun p now => by cases free.symm.trans now
  unfold State.afterSweep
  split
  · exact .eraseBegin marker (h.supply (by rw [mode]; rfl))
  · rename_i quiet
    obtain ⟨pending, marker, supply, units, written⟩ := h.settled_of_sweep mode (Bool.eq_false_iff.2 quiet)
    split
    · rename_i present
      exact .of_settled ⟨pending, marker, supply, units, written⟩ rfl (fun _ => present) nofun (out _)
    · rename_i absent
      have empty := h.keysHeld marker pending (by simpa using absent)
      split
      · exact .of_settled ⟨pending, marker, supply, units, written⟩ rfl nofun (fun _ => empty) (out _)
      · exact .of_settled ⟨pending, marker, supply, units, written⟩ rfl nofun (fun _ => empty) (out _)

theorem modeHeld_execSweepEnd (s : State) : Gives ModeHeld s (execSweepEnd s) := by
  unfold execSweepEnd
  split
  · rename_i mode
    exact .next ((modeHeld_sweepFirst s 6).trans (modeHeld_afterSweep (by rw [State.sweepFirst_mode, mode])))
  · exact modeHeld_steady.same s

theorem modeHeld_battery (s : State) (b : Bool) : ModeHeld s { s with battery := b } :=
  .of_parts (by simp)

theorem modeHeld_execBackupBatteryFailure (b : Bool) (s : State) : Gives ModeHeld s (execBackupBatteryFailure b s) :=
  .next (((modeHeld_battery s false).trans (modeHeld_keepDomain _)).trans (modeHeld_battery _ b))

/-! ### Every step -/

theorem modeHeld_exec (c : Instr) (s : State) (sound : ∀ i b n w, c ≠ .batteryBackedMemoryFault i b n w) :
    Gives ModeHeld s (exec c s) := by
  cases c with
  | requestTransfer k x => exact modeHeld_execRequestTransfer k x s
  | collectBegin k => exact modeHeld_execCollectBegin k s
  | collectEnd k clocked cut => exact modeHeld_execCollectEnd k clocked cut s
  | unknownRequest k => exact modeHeld_execUnknownRequest k s
  | slotStatus => exact modeHeld_execSlotStatus s
  | slotErase => exact modeHeld_execSlotErase s
  | assemble => exact modeHeld_execAssemble s
  | component => exact modeHeld_execComponent s
  | componentCheckEnd => exact modeHeld_execComponentCheckEnd s
  | finalCheckEnd => exact modeHeld_execFinalCheckEnd s
  | assemblyCancel => exact modeHeld_execAssemblyCancel s
  | custodySwitchChange samples => exact modeHeld_execCustodySwitchChange samples s
  | initialise => exact modeHeld_execInitialise s
  | initialisePatternEnd => exact modeHeld_execInitialisePatternEnd s
  | storageRoll => exact modeHeld_execStorageRoll s
  | storageRollPatternEnd => exact modeHeld_execStorageRollPatternEnd s
  | tokenExport => exact modeHeld_execTokenExport s
  | tokenExportOperationEnd => exact modeHeld_execTokenExportOperationEnd s
  | tokenImport => exact modeHeld_execTokenImport s
  | tokenImportOperationEnd => exact modeHeld_execTokenImportOperationEnd s
  | warrantOpen => exact modeHeld_execWarrantOpen s
  | warrantHold => exact modeHeld_execWarrantHold s
  | warrantRelease => exact modeHeld_execWarrantRelease s
  | warrantExtend => exact modeHeld_execWarrantExtend s
  | warrantClose => exact modeHeld_execWarrantClose s
  | warrantPurge => exact modeHeld_execWarrantPurge s
  | warrantStatus k => exact modeHeld_execWarrantStatus k s
  | warrantList => exact modeHeld_execWarrantList s
  | laneBind => exact modeHeld_execLaneBind s
  | laneUnbind => exact modeHeld_execLaneUnbind s
  | setQuantum => exact modeHeld_execSetQuantum s
  | tamperSetup raw => exact modeHeld_execTamperSetup raw s
  | tamperAck => exact modeHeld_execTamperAck s
  | deviceStatus => exact modeHeld_execDeviceStatus s
  | linkClear => exact modeHeld_execLinkClear s
  | run l => exact modeHeld_execRun l s
  | laneStatus l => exact modeHeld_execLaneStatus l s
  | runStop stop => exact modeHeld_execRunStop stop s
  | laneClear l => exact modeHeld_execLaneClear l s
  | grant => exact modeHeld_execGrant s
  | cardKeyDerivationEnd => exact modeHeld_execCardKeyDerivationEnd s
  | cardCheckValueEnd => exact modeHeld_execCardCheckValueEnd s
  | keystreamBlockEnd => exact modeHeld_execKeystreamBlockEnd s
  | tamperInputEdge i samples => exact modeHeld_execTamperInputEdge i samples s
  | eraseComplete => exact modeHeld_execEraseComplete s
  | supplyAboveThreshold mv => exact modeHeld_execSupplyAboveThreshold mv s
  | supplyBelowThreshold mv => exact modeHeld_execSupplyBelowThreshold mv s
  | supplyTimerExpiry => exact modeHeld_execSupplyTimerExpiry s
  | mainSupplyLoss mv cut => exact modeHeld_execMainSupplyLoss mv cut s
  | resetAssert cut => exact modeHeld_execResetAssert cut s
  | mainSupplyRise mv => exact modeHeld_execMainSupplyRise mv s
  | resetRelease => exact modeHeld_execResetRelease s
  | validityCheck raw => exact modeHeld_execValidityCheck raw s
  | batteryLossClearingEnd => exact modeHeld_execBatteryLossClearingEnd s
  | sweepEnd => exact modeHeld_execSweepEnd s
  | backupBatteryFailure b => exact modeHeld_execBackupBatteryFailure b s
  | batteryBackedMemoryFault i b n w => exact absurd rfl (sound i b n w)

/-- So does every step: that of a command, and the passes' next write with none waiting. -/
theorem modeHeld_step {s t : State} (sound : MemorySound s) (h : step s = .next t) : ModeHeld s t := by
  cases hp : s.pending with
  | nil =>
    rw [step_of_nil hp] at h
    obtain rfl := Host.Outcome.next.inj h
    by_cases mode : s.mode = .erasing
    · rw [State.tick_erasing mode]; exact modeHeld_overwriteNext mode
    · rw [State.tick_idle mode]; exact id
  | cons c cs =>
    simp only [step, hp] at h
    have takes : ModeHeld s (s.withPending cs) := .of_parts (by simp)
    exact takes.trans (modeHeld_exec c _ (fun i b n w e => sound i b n w (by rw [hp, e]; rfl)) t h)

/-- Settles O53: every shared operation keeps the law, or is made in a device state whose law holds after it. -/
theorem modeLawIsKept : Obligations.ModeLawIsKept := fun _ _ h sound e => modeHeld_step sound e h

end Sys2Proof.Machine
end

section
/-! SUPPORT. What a step can make of the warrant table and of the entry in progress (R55, R56, R57, R69): records stay with their
terms, and an entry is begun under an OPEN warrant only. Each shared operation keeps the law of warrants with it. -/

namespace Sys2Proof.Machine

/-! ### The entry in progress -/

/-- The record an entry in progress is for, by its serial number (R71). -/
def State.entryTie (s : State) : Option Nat :=
  match s.engine with
  | .lane g => if g.stage.inEntry then s.lanes[g.lane].run.map Run.tie else none
  | .idle => none
  | .custody _ => none

theorem State.entryTie_eq_some {s : State} {k : Nat} : s.entryTie = some k ↔
    ∃ g r, s.engine = .lane g ∧ g.stage.inEntry = true ∧ s.lanes[g.lane].run = some r ∧ r.tie = k := by
  unfold State.entryTie
  cases s.engine with
  | idle => simp
  | custody g => simp
  | lane g => simp [-Fin.getElem_fin]

theorem State.entryTie_of_idle {s : State} (engine : s.engine = .idle) : s.entryTie = none := by
  simp only [State.entryTie, engine]

/-- The entry in progress is seen in the engine and in the ties of the runs. -/
theorem State.entryTie_congr {s t : State} (engine : t.engine = s.engine)
    (ties : ∀ l : LaneId, t.lanes[l].run.map Run.tie = s.lanes[l].run.map Run.tie) : t.entryTie = s.entryTie := by
  simp only [State.entryTie, engine, ties]

/-- A warrant of this serial number has a card for the entry in progress, or for one to begin: it is that of the entry in
progress, or it is OPEN (R69, R88). -/
def State.HasCard (s : State) (k : Nat) : Prop :=
  s.entryTie = some k ∨ ∃ w ∈ s.warrants, w.serial = k ∧ w.state = .opened

theorem WarrantLaw.serial_inj {s : State} (h : WarrantLaw s) {v w : Warrant} (hv : v ∈ s.warrants) (hw : w ∈ s.warrants)
    (same : v.serial = w.serial) : v = w := by
  exact List.inj_on_of_nodup_map (List.pairwise_map.2 h.serials) hv hw same

theorem WarrantLaw.hasCard {s : State} (h : WarrantLaw s) {k : Nat} (card : s.HasCard k) {w : Warrant} (hw : w ∈ s.warrants)
    (serial : w.serial = k) : w.delivered < w.total := by
  obtain entry | ⟨v, hv, tied, state⟩ := card
  · obtain ⟨g, r, engine, stage, run, tie⟩ := State.entryTie_eq_some.1 entry
    exact h.entry g r engine stage run w hw (serial.trans tie.symm)
  · obtain rfl := h.serial_inj hv hw (tied.trans serial.symm)
    exact (h.records v hv).unspent (.inl state)

/-- The clause of the law on the entry in progress. -/
theorem WarrantLaw.of_entryTie {s : State} (records : ∀ w ∈ s.warrants, w.Lawful) (room : s.warrants.length ≤ 32)
    (ids : s.warrants.Pairwise fun a b => a.id < b.id) (serials : s.warrants.Pairwise fun a b => a.serial ≠ b.serial)
    (fresh : ∀ w ∈ s.warrants, w.serial < s.nextSerial)
    (entry : ∀ k, s.entryTie = some k → ∀ w ∈ s.warrants, w.serial = k → w.delivered < w.total) : WarrantLaw s where
  records := records
  room := room
  ids := ids
  serials := serials
  fresh := fresh
  entry g r engine stage run := entry r.tie (State.entryTie_eq_some.2 ⟨g, r, engine, stage, run, rfl⟩)

/-! ### The records -/

/-- What a step can make of a record that stays in the table, with at most `n` cards delivered under it (R55, R57). -/
structure Warrant.Follows (n : Nat) (v w : Warrant) : Prop where
  serial : w.serial = v.serial
  id : w.id = v.id
  issuer : w.issuer = v.issuer
  master : w.master = v.master
  digits : w.digits = v.digits
  lanes : w.lanes = v.lanes
  total : v.total ≤ w.total
  delivered : v.delivered ≤ w.delivered
  cards : w.delivered ≤ v.delivered + n
  closed : ∀ r, v.state = .closed r → w.state = .closed r
  lawful : v.Lawful → w.Lawful

theorem Warrant.Follows.refl (n : Nat) (v : Warrant) : v.Follows n v :=
  ⟨rfl, rfl, rfl, rfl, rfl, rfl, le_rfl, le_rfl, Nat.le_add_right _ _, fun _ e => e, fun h => h⟩

theorem Warrant.Follows.trans {m n : Nat} {u v w : Warrant} (h : u.Follows m v) (k : v.Follows n w) : u.Follows (m + n) w where
  serial := k.serial.trans h.serial
  id := k.id.trans h.id
  issuer := k.issuer.trans h.issuer
  master := k.master.trans h.master
  digits := k.digits.trans h.digits
  lanes := k.lanes.trans h.lanes
  total := h.total.trans k.total
  delivered := h.delivered.trans k.delivered
  cards := by have := h.cards; have := k.cards; omega
  closed r e := k.closed r (h.closed r e)
  lawful := k.lawful ∘ h.lawful

/-- A new state of a live record. -/
theorem Warrant.follows_state {v : Warrant} {x : WarrantState} (live : ∀ r, v.state ≠ .closed r)
    (lawful : v.Lawful → { v with state := x }.Lawful) : v.Follows 0 { v with state := x } :=
  ⟨rfl, rfl, rfl, rfl, rfl, rfl, le_rfl, le_rfl, le_rfl, fun r e => absurd e (live r), lawful⟩

theorem Warrant.live_ne_closed {v : Warrant} (live : v.live = true) (r : CloseReason) : v.state ≠ .closed r := by
  intro e
  simp [Warrant.live, e] at live

/-- A closed record's counts are free of the law's tighter bounds (R57). -/
theorem Warrant.follows_close {v : Warrant} (live : v.live = true) (r : CloseReason) :
    v.Follows 0 { v with state := .closed r } :=
  Warrant.follows_state (Warrant.live_ne_closed live) fun h => ⟨h.total, h.delivered, nofun, nofun⟩

theorem Warrant.follows_closeLive (v : Warrant) (r : CloseReason) : v.Follows 0 (v.closeLive r) := by
  unfold Warrant.closeLive
  split
  · rename_i live; exact Warrant.follows_close live r
  · exact .refl 0 v

/-- Hold and release exchange the two states of a record with cards left (R62, R63). -/
theorem Warrant.follows_hold {v : Warrant} (state : v.state = .opened) : v.Follows 0 { v with state := .held } :=
  Warrant.follows_state (by simp [state]) fun h => ⟨h.total, h.delivered, fun _ => h.unspent (.inl state), nofun⟩

theorem Warrant.follows_release {v : Warrant} (state : v.state = .held) : v.Follows 0 { v with state := .opened } :=
  Warrant.follows_state (by simp [state]) fun h => ⟨h.total, h.delivered, fun _ => h.unspent (.inr state), nofun⟩

/-- The debit in the terms of the statements (R69). -/
theorem Warrant.debit_eq_debited (v : Warrant) : v.debit = v.debited := by
  unfold Warrant.debit Warrant.debited
  cases state : v.state <;> simp

/-- The extend in the terms of the statements (R64). -/
theorem Warrant.extend_eq (v : Warrant) (add : Nat) :
    v.extend add =
      { v with
        total := min (v.total + add) 1000000
        state :=
          if v.state = .exhausted ∧ v.delivered < min (v.total + add) 1000000 then .opened else v.state } := by
  unfold Warrant.extend extendedTotal maxTotal
  cases state : v.state <;> simp

/-- An extend raises the total of a lawful record, and opens an EXHAUSTED one with cards again (R64). -/
theorem Warrant.follows_extend {v : Warrant} (h : v.Lawful) (add : Nat) : v.Follows 0 (v.extend add) := by
  rw [Warrant.extend_eq]
  obtain ⟨⟨low, high⟩, delivered, unspent, spent⟩ := h
  have raised : v.total ≤ min (v.total + add) 1000000 := Nat.le_min.2 ⟨Nat.le_add_right _ _, high⟩
  refine ⟨rfl, rfl, rfl, rfl, rfl, rfl, raised, le_rfl, le_rfl, fun r e => by simp [e], fun _ =>
    ⟨⟨low.trans raised, Nat.min_le_right _ _⟩, delivered.trans raised, fun e => ?_, fun e => ?_⟩⟩
  · by_cases again : v.state = .exhausted ∧ v.delivered < min (v.total + add) 1000000
    · exact again.2
    · exact (unspent (by simpa only [if_neg again] using e)).trans_le raised
  · by_cases again : v.state = .exhausted ∧ v.delivered < min (v.total + add) 1000000
    · simp only [if_pos again] at e
      cases e
    · simp only [if_neg again] at e
      exact le_antisymm (delivered.trans raised) (not_lt.1 fun room => again ⟨e, room⟩)

/-- The debit of a record with a card left (R69). -/
theorem Warrant.follows_debit {v : Warrant} (card : v.delivered < v.total) : v.Follows 1 v.debit := by
  rw [Warrant.debit_eq_debited]
  refine ⟨rfl, rfl, rfl, rfl, rfl, rfl, le_rfl, Nat.le_succ _, le_rfl, fun r e => by simp [Warrant.debited, e], fun h =>
    ⟨h.total, card, fun e => ?_, fun e => ?_⟩⟩
  · by_cases last : (v.state = .opened ∨ v.state = .held) ∧ v.delivered + 1 = v.total
    · simp only [Warrant.debited, if_pos last] at e
      obtain e | e := e <;> cases e
    · simp only [Warrant.debited, if_neg last] at e
      exact lt_of_le_of_ne card fun full => last ⟨e, full⟩
  · by_cases last : (v.state = .opened ∨ v.state = .held) ∧ v.delivered + 1 = v.total
    · exact last.2
    · simp only [Warrant.debited, if_neg last] at e
      exact absurd (h.spent e) card.ne

/-! ### The table -/

/-- What keeps the law of warrants and, of every record that stays, its terms: at most `n` cards are delivered under one, and a
record that was not there has a serial number not given before (R55, R56, R57). -/
structure TermsKept (n : Nat) (s t : State) : Prop where
  law : WarrantLaw s → WarrantLaw t
  serials : s.nextSerial ≤ t.nextSerial
  records : WarrantLaw s → ∀ w ∈ t.warrants, (∃ v ∈ s.warrants, v.Follows n w) ∨ s.nextSerial ≤ w.serial

theorem TermsKept.comp {m n : Nat} {s t u : State} (h : TermsKept m s t) (k : TermsKept n t u) :
    TermsKept (m + n) s u where
  law := k.law ∘ h.law
  serials := h.serials.trans k.serials
  records law w hw := by
    obtain ⟨x, hx, later⟩ | new := k.records (h.law law) w hw
    · obtain ⟨v, hv, earlier⟩ | new := h.records law x hx
      · exact .inl ⟨v, hv, earlier.trans later⟩
      · exact .inr (later.serial ▸ new)
    · exact .inr (h.serials.trans new)

theorem TermsKept.trans {n : Nat} {s t u : State} (h : TermsKept n s t) (k : TermsKept 0 t u) : TermsKept n s u := h.comp k

/-- The terms of a record, and the cards delivered under it (R55, R69). -/
theorem TermsKept.terms {n : Nat} {s t : State} (h : TermsKept n s t) (law : WarrantLaw s) {v w : Warrant}
    (hv : v ∈ s.warrants) (hw : w ∈ t.warrants) (same : w.serial = v.serial) : v.Follows n w := by
  obtain ⟨x, hx, follows⟩ | new := h.records law w hw
  · obtain rfl := law.serial_inj hx hv (follows.serial.symm.trans same)
    exact follows
  · exact absurd (law.fresh v hv) (by omega)

/-- The records changed one by one; an entry begins only with a card for it, and never in a step that debits one. -/
theorem TermsKept.of_follows {n : Nat} {s t : State}
    (follows : WarrantLaw s → List.Forall₂ (Warrant.Follows n) s.warrants t.warrants)
    (serial : t.nextSerial = s.nextSerial) (entry : ∀ k, t.entryTie = some k → n = 0 ∧ s.HasCard k) : TermsKept n s t := by
  have before (law : WarrantLaw s) {w : Warrant} (hw : w ∈ t.warrants) : ∃ v ∈ s.warrants, v.Follows n w := by
    obtain ⟨i, hi, rfl⟩ := List.getElem_of_mem hw
    have length := (follows law).length_eq
    exact ⟨_, List.getElem_mem (length ▸ hi), (follows law).get (length ▸ hi) hi⟩
  have images {α : Type} (law : WarrantLaw s) (f : Warrant → α) (keep : ∀ v w, Warrant.Follows n v w → f v = f w) :
      s.warrants.map f = t.warrants.map f := by
    rw [← List.forall₂_eq_eq_eq, List.forall₂_map_left_iff, List.forall₂_map_right_iff]
    exact (follows law).imp keep
  refine ⟨fun law => .of_entryTie ?_ ?_ ?_ ?_ ?_ ?_, serial.ge, fun law w hw => .inl (before law hw)⟩
  · intro w hw
    obtain ⟨v, hv, follows⟩ := before law hw
    exact follows.lawful (law.records v hv)
  · exact (follows law).length_eq ▸ law.room
  · have ids := List.pairwise_map.2 law.ids
    rw [images law Warrant.id fun _ _ h => h.id.symm] at ids
    exact List.pairwise_map.1 ids
  · have serials := List.pairwise_map.2 law.serials
    rw [images law Warrant.serial fun _ _ h => h.serial.symm] at serials
    exact List.pairwise_map.1 serials
  · intro w hw
    obtain ⟨v, hv, follows⟩ := before law hw
    rw [follows.serial, serial]
    exact law.fresh v hv
  · intro k tie w hw same
    obtain ⟨v, hv, follows⟩ := before law hw
    obtain ⟨rfl, card⟩ := entry k tie
    exact (follows.cards.trans_lt (law.hasCard card hv (follows.serial.symm.trans same))).trans_le follows.total

/-- The table as it was; an entry begins only with a card for it. -/
theorem TermsKept.of_entry {s t : State} (warrants : t.warrants = s.warrants) (serial : t.nextSerial = s.nextSerial)
    (entry : ∀ k, t.entryTie = some k → s.HasCard k) : TermsKept 0 s t :=
  .of_follows (fun _ => by rw [warrants]; exact List.forall₂_same.2 fun v _ => .refl 0 v) serial
    fun k tie => ⟨rfl, entry k tie⟩

theorem TermsKept.of_noEntry {s t : State} (warrants : t.warrants = s.warrants) (serial : t.nextSerial = s.nextSerial)
    (none : t.entryTie = none) : TermsKept 0 s t :=
  .of_entry warrants serial fun k tie => by rw [none] at tie; cases tie

theorem TermsKept.of_sameEntry {s t : State} (warrants : t.warrants = s.warrants) (serial : t.nextSerial = s.nextSerial)
    (same : t.entryTie = s.entryTie) : TermsKept 0 s t :=
  .of_entry warrants serial fun _ tie => .inl (same ▸ tie)

/-- What the law of warrants speaks of, but for the runs in the lanes. -/
@[simp] def State.issueParts (s : State) : List Warrant × Nat × Engine × Vector Lane 4 :=
  (s.warrants, s.nextSerial, s.engine, s.lanes)

theorem TermsKept.of_parts {s t : State} (parts : t.issueParts = s.issueParts := by simp) : TermsKept 0 s t := by
  simp only [State.issueParts, Prod.mk.injEq] at parts
  obtain ⟨warrants, serial, engine, lanes⟩ := parts
  exact .of_sameEntry warrants serial (State.entryTie_congr engine fun l => by rw [lanes])

theorem TermsKept.refl (s : State) : TermsKept 0 s s := .of_parts rfl

/-- A step that debits nothing debits at most one card. -/
theorem TermsKept.atMostOne {s t : State} (h : TermsKept 0 s t) : TermsKept 1 s t where
  law := h.law
  serials := h.serials
  records law w hw := (h.records law w hw).imp (fun ⟨v, hv, follows⟩ => ⟨v, hv, follows.trans (.refl 1 w)⟩) fun new => new

/-- One record changed (R62, R63, R64, R65). -/
theorem terms_setWarrant {s : State} {w : Warrant} {f : Warrant → Warrant} (hw : w ∈ s.warrants)
    (follows : w.Lawful → w.Follows 0 (f w)) : TermsKept 0 s (s.setWarrant w.id f) := by
  refine .of_follows (fun law => ?_) rfl fun _ tie => ⟨rfl, .inl tie⟩
  refine List.forall₂_map_right_iff.2 (List.forall₂_same.2 fun v hv => ?_)
  split
  · rename_i same
    obtain rfl : v = w :=
      List.inj_on_of_nodup_map (List.pairwise_map.2 (law.ids.imp Nat.ne_of_lt)) hv hw same
    exact follows (law.records v hv)
  · exact .refl 0 v

/-- Records that leave the table (R66). -/
theorem terms_removeWarrant (s : State) (id : Nat) : TermsKept 0 s (s.removeWarrant id) where
  law law :=
    have sub : List.Sublist (s.removeWarrant id).warrants s.warrants := List.filter_sublist
    .of_entryTie (fun w hw => law.records w (sub.subset hw)) (sub.length_le.trans law.room) (law.ids.sublist sub)
      (law.serials.sublist sub) (fun w hw => law.fresh w (sub.subset hw))
      fun _ tie _ hw same => law.hasCard (.inl tie) (sub.subset hw) same
  serials := le_rfl
  records _ w hw := .inl ⟨w, List.mem_of_mem_filter hw, .refl 0 w⟩

/-- A record that joins the table under a new serial number and an id no record carries, OPEN with all its cards (R56,
R61). -/
theorem terms_addWarrant {s : State} {w : Warrant} (serial : w.serial = s.nextSerial) (lawful : w.Lawful)
    (cards : w.delivered < w.total) (room : s.warrants.length < 32) (new : ∀ x ∈ s.warrants, x.id ≠ w.id) :
    TermsKept 0 s (s.addWarrant w) := by
  have perm := insertWarrant_perm w s.warrants
  have mem {x : Warrant} (hx : x ∈ (s.addWarrant w).warrants) : x = w ∨ x ∈ s.warrants :=
    List.mem_cons.1 (perm.mem_iff.1 hx)
  refine ⟨fun law => .of_entryTie ?_ ?_ ?_ ?_ ?_ ?_, Nat.le_succ _, fun _ x hx => ?_⟩
  · intro x hx
    obtain rfl | hx := mem hx
    · exact lawful
    · exact law.records x hx
  · exact perm.length_eq.trans_le room
  · exact insertWarrant_pairwise law.ids new
  · refine (perm.pairwise_iff fun ne => Ne.symm ne).2 (List.pairwise_cons.2 ⟨fun x hx same => ?_, law.serials⟩)
    exact absurd (law.fresh x hx) (by omega)
  · intro x hx
    obtain rfl | hx := mem hx
    · exact serial ▸ Nat.lt_succ_self _
    · exact (law.fresh x hx).trans (Nat.lt_succ_self _)
  · intro k tie x hx same
    obtain rfl | hx := mem hx
    · exact cards
    · exact law.hasCard (.inl tie) hx same
  · obtain rfl | hx := mem hx
    · exact .inr serial.ge
    · exact .inl ⟨x, hx, .refl 0 x⟩

/-! ### Lanes and links -/

/-- A lane whose run is gone or tied as before. -/
theorem State.entryTie_setLane {s : State} {l : LaneId} {x : Lane} {k : Nat}
    (run : x.run = none ∨ x.run.map Run.tie = s.lanes[l].run.map Run.tie) (tie : (s.setLane l x).entryTie = some k) :
    s.entryTie = some k := by
  obtain ⟨g, r, engine, stage, now, rfl⟩ := State.entryTie_eq_some.1 tie
  by_cases e : l = g.lane
  · subst e
    rw [State.setLane_same] at now
    obtain none | same := run
    · cases none.symm.trans now
    · rw [now, Option.map_some] at same
      obtain ⟨r', before, tied⟩ := Option.map_eq_some_iff.1 same.symm
      exact State.entryTie_eq_some.2 ⟨g, r', engine, stage, before, tied⟩
  · rw [State.setLane_other _ _ _ _ e] at now
    exact State.entryTie_eq_some.2 ⟨g, r, engine, stage, now, rfl⟩

theorem terms_setLane {s : State} {l : LaneId} {x : Lane}
    (run : x.run = none ∨ x.run.map Run.tie = s.lanes[l].run.map Run.tie := by exact .inr rfl) :
    TermsKept 0 s (s.setLane l x) :=
  .of_entry rfl rfl fun _ tie => .inl (State.entryTie_setLane run tie)

theorem terms_setLink (s : State) (k : Link) (x : LinkState) : TermsKept 0 s (s.setLink k x) := by
  cases k with
  | custody => exact .of_parts
  | lane l => exact terms_setLane

theorem termsKept_steady : Steady (TermsKept 0) where
  refl := .refl
  trans := .trans
  reply s k _ := terms_setLink s k _
  popFrame s k := terms_setLink s k _

theorem terms_withdraw (s : State) (r : Requester) : TermsKept 0 s (s.withdraw r) := .of_parts

/-! ### The arbiter -/

/-- A grant that begins has no entry in progress (R87, R125). -/
theorem terms_choose (s : State) : TermsKept 0 s s.choose := by
  obtain ⟨_, e⟩ | ⟨_, e⟩ | ⟨l, _, e⟩ := s.choose_cases
  · rw [e]; exact .refl s
  · rw [e]
    cases process : s.custody.process with
    | none =>
      simp only [State.beginCustodyGrant, State.withdraw_custody, process]
      exact terms_withdraw s _
    | some p =>
      simp only [State.beginCustodyGrant, State.withdraw_custody, process]
      exact .of_noEntry rfl rfl rfl
  · rw [e]
    cases run : s.lanes[l].run with
    | none =>
      simp only [State.beginRunGrant, State.withdraw_lanes, run]
      exact terms_withdraw s _
    | some r =>
      simp only [State.beginRunGrant, State.withdraw_lanes, run]
      exact .of_noEntry (by simp) (by simp) rfl

theorem terms_join (s : State) (r : Requester) : TermsKept 0 s (s.join r) := by
  have enrols : TermsKept 0 s (s.enrol r) := .of_parts rfl
  by_cases idle : s.engine = .idle
  · rw [State.join_of_idle idle]; exact enrols.trans (terms_choose _)
  · rw [State.join_of_busy idle]; exact enrols

theorem terms_release (s : State) : TermsKept 0 s s.release :=
  (TermsKept.of_noEntry (s := s) (t := { s with engine := .idle }) rfl rfl rfl).trans (terms_choose _)

theorem terms_inProcess (s : State) (p : Option Process) : TermsKept 0 s (s.inProcess p) := .of_parts rfl

theorem terms_startProcess (s : State) (p : Process) : TermsKept 0 s (s.startProcess p) :=
  (terms_inProcess s (some p)).trans (terms_join _ _)

theorem terms_endProcess (s : State) (r : Reply) : TermsKept 0 s (s.endProcess r) :=
  ((terms_inProcess s none).trans (termsKept_steady.reply _ _ r)).trans (terms_release _)

theorem terms_nextOp (s : State) (g : CustodyGrant) (p : Process) : TermsKept 0 s (s.nextOp g p) :=
  .of_noEntry rfl rfl rfl

/-! ### Runs -/

theorem terms_runStop (s : State) (l : LaneId) : TermsKept 0 s (s.runStop l) := by
  unfold State.runStop
  dsimp only
  split
  · exact .refl s
  · rename_i r run
    have marks (r' : Run) (tie : r'.tie = r.tie) : TermsKept 0 s (s.setLane l { s.lanes[l] with run := some r' }) :=
      terms_setLane (.inr (by rw [run, Option.map_some, Option.map_some, tie]))
    split
    · exact (terms_setLane (.inl rfl)).trans (terms_withdraw _ (.lane l))
    · exact marks _ rfl
    · split
      · exact .refl s
      · exact marks _ rfl
    · exact .refl s

/-- A RUN is accepted under an OPEN warrant, to which it is tied (R106, R107). -/
theorem State.acceptance_tie {s : State} {l : LaneId} {body : List Byte} {r : Run} (h : s.acceptance l body = .accepted r) :
    ∃ w ∈ s.warrants, w.serial = r.tie ∧ w.state = .opened := by
  unfold State.acceptance at h
  split at h
  · cases h
  · split at h
    · cases h
    · split at h
      · cases h
      · split at h
        · cases h
        · rename_i w found
          split at h
          · cases h
          · split at h
            · cases h
            · split at h
              · cases h
              · rename_i state
                cases h
                exact ⟨w, List.mem_of_find?_eq_some found, rfl, not_not.1 state⟩

/-- A run tied to an OPEN warrant is set in a lane's context. -/
theorem terms_setRun {s : State} {l : LaneId} {r : Run} (card : ∃ w ∈ s.warrants, w.serial = r.tie ∧ w.state = .opened) :
    TermsKept 0 s (s.setLane l { s.lanes[l] with run := some r }) := by
  refine .of_entry rfl rfl fun k tie => ?_
  obtain ⟨g, r', engine, stage, now, rfl⟩ := State.entryTie_eq_some.1 tie
  by_cases e : l = g.lane
  · subst e
    rw [State.setLane_same] at now
    exact .inr (Option.some.inj now ▸ card)
  · rw [State.setLane_other _ _ _ _ e] at now
    exact .inl (State.entryTie_eq_some.2 ⟨g, r', engine, stage, now, rfl⟩)

theorem terms_answerRun (s : State) (l : LaneId) (body : List Byte) : TermsKept 0 s (s.answerRun l body) := by
  unfold State.answerRun
  split
  · exact termsKept_steady.reply s _ _
  · rename_i r accepted
    exact (terms_setRun (State.acceptance_tie accepted)).trans (terms_join _ _)

theorem terms_answerLaneStatus (s : State) (l : LaneId) (body : List Byte) : TermsKept 0 s (s.answerLaneStatus l body) := by
  unfold State.answerLaneStatus
  split <;> exact termsKept_steady.reply s _ _

/-- The reply to the lane form of WARRANT_STATUS (R67). -/
def State.warrantStatusReply (s : State) (l : LaneId) (body : List Byte) : Reply :=
  match readByte body with
  | none => .refused kindWarrantStatus .malformed []
  | some id =>
    match s.serviceRefusal with
    | some code => .refused kindWarrantStatus code []
    | none =>
      if !warrantIdOk id.toNat then .refused kindWarrantStatus .parameter []
      else
        match s.warrantFor l id.toNat with
        | none => .refused kindWarrantStatus .noSuchWarrant []
        | some w => .ok kindWarrantStatus .none w.laneReport

theorem State.answerWarrantStatus_eq (s : State) (l : LaneId) (body : List Byte) :
    s.answerWarrantStatus l body = s.reply (.lane l) (s.warrantStatusReply l body) := by
  unfold State.answerWarrantStatus State.warrantStatusReply
  cases readByte body with
  | none => rfl
  | some id =>
    cases s.serviceRefusal with
    | some code => rfl
    | none =>
      dsimp only
      split
      · rfl
      · cases s.warrantFor l id.toNat with
        | none => rfl
        | some w => rfl

theorem terms_serveLane (s : State) (l : LaneId) (f : Frame) : TermsKept 0 s (s.serveLane l f) := by
  refine ((termsKept_steady.popFrame s (.lane l)).trans (terms_withdraw _ (.lane l))).trans ?_
  unfold State.serveLane
  dsimp only
  split
  · exact terms_answerRun _ l f.body
  · split
    · exact terms_answerLaneStatus _ l f.body
    · split
      · rw [State.answerWarrantStatus_eq]
        exact termsKept_steady.reply _ _ _
      · exact termsKept_steady.reply _ _ _

theorem terms_considerHead (s : State) (l : LaneId) : TermsKept 0 s (s.considerHead l) := by
  have rejoins : TermsKept 0 s (s.rejoin l) := by
    unfold State.rejoin
    split
    · split
      · exact terms_join s _
      · exact .refl s
    · exact .refl s
  rw [State.considerHead_eq]
  split
  · exact rejoins
  · split
    · exact terms_serveLane s l _
    · exact rejoins

/-- A run that moves on is gone, or tied as before (R111). -/
theorem Lane.moveOn_run (x : Lane) : x.moveOn.run = none ∨ x.moveOn.run.map Run.tie = x.run.map Run.tie := by
  unfold Lane.moveOn
  split
  · exact .inr rfl
  · rename_i r run
    split
    · split
      · exact .inl rfl
      · exact .inr (by rw [run]; rfl)
    · split
      · exact .inl rfl
      · exact .inr rfl
    · exact .inr rfl
    · exact .inr rfl

theorem terms_handOn (s : State) (k : Link) (r : Reply) : TermsKept 0 s (s.handOn k r) := by
  cases k with
  | custody =>
    unfold State.handOn
    dsimp only
    split
    · exact .of_parts
    · exact .refl s
  | lane l =>
    unfold State.handOn
    refine TermsKept.trans ?_ (terms_considerHead _ l)
    split
    · exact terms_setLane s.lanes[l].moveOn_run
    · exact .refl s

/-! ### The walk -/

theorem terms_endWalk {s : State} {g : RunGrant} {r : Run} (run : s.lanes[g.lane].run = some r) (mark : Bool)
    (results : List EntryResult) (next : Nat) (reason : Option EndReason) :
    TermsKept 0 s (s.endWalk g { r with stopMark := mark } results next reason) := by
  refine (terms_setLane (.inr ?_)).trans (terms_release _)
  rw [run]
  rfl

/-- Only under an OPEN warrant does a walk come to an entry to deliver (R88). -/
theorem walk_deliver_opened {stop : Option Nat} {room : Bool} {w : Option Warrant} {mark : Bool} {i n : Nat} {e : Entry}
    {es : List Entry} (h : (walk stop w room mark i es).stop = .deliver n e) : ∃ x, w = some x ∧ x.state = .opened := by
  cases es with
  | nil => cases h
  | cons e es =>
    cases mark with
    | true => simp [walk_marked] at h
    | false =>
      cases w with
      | none => simp [walk_purged] at h
      | some x =>
        refine ⟨x, rfl, ?_⟩
        cases state : x.state with
        | opened => rfl
        | held => simp [walk, state] at h
        | exhausted => simp [walk, state] at h
        | closed c => simp [walk, state] at h

/-- The entry a walk comes to begins under the OPEN warrant of its run (R82, R88). -/
theorem terms_walkOn (s : State) (g : RunGrant) : TermsKept 0 s (s.walkOn g) := by
  unfold State.walkOn
  split
  · exact .refl s
  · rename_i r run
    dsimp only
    split
    · rename_i n e deliver
      obtain ⟨x, tied, state⟩ := walk_deliver_opened deliver
      refine .of_entry rfl rfl fun k tie => .inr ⟨x, List.mem_of_find?_eq_some tied, ?_, state⟩
      have serial : x.serial = r.tie := by simpa using List.find?_some tied
      obtain ⟨g', r', engine, _, now, rfl⟩ := State.entryTie_eq_some.1 tie
      obtain rfl := Engine.lane.inj engine
      rw [State.setLane_same] at now
      rw [← Option.some.inj now]
      exact serial
    · split
      · exact (terms_endWalk run _ _ _ _).trans (terms_runStop _ _)
      · exact terms_endWalk run _ _ _ _
    · exact terms_endWalk run _ _ _ _

/-! ### Completion -/

/-- A walk reads nothing of the engine but the grant it is given. -/
theorem State.walkOn_setEngine {s : State} {g : RunGrant} {r : Run} (run : s.lanes[g.lane].run = some r) (e : Engine) :
    ({ s with engine := e } : State).walkOn g = s.walkOn g := by
  simp only [State.walkOn, run]
  rfl

theorem State.completeEntry_warrants (s : State) (g : RunGrant) (tie : Nat) (o : Block) :
    (s.completeEntry g tie o).warrants = s.warrants.map fun w => if w.serial = tie then w.debit else w := by
  simp [State.completeEntry, State.debitTied]

theorem State.completeEntry_lane (s : State) (g : RunGrant) (tie : Nat) (o : Block) :
    (s.completeEntry g tie o).lanes[g.lane] =
      { s.lanes[g.lane] with chain := o, position := s.lanes[g.lane].position + 1 } := by
  simp only [State.completeEntry, State.advanceChain, State.setLane_same, State.raiseUsesOf_lanes, State.debitTied_lanes]

/-- One card is debited under the warrant of the entry in progress, which had one left, and the entry is no longer in
progress (R69, R85). -/
theorem terms_completeEntry {s : State} {g g' : RunGrant} {r : Run} (engine : s.engine = .lane g)
    (stage : g.stage.inEntry = true) (run : s.lanes[g.lane].run = some r) (o : Block) (next : g'.stage = .opening) :
    TermsKept 1 s { s.completeEntry g r.tie o with engine := .lane g' } := by
  refine .of_follows (fun law => ?_) (State.completeEntry_nextSerial s g r.tie o) fun k tie => ?_
  · rw [State.completeEntry_warrants]
    refine List.forall₂_map_right_iff.2 (List.forall₂_same.2 fun v hv => ?_)
    split
    · rename_i tied
      exact Warrant.follows_debit (law.entry g r engine stage run v hv tied)
    · exact .refl 1 v
  · obtain ⟨_, _, e, entry, _, _⟩ := State.entryTie_eq_some.1 tie
    rw [← Engine.lane.inj e, next] at entry
    cases entry

/-! ### The custody switch, the Tamper Monitor and the erase -/

theorem terms_abandonComponent (s : State) : TermsKept 0 s s.abandonComponent := by
  unfold State.abandonComponent
  split
  · have waits : TermsKept 0 s (((s.inProcess none).withdraw .custody).custodyRefuse kindComponent .notInCustody) :=
      ((terms_inProcess s none).trans (terms_withdraw _ .custody)).trans (termsKept_steady.reply _ _ _)
    split
    · split
      · exact terms_inProcess s _
      · exact waits
      · exact waits
    · exact .refl s
  · exact .refl s

theorem terms_sampleSwitch (s : State) (pin : Level) : TermsKept 0 s (s.sampleSwitch pin) := by
  unfold State.sampleSwitch
  split
  rename_i position count confirmed _
  have counts : TermsKept 0 s { s with custody := { s.custody with position := position, count := count } } := .of_parts
  have abandons (u : State) : TermsKept 0 u u.abandonAssemblies := .of_parts
  dsimp only
  split
  · exact (counts.trans (terms_abandonComponent _)).trans (abandons _)
  · exact counts

/-- The start of an erase closes every live warrant (R75, R141). -/
theorem terms_eraseBegin (s : State) : TermsKept 0 s s.eraseBegin :=
  .of_follows (fun _ => List.forall₂_map_right_iff.2 (List.forall₂_same.2 fun v _ => v.follows_closeLive .tamper)) rfl nofun

theorem terms_orderErase (s : State) : TermsKept 0 s s.orderErase := by
  unfold State.orderErase
  split
  · exact terms_eraseBegin s
  · exact terms_eraseBegin s
  · exact terms_eraseBegin s
  · exact .refl s
  · exact .of_parts
  · exact .of_parts

theorem terms_tamper (s : State) (t : Tamper) : TermsKept 0 s { s with tamper := t } := .of_parts

theorem terms_tamperEvent (s : State) (x : Source) (r : Response) : TermsKept 0 s (s.tamperEvent x r) := by
  have records := terms_tamper s (s.tamper.record x)
  unfold State.tamperEvent
  dsimp only
  split
  · refine records.trans ?_
    unfold State.notice
    split
    · exact termsKept_steady.reply _ _ _
    · exact .refl _
  · exact records.trans (terms_orderErase _)

theorem terms_sampleInput (s : State) (i : InputId) (v : Level) : TermsKept 0 s (s.sampleInput i v) := by
  unfold State.sampleInput
  dsimp only
  split
  · exact (terms_tamper s _).trans (terms_tamperEvent _ _ _)
  · exact terms_tamper s _

/-! ### The sweep -/

/-- The records changed one by one, with the entry in progress as it was. -/
structure RecordsFollow (s t : State) : Prop where
  follows : List.Forall₂ (Warrant.Follows 0) s.warrants t.warrants
  serial : t.nextSerial = s.nextSerial
  entry : t.entryTie = s.entryTie

theorem RecordsFollow.of_warrants {s t : State} (warrants : t.warrants = s.warrants)
    (serial : t.nextSerial = s.nextSerial) (entry : t.entryTie = s.entryTie) : RecordsFollow s t :=
  ⟨by rw [warrants]; exact List.forall₂_same.2 fun v _ => .refl 0 v, serial, entry⟩

theorem RecordsFollow.of_slots (s : State) (v : Vector Slot 48) : RecordsFollow s { s with slots := v } :=
  .of_warrants rfl rfl rfl

theorem RecordsFollow.refl (s : State) : RecordsFollow s s := .of_slots s s.slots

theorem RecordsFollow.terms {s t : State} (h : RecordsFollow s t) : TermsKept 0 s t :=
  .of_follows (fun _ => h.follows) h.serial fun _ tie => ⟨rfl, .inl (h.entry ▸ tie)⟩

theorem State.sweepLane_run (s : State) (x : Lane) : (s.sweepLane x).run = x.run := by
  unfold State.sweepLane
  split
  · rfl
  · split <;> rfl

theorem Lane.resetChain_run (x : Lane) : x.resetChain.run = x.run := by
  unfold Lane.resetChain
  split <;> rfl

/-- A step of the sweep leaves engine and runs, and of the records closes some at most (R74, R154). -/
theorem recordsFollow_sweepStep {f : State → State} (hf : f ∈ sweepSteps) (s : State) : RecordsFollow s (f s) := by
  simp only [sweepSteps, List.mem_cons, List.not_mem_nil, or_false] at hf
  obtain rfl | rfl | rfl | rfl | rfl | rfl := hf
  · exact .of_slots s _
  · exact .of_slots s _
  · refine ⟨List.forall₂_map_right_iff.2 (List.forall₂_same.2 fun v _ => ?_), rfl, rfl⟩
    split
    · exact .refl 0 v
    · exact v.follows_closeLive _
  · exact .of_warrants rfl rfl (State.entryTie_congr rfl fun l => by rw [State.sweepLanes, ofFn_get, State.sweepLane_run])
  · exact .of_slots s _
  · exact .of_warrants rfl rfl (State.entryTie_congr rfl fun l => by rw [State.resetChains, ofFn_get, Lane.resetChain_run])

/-- So does one step more of the sweep, if there is one. -/
theorem recordsFollow_sweepFirst_succ (s : State) (n : Nat) : RecordsFollow (s.sweepFirst n) (s.sweepFirst (n + 1)) := by
  unfold State.sweepFirst
  rw [List.take_add_one, List.foldl_append]
  cases step : sweepSteps[n]? with
  | none => exact .refl _
  | some f => exact recordsFollow_sweepStep (List.mem_of_getElem? step) _

theorem terms_sweepFirst (s : State) (n : Nat) : TermsKept 0 s (s.sweepFirst n) := by
  induction n with
  | zero => exact .refl s
  | succ n ih => exact ih.trans (recordsFollow_sweepFirst_succ s n).terms

/-- A step of the sweep made on some records only (R154). -/
theorem follows_partly {s t : State} (h : List.Forall₂ (Warrant.Follows 0) s.warrants t.warrants) (records : BitVec 256) :
    List.Forall₂ (Warrant.Follows 0) s.warrants (s.partly t records).warrants := by
  simp only [State.partly]
  generalize s.warrants = us, t.warrants = vs at h
  induction h with
  | nil => exact .nil
  | cons follows _ ih =>
    refine .cons ?_ ih
    dsimp only
    split
    · exact follows
    · exact .refl 0 _

theorem terms_restart (s : State) (m : Mode) : TermsKept 0 s { s.volatileStart with mode := m } :=
  .of_noEntry (by simp) (by simp) (State.entryTie_of_idle rfl)

theorem terms_stopLogic (s : State) (cut : SweepCut) : TermsKept 0 s (s.stopLogic cut) := by
  unfold State.stopLogic
  by_cases mode : s.mode = .starting .sweep
  · rw [State.cutSweep_of_sweep cut mode]
    exact (terms_sweepFirst s cut.steps).trans
      (.of_follows (fun _ => follows_partly (recordsFollow_sweepFirst_succ s cut.steps).follows cut.records) (by simp)
        fun k tie => by cases (State.entryTie_of_idle rfl).symm.trans tie)
  · rw [State.cutSweep_of_ne cut mode]
    exact terms_restart s .stopped

/-- A battery-loss clearing leaves no record (R151). -/
theorem terms_clearDomain (s : State) : TermsKept 0 s s.clearDomain where
  law _ := .of_entryTie nofun (Nat.zero_le _) .nil .nil nofun fun _ _ => nofun
  serials := le_rfl
  records _ := nofun

end Sys2Proof.Machine
end

section
/-! PROOFS. Every command, and so every step, keeps the law of warrants and the terms of every record, and debits at most one card
under each (R55, R56, R57, R69): WarrantsKeepTheirTerms. -/

namespace Sys2Proof.Machine

/-! ### Key ceremonies -/

theorem terms_setAssembly (s : State) (i : SlotId) (p : Assembly) : TermsKept 0 s (s.setAssembly i p) := .of_parts

theorem terms_acceptComponent (s : State) (i : SlotId) (p : Assembly) (f : ComponentForm) :
    TermsKept 0 s (s.acceptComponent i p f) := by
  unfold State.acceptComponent
  dsimp only
  split
  · exact terms_startProcess s _
  · split
    · exact (terms_setAssembly s i _).trans (terms_startProcess _ _)
    · exact (terms_setAssembly s i _).trans (termsKept_steady.reply _ _ _)

theorem terms_writeSlot (s : State) (i : SlotId) (b : SlotBody) (n : Nat) (p : Option Assembly) :
    TermsKept 0 s (s.writeSlot i b n p) := .of_parts

theorem terms_emptySlot (s : State) (i : SlotId) : TermsKept 0 s (s.emptySlot i) := .of_parts

theorem terms_execAssemble (s : State) : Gives (TermsKept 0) s (execAssemble s) := by
  have steady := termsKept_steady
  refine steady.takeCustody fun _ u _ => steady.readCustody fun f => steady.gatedSlot fun i => steady.refuseOr ?_
  split
  · exact steady.refuse u _ _
  · exact .next ((terms_writeSlot u i _ _ _).trans (steady.reply _ _ _))

theorem terms_execComponent (s : State) : Gives (TermsKept 0) s (execComponent s) := by
  have steady := termsKept_steady
  refine steady.takeCustody fun _ u _ => steady.readCustody fun f => steady.gatedSlot fun i => ?_
  split
  · exact steady.refuse u _ _
  · exact .next (terms_acceptComponent u i _ f)
  · exact steady.same u

theorem terms_execComponentCheckEnd (s : State) : Gives (TermsKept 0) s (execComponentCheckEnd s) := by
  unfold execComponentCheckEnd
  split
  · rename_i g i _ _ _ _ _ _ _
    split
    · exact .fault s _
    · dsimp only
      split
      · exact .next (terms_endProcess s _)
      · split
        · exact .next (terms_endProcess s _)
        · split
          · exact .fault s _
          · split
            · exact .next ((terms_setAssembly s i _).trans (terms_nextOp _ g _))
            · exact .next ((terms_setAssembly s i _).trans (terms_endProcess _ _))
  · exact termsKept_steady.same s

theorem terms_execFinalCheckEnd (s : State) : Gives (TermsKept 0) s (execFinalCheckEnd s) := by
  unfold execFinalCheckEnd
  split
  · rename_i i _ _
    split
    · exact .fault s _
    · exact .fault s _
    · dsimp only
      split
      · exact .next ((terms_writeSlot s i _ 0 _).trans (terms_endProcess _ _))
      · exact .next ((terms_emptySlot s i).trans (terms_endProcess _ _))
  · exact termsKept_steady.same s

theorem terms_execAssemblyCancel (s : State) : Gives (TermsKept 0) s (execAssemblyCancel s) := by
  have steady := termsKept_steady
  refine steady.takeCustody fun _ u _ => steady.readCustody fun _ => steady.gatedSlot fun i => ?_
  split
  · exact steady.refuse u _ _
  · exact steady.refuseOr (.next ((terms_emptySlot u i).trans (steady.reply _ _ _)))

theorem terms_execCustodySwitchChange (samples : List Level) (s : State) :
    Gives (TermsKept 0) s (execCustodySwitchChange samples s) :=
  termsKept_steady.guarded (.next (termsKept_steady.foldl terms_sampleSwitch s samples))

/-! ### The Key Table, storage keys and tokens -/

theorem terms_execSlotStatus (s : State) : Gives (TermsKept 0) s (execSlotStatus s) :=
  termsKept_steady.takeCustody fun _ u _ => termsKept_steady.readCustody fun _ => termsKept_steady.gatedSlot fun _ =>
    .next (termsKept_steady.reply u _ _)

theorem terms_execSlotErase (s : State) : Gives (TermsKept 0) s (execSlotErase s) := by
  have steady := termsKept_steady
  refine steady.takeCustody fun _ u _ => steady.readCustody fun _ => steady.gatedSlot fun i => ?_
  split
  · exact steady.refuse u _ _
  · exact steady.refuseOr (.next ((terms_emptySlot u i).trans (steady.reply _ _ _)))

theorem terms_draw (s : State) : TermsKept 0 s s.draw.2 := .of_parts rfl

theorem terms_execInitialise (s : State) : Gives (TermsKept 0) s (execInitialise s) :=
  termsKept_steady.takeCustody fun _ u _ => termsKept_steady.readCustody fun _ => termsKept_steady.gated
    (.next ((terms_draw u).trans (terms_startProcess _ _)))

theorem terms_execInitialisePatternEnd (s : State) : Gives (TermsKept 0) s (execInitialisePatternEnd s) := by
  unfold execInitialisePatternEnd
  split
  · split
    · exact .fault s _
    · refine .next (TermsKept.trans ?_ (terms_endProcess _ _))
      exact .of_parts
  · exact termsKept_steady.same s

theorem terms_execStorageRoll (s : State) : Gives (TermsKept 0) s (execStorageRoll s) := by
  have steady := termsKept_steady
  refine steady.takeCustody fun _ u _ => steady.readCustody fun _ => steady.gated ?_
  split
  · exact .fault u _
  · exact steady.refuseOr (.next ((terms_draw u).trans (terms_startProcess _ _)))

theorem terms_execStorageRollPatternEnd (s : State) : Gives (TermsKept 0) s (execStorageRollPatternEnd s) := by
  unfold execStorageRollPatternEnd
  split
  · split
    · exact .fault s _
    · exact .fault s _
    · refine .next (TermsKept.trans ?_ (terms_endProcess _ _))
      exact .of_parts
  · exact termsKept_steady.same s

theorem terms_execTokenExport (s : State) : Gives (TermsKept 0) s (execTokenExport s) := by
  have steady := termsKept_steady
  refine steady.takeCustody fun _ u _ => steady.readCustody fun _ => steady.gatedSlot fun _ => ?_
  split
  · exact steady.refuse u _ _
  · exact .fault u _
  · exact .next (terms_startProcess u _)

theorem terms_execTokenExportOperationEnd (s : State) : Gives (TermsKept 0) s (execTokenExportOperationEnd s) := by
  unfold execTokenExportOperationEnd
  split
  · split
    · exact .fault s _
    · split
      · exact .next (terms_endProcess s _)
      · exact .next (terms_nextOp s _ _)
      · exact .next (terms_endProcess s _)
  · exact termsKept_steady.same s

theorem terms_execTokenImport (s : State) : Gives (TermsKept 0) s (execTokenImport s) := by
  have steady := termsKept_steady
  refine steady.takeCustody fun _ u _ => steady.readCustody fun f => steady.gatedSlot fun _ => steady.refuseOr ?_
  split
  · exact steady.refuse u _ _
  · split
    · exact .next (steady.reply u _ _)
    · exact .next (terms_startProcess u _)

theorem terms_endImport (s : State) (i : SlotId) (t : Token) (b : Bool) (n : Nat) (key : KeyValue) (c : CheckValue) :
    TermsKept 0 s (s.endImport i t b n key c) := by
  unfold State.endImport
  split
  · exact (terms_writeSlot s i _ 0 none).trans (terms_endProcess _ _)
  · exact terms_endProcess s _

theorem terms_execTokenImportOperationEnd (s : State) : Gives (TermsKept 0) s (execTokenImportOperationEnd s) := by
  unfold execTokenImportOperationEnd
  split
  · split
    · exact .fault s _
    · split
      · exact .next (terms_nextOp s _ _)
      · exact .next (terms_nextOp s _ _)
      · exact .next (terms_endImport s _ _ _ _ _ _)
      · exact .next (terms_endImport s _ _ _ _ _ _)
  · exact termsKept_steady.same s

/-! ### Warrants -/

/-- A command on a warrant acts on a record of the table (R59). -/
theorem gives_withWarrant {s : State} {kind id : Byte} {act : Warrant → State → Res}
    (ha : ∀ w ∈ s.warrants, Gives (TermsKept 0) s (act w s)) : Gives (TermsKept 0) s (s.withWarrant kind id act) := by
  obtain ⟨c, e⟩ | ⟨w, _, found, e⟩ := s.withWarrant_cases kind id act
  · rw [e]; exact termsKept_steady.refuse s _ _
  · rw [e]; exact ha w (List.mem_of_find?_eq_some found)

theorem terms_setRefs (s : State) (i : SlotId) (n : Nat) : TermsKept 0 s (s.setRefs i n) := .of_parts

/-- What a WARRANT_OPEN in range adds: an OPEN record with all its cards, under the serial number given to it (R60, R61). -/
theorem WarrantForm.record_lawful {f : WarrantForm} {n : Nat} {w : Warrant} (h : f.record n = some w) :
    w.serial = n ∧ w.Lawful ∧ w.delivered < w.total := by
  unfold WarrantForm.record at h
  split at h
  · cases h
  · split at h
    · rename_i range
      simp only [Bool.and_eq_true, decide_eq_true_eq] at range
      obtain ⟨⟨⟨⟨⟨⟨_, _⟩, low⟩, high⟩, _⟩, _⟩, _⟩ := range
      cases h
      exact ⟨rfl, ⟨⟨low, high⟩, Nat.zero_le _, fun _ => low, nofun⟩, low⟩
    · cases h

/-- The checks of R60 on the table: the id is free, and there is room. -/
theorem State.openRefusal_none {s : State} {w : Warrant} (h : s.openRefusal w = none) :
    (∀ x ∈ s.warrants, x.id ≠ w.id) ∧ s.warrants.length < 32 := by
  unfold State.openRefusal at h
  split at h
  · cases h
  · rename_i free
    split at h
    · cases h
    · rename_i room
      refine ⟨?_, not_le.1 room⟩
      simpa [State.warrant] using free

theorem terms_execWarrantOpen (s : State) : Gives (TermsKept 0) s (execWarrantOpen s) := by
  have steady := termsKept_steady
  refine steady.takeCustody fun _ u _ => steady.readCustody fun f => steady.served ?_
  split
  · exact steady.refuse u _ _
  · rename_i w form
    split
    · exact steady.refuse u _ _
    · rename_i passes
      obtain ⟨serial, lawful, cards⟩ := WarrantForm.record_lawful form
      obtain ⟨new, room⟩ := State.openRefusal_none passes
      exact .next ((terms_addWarrant serial lawful cards room new).trans (steady.reply _ _ _))

theorem terms_execWarrantHold (s : State) : Gives (TermsKept 0) s (execWarrantHold s) := by
  have steady := termsKept_steady
  refine steady.takeCustody fun _ u _ => steady.readCustody fun _ => gives_withWarrant fun w hw => ?_
  split
  · exact steady.refuse u _ _
  · rename_i state
    exact .next ((terms_setWarrant hw fun _ => Warrant.follows_hold (not_not.1 state)).trans (steady.reply _ _ _))

theorem terms_execWarrantRelease (s : State) : Gives (TermsKept 0) s (execWarrantRelease s) := by
  have steady := termsKept_steady
  refine steady.takeCustody fun _ u _ => steady.readCustody fun _ => gives_withWarrant fun w hw => ?_
  split
  · exact steady.refuse u _ _
  · rename_i state
    exact .next ((terms_setWarrant hw fun _ => Warrant.follows_release (not_not.1 state)).trans (steady.reply _ _ _))

theorem terms_execWarrantExtend (s : State) : Gives (TermsKept 0) s (execWarrantExtend s) := by
  have steady := termsKept_steady
  refine steady.takeCustody fun _ u _ => steady.readCustody fun f => gives_withWarrant fun w hw => ?_
  refine steady.refuseOr (steady.refuseOr ?_)
  exact .next ((terms_setWarrant hw fun lawful => Warrant.follows_extend lawful f.2).trans (steady.reply _ _ _))

theorem terms_execWarrantClose (s : State) : Gives (TermsKept 0) s (execWarrantClose s) := by
  have steady := termsKept_steady
  refine steady.takeCustody fun _ u _ => steady.readCustody fun _ => gives_withWarrant fun w hw => ?_
  split
  · exact steady.refuse u _ _
  · rename_i live
    have closes := terms_setWarrant (f := fun x => { x with state := .closed .byCommand }) hw fun _ => Warrant.follows_close (by simpa using live) .byCommand
    exact .next ((closes.trans (terms_setRefs _ w.master _)).trans (steady.reply _ _ _))

theorem terms_execWarrantPurge (s : State) : Gives (TermsKept 0) s (execWarrantPurge s) := by
  have steady := termsKept_steady
  refine steady.takeCustody fun _ u _ => steady.readCustody fun _ => steady.withWarrant fun w => steady.refuseOr ?_
  exact .next ((terms_removeWarrant u w.id).trans (steady.reply _ _ _))

theorem terms_execWarrantStatus (k : Link) (s : State) : Gives (TermsKept 0) s (execWarrantStatus k s) := by
  have steady := termsKept_steady
  cases k with
  | custody =>
    unfold execWarrantStatus
    refine steady.takeCustody fun _ u _ => steady.readCustody fun _ => steady.withWarrant fun _ => ?_
    exact .next (steady.reply u _ _)
  | lane l =>
    unfold execWarrantStatus
    exact steady.takeLane (terms_serveLane s l)

theorem terms_execWarrantList (s : State) : Gives (TermsKept 0) s (execWarrantList s) :=
  termsKept_steady.takeCustody fun _ u _ => termsKept_steady.readCustody fun _ => termsKept_steady.served
    (.next (termsKept_steady.reply u _ _))

/-! ### Lanes and the engine -/

theorem terms_moveRefs (s : State) (old : Option SlotId) (new : SlotId) : TermsKept 0 s (s.moveRefs old new) := by
  unfold State.moveRefs
  split
  · exact .refl s
  · cases old with
    | none => exact terms_setRefs s new _
    | some i => exact (terms_setRefs s i _).trans (terms_setRefs _ new _)

/-- A lane is bound with no run, or keeps its run (R98). -/
theorem terms_execLaneBind (s : State) : Gives (TermsKept 0) s (execLaneBind s) := by
  have steady := termsKept_steady
  refine steady.takeCustody fun _ u _ => steady.readCustody fun f => steady.served ?_
  split
  · exact steady.refuse u _ _
  · rename_i b _
    refine steady.refuseOr ?_
    split
    · exact steady.refuse u _ _
    · refine .next (((terms_moveRefs u _ _).trans (terms_setLane ?_)).trans (steady.reply _ _ _))
      obtain ⟨v, e⟩ := u.moveRefs_rest u.lanes[b.lane].transport b.slot
      rw [e]
      exact .inr rfl

theorem terms_execLaneUnbind (s : State) : Gives (TermsKept 0) s (execLaneUnbind s) := by
  have steady := termsKept_steady
  refine steady.takeCustody fun _ u _ => steady.readCustody fun _ => steady.served ?_
  split
  · exact steady.refuse u _ _
  · dsimp only
    split
    · exact steady.refuse u _ _
    · exact steady.refuseOr (.next (((terms_setRefs u _ _).trans terms_setLane).trans (steady.reply _ _ _)))

theorem terms_execSetQuantum (s : State) : Gives (TermsKept 0) s (execSetQuantum s) := by
  have steady := termsKept_steady
  refine steady.takeCustody fun _ u _ => steady.readCustody fun v => steady.refuseOr ?_
  have sets : TermsKept 0 u { u with quantum := quantumOf v.toNat } := .of_parts
  exact .next (sets.trans (steady.reply _ _ _))

/-- A grant that goes on keeps the entry it had in progress. -/
theorem terms_setGrant {s : State} {g g' : RunGrant} (engine : s.engine = .lane g) (lane : g'.lane = g.lane)
    (stage : g'.stage.inEntry = true → g.stage.inEntry = true) : TermsKept 0 s { s with engine := .lane g' } := by
  refine .of_entry rfl rfl fun k tie => .inl ?_
  obtain ⟨x, r, e, entry, run, tied⟩ := State.entryTie_eq_some.1 tie
  obtain rfl := Engine.lane.inj e
  exact State.entryTie_eq_some.2 ⟨g, r, engine, stage entry, (congrArg (fun l : LaneId => s.lanes[l].run) lane).symm.trans run, tied⟩

theorem terms_execRunStop (stop : Stop) (s : State) : Gives (TermsKept 0) s (execRunStop stop s) := by
  refine termsKept_steady.guarded ?_
  obtain e | ⟨g, n, m, _, engine, _, _, _, e⟩ := s.takeStop_cases stop
  · rw [e]; exact .next (terms_runStop s _)
  · rw [e]; exact .next (terms_setGrant engine rfl id)

theorem terms_execRun (l : LaneId) (s : State) : Gives (TermsKept 0) s (execRun l s) :=
  termsKept_steady.takeLane (terms_serveLane s l)

theorem terms_execLaneStatus (l : LaneId) (s : State) : Gives (TermsKept 0) s (execLaneStatus l s) :=
  termsKept_steady.takeLane (terms_serveLane s l)

/-- A grant just given begins its walk (R87). -/
theorem terms_execGrant (s : State) : Gives (TermsKept 0) s (execGrant s) := by
  have walks {u : State} (given : TermsKept 0 s u) : Gives (TermsKept 0) s (match u.engine with
      | .lane g => match g.stage with
        | .opening => .next (u.walkOn g)
        | .deriving _ _ => .next u
        | .checking _ _ _ => .next u
        | .keystream _ _ _ _ => .next u
        | .withheld => .next u
      | .idle => .next u
      | .custody _ => .next u) := by
    split
    · split
      · exact .next (given.trans (terms_walkOn u _))
      all_goals exact .next given
    · exact .next given
    · exact .next given
  unfold execGrant
  split
  · exact termsKept_steady.same s
  · refine walks ?_
    split
    · exact terms_choose s
    · exact .refl s
    · exact .refl s

theorem terms_execCardKeyDerivationEnd (s : State) : Gives (TermsKept 0) s (execCardKeyDerivationEnd s) := by
  unfold execCardKeyDerivationEnd
  split
  · rename_i g engine
    split
    · rename_i stage
      exact .next (terms_setGrant engine rfl fun _ => by rw [stage]; rfl)
    · exact .fault s _
    all_goals exact termsKept_steady.same s
  · exact termsKept_steady.same s
  · exact termsKept_steady.same s

theorem terms_execCardCheckValueEnd (s : State) : Gives (TermsKept 0) s (execCardCheckValueEnd s) := by
  unfold execCardCheckValueEnd
  split
  · rename_i g engine
    split
    · rename_i stage
      exact .next (terms_setGrant engine rfl fun _ => by rw [stage]; rfl)
    · exact .fault s _
    all_goals exact termsKept_steady.same s
  · exact termsKept_steady.same s
  · exact termsKept_steady.same s

/-- The end of an entry's third operation is the one step that delivers a card (R69, R85). -/
theorem terms_execKeystreamBlockEnd (s : State) : Gives (TermsKept 1) s (execKeystreamBlockEnd s) := by
  have same : Gives (TermsKept 1) s (.next s) := .next (TermsKept.refl s).atMostOne
  unfold execKeystreamBlockEnd
  split
  · rename_i g engine
    split
    · rename_i w ck check op stage
      split
      · exact same
      · rename_i r run
        have entry : g.stage.inEntry = true := by rw [stage]; rfl
        have after : ((s.completeEntry g r.tie op.result).lanes[(g.delivered (ck ^^^ op.result) check).lane]).run = some r :=
          (congrArg Lane.run (s.completeEntry_lane g r.tie op.result)).trans run
        refine .next ?_
        rw [← State.walkOn_setEngine after (.lane (g.delivered (ck ^^^ op.result) check))]
        exact (terms_completeEntry engine entry run op.result rfl).trans (terms_walkOn _ _)
    · exact .fault s _
    all_goals exact same
  · exact same
  · exact same

/-! ### Links -/

theorem terms_immediate (s : State) (k : Link) (kind : Byte) : TermsKept 0 s (s.immediate k kind) := by
  unfold State.immediate
  split
  · exact terms_setLink s _ _
  · split
    · exact terms_runStop s _
    · exact terms_setLink s _ _

theorem terms_receive (s : State) (k : Link) (bytes : List Byte) : TermsKept 0 s (s.receive k bytes) := by
  unfold State.receive
  split
  · split
    · split
      · split
        · exact terms_immediate s k _
        · exact terms_setLink s k _
      · exact terms_setLink s k _
    · exact terms_setLink s k _
  · exact terms_setLink s k _

theorem terms_execRequestTransfer (k : Link) (x : Shifted) (s : State) :
    Gives (TermsKept 0) s (execRequestTransfer k x s) := by
  have shifts : TermsKept 0 s (s.shiftOut k (List.replicate x.bytes.length 0)) := terms_setLink s k _
  refine termsKept_steady.guarded (.next (shifts.trans ?_))
  unfold State.receiveTransfer
  split
  · exact terms_receive _ k _
  · exact terms_setLink _ k _

theorem terms_execCollectBegin (k : Link) (s : State) : Gives (TermsKept 0) s (execCollectBegin k s) :=
  termsKept_steady.guarded (.next (terms_setLink s k _))

theorem terms_execCollectEnd (k : Link) (clocked cut : Nat) (s : State) :
    Gives (TermsKept 0) s (execCollectEnd k clocked cut s) := by
  unfold execCollectEnd
  split
  · exact termsKept_steady.same s
  · dsimp only
    split
    · exact .next (terms_setLink s k _)
    · exact .next ((terms_setLink s k _).trans (terms_handOn _ k _))

theorem terms_execUnknownRequest (k : Link) (s : State) : Gives (TermsKept 0) s (execUnknownRequest k s) := by
  have steady := termsKept_steady
  cases k with
  | custody =>
    unfold execUnknownRequest
    dsimp only
    split
    · exact steady.same s
    · split
      · exact steady.same s
      · exact steady.takeCustody fun _ u _ => steady.refuse u _ _
  | lane l =>
    unfold execUnknownRequest
    exact steady.takeLane (terms_serveLane s l)

theorem terms_execLinkClear (s : State) : Gives (TermsKept 0) s (execLinkClear s) :=
  termsKept_steady.guarded (.next (terms_setLink s _ _))

theorem terms_execLaneClear (l : LaneId) (s : State) : Gives (TermsKept 0) s (execLaneClear l s) :=
  termsKept_steady.guarded (.next (terms_setLink s _ _))

theorem terms_execDeviceStatus (s : State) : Gives (TermsKept 0) s (execDeviceStatus s) :=
  termsKept_steady.takeCustody fun _ u _ => termsKept_steady.readCustody fun _ => .next (termsKept_steady.reply u _ _)

/-! ### The Tamper Monitor and the erase -/

theorem terms_setMode (s : State) (m : Mode) : TermsKept 0 s { s with mode := m } := .of_parts

theorem terms_execTamperSetup (raw : BitVec 6) (s : State) : Gives (TermsKept 0) s (execTamperSetup raw s) := by
  have steady := termsKept_steady
  refine steady.takeCustody fun _ u _ => steady.readCustody fun _ => steady.gated ?_
  split
  · exact steady.refuse u _ _
  · exact .next ((terms_tamper u _).trans (steady.reply _ _ _))

theorem terms_execTamperAck (s : State) : Gives (TermsKept 0) s (execTamperAck s) := by
  have steady := termsKept_steady
  refine steady.takeCustody fun _ u _ => steady.readCustody fun _ => steady.gated ?_
  split
  · have acknowledges : TermsKept 0 u { u with tamper := u.tamper.acknowledge, mode := .uninitialised } := .of_parts
    exact steady.refuseOr (.next (acknowledges.trans (steady.reply _ _ _)))
  · exact .next ((terms_tamper u _).trans (steady.reply _ _ _))

theorem terms_execTamperInputEdge (i : InputId) (samples : List Level) (s : State) :
    Gives (TermsKept 0) s (execTamperInputEdge i samples s) :=
  termsKept_steady.guarded (.next (termsKept_steady.foldl (fun u v => terms_sampleInput u i v) s samples))

theorem terms_execEraseComplete (s : State) : Gives (TermsKept 0) s (execEraseComplete s) :=
  termsKept_steady.guarded (.next .of_parts)

theorem terms_execSupplyAboveThreshold (mv : Nat) (s : State) :
    Gives (TermsKept 0) s (execSupplyAboveThreshold mv s) := by
  refine termsKept_steady.guarded ?_
  split <;> exact .next .of_parts

theorem terms_execSupplyBelowThreshold (mv : Nat) (s : State) :
    Gives (TermsKept 0) s (execSupplyBelowThreshold mv s) := by
  refine termsKept_steady.guarded ?_
  split <;> exact .next .of_parts

theorem terms_execSupplyTimerExpiry (s : State) : Gives (TermsKept 0) s (execSupplyTimerExpiry s) :=
  termsKept_steady.guarded (.next ((terms_tamper s _).trans (terms_tamperEvent _ _ _)))

/-! ### Stopping and starting -/

theorem terms_stopIfRunning (s : State) (cut : SweepCut) :
    TermsKept 0 s (if s.mode.running then s.stopLogic cut else s) := by
  split
  · exact terms_stopLogic s cut
  · exact .refl s

theorem terms_keepDomain (s : State) : TermsKept 0 s s.keepDomain := by
  unfold State.keepDomain
  split
  · exact .refl s
  · exact .of_parts

theorem terms_vmain (s : State) (mv : Nat) : TermsKept 0 s { s with vmain := mv } := .of_parts

theorem terms_resetHeld (s : State) (b : Bool) : TermsKept 0 s { s with resetHeld := b } := .of_parts

theorem terms_battery (s : State) (b : Bool) : TermsKept 0 s { s with battery := b } := .of_parts

theorem terms_execMainSupplyLoss (mv : Nat) (cut : SweepCut) (s : State) :
    Gives (TermsKept 0) s (execMainSupplyLoss mv cut s) :=
  termsKept_steady.guarded
    (.next (((terms_stopIfRunning s cut).trans (terms_vmain _ mv)).trans (terms_keepDomain _)))

theorem terms_execResetAssert (cut : SweepCut) (s : State) : Gives (TermsKept 0) s (execResetAssert cut s) :=
  termsKept_steady.guarded (.next ((terms_stopIfRunning s cut).trans (terms_resetHeld _ true)))

theorem terms_execMainSupplyRise (mv : Nat) (s : State) : Gives (TermsKept 0) s (execMainSupplyRise mv s) := by
  refine termsKept_steady.guarded (.next ?_)
  split
  · exact terms_vmain s mv
  · exact (terms_vmain s mv).trans (terms_restart _ _)

theorem terms_execResetRelease (s : State) : Gives (TermsKept 0) s (execResetRelease s) := by
  refine termsKept_steady.guarded (.next ?_)
  split
  · exact (terms_resetHeld s false).trans (terms_restart _ _)
  · exact terms_resetHeld s false

theorem terms_execValidityCheck (raw : BitVec 6) (s : State) : Gives (TermsKept 0) s (execValidityCheck raw s) := by
  refine termsKept_steady.guarded ?_
  split
  · exact .next .of_parts
  · split
    · exact .next (terms_eraseBegin s)
    · exact .next .of_parts

theorem terms_execBatteryLossClearingEnd (s : State) : Gives (TermsKept 0) s (execBatteryLossClearingEnd s) := by
  refine termsKept_steady.guarded ?_
  split
  · exact .next ((terms_clearDomain s).trans (terms_eraseBegin _))
  · exact .next ((terms_clearDomain s).trans (terms_setMode _ _))

theorem terms_afterSweep (s : State) : TermsKept 0 s s.afterSweep := by
  unfold State.afterSweep
  split
  · exact terms_eraseBegin s
  · split
    · exact terms_setMode s _
    · split <;> exact terms_setMode s _

theorem terms_execSweepEnd (s : State) : Gives (TermsKept 0) s (execSweepEnd s) :=
  termsKept_steady.guarded (.next ((terms_sweepFirst s 6).trans (terms_afterSweep _)))

theorem terms_execBackupBatteryFailure (b : Bool) (s : State) :
    Gives (TermsKept 0) s (execBackupBatteryFailure b s) :=
  .next (((terms_battery s false).trans (terms_keepDomain _)).trans (terms_battery _ b))

/-- A fault of the battery-backed memory is one of a slot record (R13). -/
theorem terms_execBatteryBackedMemoryFault (i : SlotId) (b : SlotBody) (n : Nat) (x : BitVec 32) (s : State) :
    Gives (TermsKept 0) s (execBatteryBackedMemoryFault i b n x s) :=
  termsKept_steady.guarded (.next .of_parts)

/-! ### Every step -/

theorem Gives.atMostOne {s : State} {r : Res} (h : Gives (TermsKept 0) s r) : Gives (TermsKept 1) s r :=
  fun t e => (h t e).atMostOne

theorem terms_exec (c : Instr) (s : State) : Gives (TermsKept 1) s (exec c s) := by
  cases c with
  | keystreamBlockEnd => exact terms_execKeystreamBlockEnd s
  | requestTransfer k x => exact (terms_execRequestTransfer k x s).atMostOne
  | collectBegin k => exact (terms_execCollectBegin k s).atMostOne
  | collectEnd k clocked cut => exact (terms_execCollectEnd k clocked cut s).atMostOne
  | unknownRequest k => exact (terms_execUnknownRequest k s).atMostOne
  | slotStatus => exact (terms_execSlotStatus s).atMostOne
  | slotErase => exact (terms_execSlotErase s).atMostOne
  | assemble => exact (terms_execAssemble s).atMostOne
  | component => exact (terms_execComponent s).atMostOne
  | componentCheckEnd => exact (terms_execComponentCheckEnd s).atMostOne
  | finalCheckEnd => exact (terms_execFinalCheckEnd s).atMostOne
  | assemblyCancel => exact (terms_execAssemblyCancel s).atMostOne
  | custodySwitchChange samples => exact (terms_execCustodySwitchChange samples s).atMostOne
  | initialise => exact (terms_execInitialise s).atMostOne
  | initialisePatternEnd => exact (terms_execInitialisePatternEnd s).atMostOne
  | storageRoll => exact (terms_execStorageRoll s).atMostOne
  | storageRollPatternEnd => exact (terms_execStorageRollPatternEnd s).atMostOne
  | tokenExport => exact (terms_execTokenExport s).atMostOne
  | tokenExportOperationEnd => exact (terms_execTokenExportOperationEnd s).atMostOne
  | tokenImport => exact (terms_execTokenImport s).atMostOne
  | tokenImportOperationEnd => exact (terms_execTokenImportOperationEnd s).atMostOne
  | warrantOpen => exact (terms_execWarrantOpen s).atMostOne
  | warrantHold => exact (terms_execWarrantHold s).atMostOne
  | warrantRelease => exact (terms_execWarrantRelease s).atMostOne
  | warrantExtend => exact (terms_execWarrantExtend s).atMostOne
  | warrantClose => exact (terms_execWarrantClose s).atMostOne
  | warrantPurge => exact (terms_execWarrantPurge s).atMostOne
  | warrantStatus k => exact (terms_execWarrantStatus k s).atMostOne
  | warrantList => exact (terms_execWarrantList s).atMostOne
  | laneBind => exact (terms_execLaneBind s).atMostOne
  | laneUnbind => exact (terms_execLaneUnbind s).atMostOne
  | setQuantum => exact (terms_execSetQuantum s).atMostOne
  | tamperSetup raw => exact (terms_execTamperSetup raw s).atMostOne
  | tamperAck => exact (terms_execTamperAck s).atMostOne
  | deviceStatus => exact (terms_execDeviceStatus s).atMostOne
  | linkClear => exact (terms_execLinkClear s).atMostOne
  | run l => exact (terms_execRun l s).atMostOne
  | laneStatus l => exact (terms_execLaneStatus l s).atMostOne
  | runStop stop => exact (terms_execRunStop stop s).atMostOne
  | laneClear l => exact (terms_execLaneClear l s).atMostOne
  | grant => exact (terms_execGrant s).atMostOne
  | cardKeyDerivationEnd => exact (terms_execCardKeyDerivationEnd s).atMostOne
  | cardCheckValueEnd => exact (terms_execCardCheckValueEnd s).atMostOne
  | tamperInputEdge i samples => exact (terms_execTamperInputEdge i samples s).atMostOne
  | eraseComplete => exact (terms_execEraseComplete s).atMostOne
  | supplyAboveThreshold mv => exact (terms_execSupplyAboveThreshold mv s).atMostOne
  | supplyBelowThreshold mv => exact (terms_execSupplyBelowThreshold mv s).atMostOne
  | supplyTimerExpiry => exact (terms_execSupplyTimerExpiry s).atMostOne
  | mainSupplyLoss mv cut => exact (terms_execMainSupplyLoss mv cut s).atMostOne
  | resetAssert cut => exact (terms_execResetAssert cut s).atMostOne
  | mainSupplyRise mv => exact (terms_execMainSupplyRise mv s).atMostOne
  | resetRelease => exact (terms_execResetRelease s).atMostOne
  | validityCheck raw => exact (terms_execValidityCheck raw s).atMostOne
  | batteryLossClearingEnd => exact (terms_execBatteryLossClearingEnd s).atMostOne
  | sweepEnd => exact (terms_execSweepEnd s).atMostOne
  | backupBatteryFailure b => exact (terms_execBackupBatteryFailure b s).atMostOne
  | batteryBackedMemoryFault i b n x => exact (terms_execBatteryBackedMemoryFault i b n x s).atMostOne

theorem terms_step {s t : State} (h : step s = .next t) : TermsKept 1 s t := by
  cases waiting : s.pending with
  | nil =>
    rw [step_of_nil waiting] at h
    obtain rfl := Host.Outcome.next.inj h
    have writes : TermsKept 0 s s.tick := .of_parts
    exact writes.atMostOne
  | cons c cs =>
    simp only [step, waiting] at h
    have takes : TermsKept 0 s (s.withPending cs) := .of_parts
    exact takes.comp (terms_exec c _ t h)

/-- Settles O48: no step but the end of an entry debits a card, and none begins an entry but under an OPEN warrant. -/
theorem warrantsKeepTheirTerms : Obligations.WarrantsKeepTheirTerms := by
  intro s t law _ h
  have kept := terms_step h
  refine ⟨kept.law law, fun v hv w hw same => ?_⟩
  have follows := kept.terms law hv hw same
  exact ⟨follows.id, follows.issuer, follows.master, follows.digits, follows.lanes, follows.total, follows.delivered,
    follows.cards, follows.closed⟩

end Sys2Proof.Machine
end

section
/-! PROOFS. The warrant commands (R59 to R68): WarrantCommandsAreChecked, WarrantOpenAddsARecord,
WarrantsAreHeldExtendedAndClosed, WarrantReleaseResumesAJob, WarrantPurgeRemovesARecord, WarrantReports and
WarrantStatusHidesOtherWarrants. -/

namespace Sys2Proof.Machine

/-! ### The first checks (R59) -/

theorem State.serviceRefusal_of_operational {s : State} (mode : s.mode = .operational) : s.serviceRefusal = none := by
  simp only [State.serviceRefusal, mode, GateRow.entry]

theorem State.serviceRefusal_of_uninitialised {s : State} (mode : s.mode = .uninitialised) :
    s.serviceRefusal = some .uninitialised := by simp only [State.serviceRefusal, mode, GateRow.entry]

theorem State.serviceRefusal_of_locked {s : State} (mode : s.mode = .locked) : s.serviceRefusal = some .locked := by
  simp only [State.serviceRefusal, mode, GateRow.entry]

/-- The device-state check refuses, with the request taken off. -/
theorem State.served_refuses {s : State} {code : Code} (refuses : s.serviceRefusal = some code) (kind : Byte)
    (act : State → Res) : s.afterTaking.served kind act = .next (s.afterRefusal kind code) := by
  simp only [State.served, State.serviceRefusal_afterTaking, refuses]
  rfl

theorem State.served_passes {s : State} (mode : s.mode = .operational) (kind : Byte) (act : State → Res) :
    s.afterTaking.served kind act = act s.afterTaking := by
  simp only [State.served, State.serviceRefusal_afterTaking, State.serviceRefusal_of_operational mode]

/-- Every byte but 0 is a warrant id (R55). -/
theorem warrantIdOk_toNat (id : Byte) : warrantIdOk id.toNat = decide (id ≠ 0) := by
  have zero : id = 0 ↔ id.toNat = 0 := BitVec.toNat_inj.symm
  have byte : id.toNat < 256 := id.isLt
  simp only [warrantIdOk, ne_eq, zero, ← Bool.decide_and, decide_eq_decide]
  omega

theorem State.withWarrant_zero {s : State} (mode : s.mode = .operational) (kind : Byte) (act : Warrant → State → Res) :
    s.afterTaking.withWarrant kind 0 act = .next (s.afterRefusal kind .parameter) := by
  rw [State.withWarrant, State.served_passes mode, warrantIdOk_toNat]
  rfl

theorem State.warrant_eq_none {s : State} {n : Nat} : s.warrant n = none ↔ ∀ w ∈ s.warrants, w.id ≠ n := by
  simp [State.warrant]

/-- Past the device state and the range of the id, the table decides (R59). -/
theorem State.withWarrant_lookup {s : State} {id : Byte} (mode : s.mode = .operational) (range : id ≠ 0) (kind : Byte)
    (act : Warrant → State → Res) :
    s.afterTaking.withWarrant kind id act =
      match s.warrant id.toNat with
      | none => .next (s.afterRefusal kind .noSuchWarrant)
      | some w => act w s.afterTaking := by
  rw [State.withWarrant, State.served_passes mode, warrantIdOk_toNat, decide_eq_true range]
  rfl

section

variable {α : Type} {s : State} {kind : Byte} {body : List Byte} {form : List Byte → Option α} {x : α}

/-- A warrant command reads its body and passes the device-state check with its request taken off. -/
theorem CustodyTakes.serves {act : α → State → Res} (takes : CustodyTakes s kind body) (hx : form body = some x) :
    (s.takeCustody kind fun body s => s.readCustody kind (form body) fun x s => s.served kind (act x)) =
      s.afterTaking.served kind (act x) := by
  rw [takes.take]
  simp only [State.readCustody, hx]

variable {id : α → Byte} {act : α → Warrant → State → Res}

/-- One that names a warrant looks it up. -/
theorem CustodyTakes.names (takes : CustodyTakes s kind body) (hx : form body = some x) :
    (s.takeCustody kind fun body s => s.readCustody kind (form body) fun x s => s.withWarrant kind (id x) (act x)) =
      s.afterTaking.withWarrant kind (id x) (act x) := by
  rw [takes.take]
  simp only [State.readCustody, hx]

/-- In OPERATIONAL it acts on the record that carries the id. -/
theorem CustodyTakes.onWarrant {w : Warrant} (takes : CustodyTakes s kind body) (hx : form body = some x)
    (mode : s.mode = .operational) (range : id x ≠ 0) (found : s.warrant (id x).toNat = some w) :
    (s.takeCustody kind fun body s => s.readCustody kind (form body) fun x s => s.withWarrant kind (id x) (act x)) =
      act x w s.afterTaking := by
  rw [takes.names hx, State.withWarrant_lookup mode range, found]

end

theorem readWarrantExtend_of_length {body : List Byte} (h : body.length = 5) :
    ∃ f, readWarrantExtend body = some f ∧ body.head? = some f.1 :=
  match body, h with
  | [_, _, _, _, _], _ => ⟨_, rfl, rfl⟩

/-- The body of a naming command begins with the id it names (R171). -/
theorem exec_namingCommand {s : State} {kind : Byte} {c : Instr} {body : List Byte} (mem : (kind, c) ∈ namingCommands)
    (takes : CustodyTakes s kind body) (fits : bodyFits kind body = true) :
    ∃ id act, body.head? = some id ∧ exec c s = s.afterTaking.withWarrant kind id act := by
  simp only [namingCommands, List.mem_cons, Prod.mk.injEq, List.not_mem_nil, or_false] at mem
  obtain ⟨rfl, rfl⟩ | ⟨rfl, rfl⟩ | ⟨rfl, rfl⟩ | ⟨rfl, rfl⟩ | ⟨rfl, rfl⟩ | ⟨rfl, rfl⟩ := mem
  · obtain ⟨id, read, head⟩ := readByte_of_length (by simpa [bodyFits] using fits)
    exact ⟨id, _, head, takes.names read⟩
  · obtain ⟨id, read, head⟩ := readByte_of_length (by simpa [bodyFits] using fits)
    exact ⟨id, _, head, takes.names read⟩
  · obtain ⟨f, read, head⟩ := readWarrantExtend_of_length (by simpa [bodyFits] using fits)
    exact ⟨f.1, _, head, takes.names read⟩
  · obtain ⟨id, read, head⟩ := readByte_of_length (by simpa [bodyFits] using fits)
    exact ⟨id, _, head, takes.names read⟩
  · obtain ⟨id, read, head⟩ := readByte_of_length (by simpa [bodyFits] using fits)
    exact ⟨id, _, head, takes.names read⟩
  · obtain ⟨id, read, head⟩ := readByte_of_length (by simpa [bodyFits] using fits)
    exact ⟨id, _, head, takes.names read⟩

theorem readWarrantOpen_of_fits {body : List Byte} (fits : bodyFits 0x40 body = true) :
    ∃ f, readWarrantOpen body = some f := by
  have length : 9 ≤ body.length ∧ body.length = 9 + (body.getD 7 0).toNat := by simpa [bodyFits] using fits
  match body, length with
  | _ :: _ :: _ :: _ :: _ :: _ :: _ :: p :: rest, ⟨_, length⟩ =>
    have prefixed : rest.length = p.toNat + 1 := by
      simp only [List.length_cons, List.getD_cons_succ, List.getD_cons_zero] at length
      omega
    exact ⟨_, if_pos prefixed⟩

/-- The device-state check stands before each of the eight commands. -/
theorem exec_warrantCommand {s : State} {kind : Byte} {c : Instr} {body : List Byte}
    (mem : (kind, c) ∈ (0x40, .warrantOpen) :: (0x47, .warrantList) :: namingCommands) (takes : CustodyTakes s kind body)
    (fits : bodyFits kind body = true) : ∃ act, exec c s = s.afterTaking.served kind act := by
  obtain opens | lists | names := by simpa only [List.mem_cons] using mem
  · obtain ⟨rfl, rfl⟩ := Prod.mk.inj opens
    obtain ⟨f, read⟩ := readWarrantOpen_of_fits fits
    exact ⟨_, takes.serves read⟩
  · obtain ⟨rfl, rfl⟩ := Prod.mk.inj lists
    exact ⟨_, takes.serves (readNothing_of_length (by simpa [bodyFits] using fits))⟩
  · obtain ⟨_, _, _, answer⟩ := exec_namingCommand names takes fits
    exact ⟨_, answer⟩

/-- Settles O20: the device-state check comes first in each command, and the lookup next in those that name a warrant. -/
theorem warrantCommandsAreChecked : Obligations.WarrantCommandsAreChecked := by
  refine ⟨fun s kind c body mem takes fits => ?_, fun s kind c id rest mem takes fits mode => ?_⟩
  · obtain ⟨act, answer⟩ := exec_warrantCommand mem takes fits
    rw [answer]
    exact ⟨fun mode => State.served_refuses (State.serviceRefusal_of_uninitialised mode) kind act,
      fun mode => State.served_refuses (State.serviceRefusal_of_locked mode) kind act⟩
  · obtain ⟨named, act, head, answer⟩ := exec_namingCommand mem takes fits
    obtain rfl : id = named := Option.some.inj head
    rw [answer]
    refine ⟨fun zero => ?_, fun range absent => ?_⟩
    · rw [zero, State.withWarrant_zero mode]
    · rw [State.withWarrant_lookup mode range, State.warrant_eq_none.2 absent]

/-! ### WARRANT_OPEN -/

theorem u8_toNat (b : Byte) : u8 b.toNat = b := by simp [u8]

theorem toNat_u8 {n : Nat} (byte : n < 256) : (u8 n).toNat = n := by
  rw [u8, BitVec.toNat_ofNat]
  exact Nat.mod_eq_of_lt byte

/-- A WARRANT_OPEN is read as it is written (R171). -/
theorem readWarrantOpen_be (id issuer master lanes : Byte) {total : Nat} {digits : List Byte} (word : total < 4294967296)
    (byte : digits.length < 256) :
    readWarrantOpen ([id, issuer, master] ++ be 4 total ++ u8 digits.length :: digits ++ [lanes]) =
      some ⟨id, issuer, master, total, digits, lanes⟩ := by
  have count := toNat_u8 byte
  have value : ofBe (be 4 total) = total := (ofBe_be 4 total).trans (Nat.mod_eq_of_lt word)
  have read : readWarrantOpen ([id, issuer, master] ++ be 4 total ++ u8 digits.length :: digits ++ [lanes]) =
      if (digits ++ [lanes]).length = (u8 digits.length).toNat + 1 then
        some ⟨id, issuer, master, ofBe (be 4 total), (digits ++ [lanes]).take (u8 digits.length).toNat,
          (digits ++ [lanes]).getLastD 0⟩
      else none := rfl
  rw [read, if_pos (by rw [count, List.length_append, List.length_singleton]), value, count, List.take_left]
  simp

/-- The form check of WARRANT_OPEN, all fields but the master slot (R60 check 1). -/
def WarrantForm.inRange (f : WarrantForm) : Bool :=
  1 ≤ f.id.toNat && 1 ≤ f.issuer.toNat && f.issuer.toNat ≤ 30 && 1 ≤ f.total && f.total ≤ 1000000
    && prefixFormOk f.digits && 1 ≤ f.lanes.toNat && f.lanes.toNat ≤ 15

/-- The record of a WARRANT_OPEN that names this master slot (R61). -/
def WarrantForm.opened (f : WarrantForm) (master : SlotId) (serial : Nat) : Warrant :=
  { serial := serial, id := f.id.toNat, issuer := f.issuer.toNat, master := master, total := f.total, delivered := 0
    digits := if f.digits = [] then none else some f.digits, lanes := f.lanes.setWidth 4, state := .opened }

theorem WarrantForm.record_noSlot {f : WarrantForm} (slot : 47 < f.master.toNat) (serial : Nat) : f.record serial = none := by
  simp only [WarrantForm.record, readSlot_eq_none.2 slot]

theorem WarrantForm.record_eq {f : WarrantForm} {m : SlotId} (slot : f.master = u8 m.val) (serial : Nat) :
    f.record serial = if f.inRange then some (f.opened m serial) else none := by
  have range : (warrantIdOk f.id.toNat && issuerOk f.issuer.toNat && 1 ≤ f.total && f.total ≤ maxTotal
      && prefixFormOk f.digits && f.lanes != 0 && f.lanes.toNat < 16) = f.inRange := by
    have zero : f.lanes = 0 ↔ f.lanes.toNat = 0 := BitVec.toNat_inj.symm
    have byte : f.id.toNat < 256 := f.id.isLt
    rw [Bool.eq_iff_iff]
    simp only [WarrantForm.inRange, warrantIdOk, issuerOk, Bool.and_eq_true, decide_eq_true_eq, bne_iff_ne, ne_eq, zero]
    have most : maxTotal = 1000000 := rfl
    cases prefixFormOk f.digits with
    | false => simp
    | true => simp only [and_true]; omega
  have digits : (if f.digits.isEmpty then none else some f.digits) = if f.digits = [] then none else some f.digits := by
    cases f.digits <;> rfl
  simp only [WarrantForm.record, slot, readSlot_u8, range, digits, WarrantForm.opened]

theorem length_insertWarrant (w : Warrant) (ws : List Warrant) : (insertWarrant w ws).length = ws.length + 1 :=
  (insertWarrant_perm w ws).length_eq

/-- WARRANT_OPEN in OPERATIONAL: the form, the table and the master slot are checked, and the record is added. -/
theorem exec_warrantOpen {s : State} {body : List Byte} {f : WarrantForm} (takes : CustodyTakes s kindWarrantOpen body)
    (read : readWarrantOpen body = some f) (mode : s.mode = .operational) :
    exec .warrantOpen s =
      match f.record s.nextSerial with
      | none => .next (s.afterRefusal kindWarrantOpen .parameter)
      | some w =>
        match s.openRefusal w with
        | some code => .next (s.afterRefusal kindWarrantOpen code)
        | none =>
          .next ((s.addWarrant w).afterReply
            (.ok kindWarrantOpen .none ([u8 w.id] ++ be 4 w.total ++ [u8 (s.warrants.length + 1)]))) := by
  change execWarrantOpen s = _
  rw [execWarrantOpen, takes.serves read, State.served_passes mode]
  have serial : s.afterTaking.nextSerial = s.nextSerial := rfl
  have refusal (w : Warrant) : s.afterTaking.openRefusal w = s.openRefusal w := rfl
  rw [serial]
  cases f.record s.nextSerial with
  | none => rfl
  | some w =>
    dsimp only
    rw [refusal]
    cases s.openRefusal w with
    | some code => rfl
    | none =>
      dsimp only
      rw [← length_insertWarrant w s.warrants]
      rfl

theorem State.warrant_isSome (s : State) (n : Nat) : (s.warrant n).isSome = s.warrants.any fun w => w.id == n :=
  List.isSome_find?

/-- Settles O21: the form, the id, the table's room and the master slot are checked in that order. -/
theorem warrantOpenAddsARecord : Obligations.WarrantOpenAddsARecord := by
  intro s id issuer master lanes total digits word byte takes mode
  have answer := exec_warrantOpen takes (readWarrantOpen_be id issuer master lanes word byte) mode
  generalize form : (⟨id, issuer, master, total, digits, lanes⟩ : WarrantForm) = f at answer
  refine ⟨fun slot => ?_, fun m slot => ?_⟩
  · rw [answer, WarrantForm.record_noSlot (by rw [← form]; exact slot)]
  · rw [answer, WarrantForm.record_eq (by rw [← form]; exact slot)]
    subst form
    change _ = Host.Outcome.next
      (if WarrantForm.inRange ⟨id, issuer, master, total, digits, lanes⟩ = false then _ else if _ then _ else if _ then _ else _)
    cases WarrantForm.inRange ⟨id, issuer, master, total, digits, lanes⟩ with
    | false => rfl
    | true =>
      dsimp only [WarrantForm.opened]
      rw [if_pos rfl, if_neg (show ¬ (true = false) from nofun)]
      simp only [State.openRefusal, State.warrant_isSome]
      by_cases used : (s.warrants.any fun x => x.id == id.toNat) = true
      · rw [if_pos used, if_pos used]
      · rw [if_neg used, if_neg used]
        by_cases full : 32 ≤ s.warrants.length
        · rw [if_pos full, if_pos (show maxWarrants ≤ _ from full)]
        · rw [if_neg full, if_neg (show ¬ maxWarrants ≤ _ from full), Slot.masterRefusal]
          cases s.slots[m].body with
          | empty => rfl
          | assembling => rfl
          | faulty => rfl
          | active a c =>
            dsimp only
            cases a.kind with
            | transport => rfl
            | derivation size i =>
              dsimp only
              by_cases issues : i = issuer.toNat
              · rw [if_pos issues, if_neg (not_not.2 issues)]
                dsimp only
                rw [u8_toNat]
                rfl
              · rw [if_neg issues, if_pos issues]

/-! ### WARRANT_HOLD, WARRANT_RELEASE, WARRANT_EXTEND, WARRANT_CLOSE, WARRANT_PURGE -/

/-- The record found by an id carries it (R56). -/
theorem State.warrant_id {s : State} {id : Byte} {w : Warrant} (found : s.warrant id.toNat = some w) : u8 w.id = id := by
  have same : w.id = id.toNat := by simpa using List.find?_some found
  rw [same, u8_toNat]

theorem Warrant.live_of_not_closed {w : Warrant} (h : ∀ r, w.state ≠ .closed r) : w.live = true := by
  unfold Warrant.live
  cases state : w.state with
  | closed r => exact absurd state (h r)
  | opened => rfl
  | held => rfl
  | exhausted => rfl

theorem Warrant.not_live_of_closed {w : Warrant} {r : CloseReason} (h : w.state = .closed r) : w.live = false := by
  simp only [Warrant.live, h]

section

variable {s : State} {id : Byte} {w : Warrant}

theorem exec_warrantHold (takes : CustodyTakes s kindWarrantHold [id]) (mode : s.mode = .operational) (range : id ≠ 0)
    (found : s.warrant id.toNat = some w) :
    exec .warrantHold s =
      if w.state ≠ .opened then .next (s.afterRefusal kindWarrantHold .warrantState)
      else
        .next ({ s with warrants := changed s.warrants w.id fun (x : Warrant) => { x with state := .held } }.afterReply
          (.ok kindWarrantHold .none ([id, 2] ++ be 4 w.total ++ be 4 w.delivered))) := by
  conv_rhs => rw [← State.warrant_id found]
  exact takes.onWarrant rfl mode range found

theorem exec_warrantRelease (takes : CustodyTakes s kindWarrantRelease [id]) (mode : s.mode = .operational)
    (range : id ≠ 0) (found : s.warrant id.toNat = some w) :
    exec .warrantRelease s =
      if w.state ≠ .held then .next (s.afterRefusal kindWarrantRelease .warrantState)
      else
        .next ({ s with warrants := changed s.warrants w.id fun (x : Warrant) => { x with state := .opened } }.afterReply
          (.ok kindWarrantRelease .none ([id, 1] ++ be 4 w.total ++ be 4 w.delivered))) := by
  conv_rhs => rw [← State.warrant_id found]
  exact takes.onWarrant rfl mode range found

theorem readWarrantExtend_be (id : Byte) {add : Nat} (word : add < 4294967296) :
    readWarrantExtend (id :: be 4 add) = some (id, add) := by
  have value : ofBe (be 4 add) = add := (ofBe_be 4 add).trans (Nat.mod_eq_of_lt word)
  exact congrArg (fun n => some (id, n)) value

theorem exec_warrantExtend {add : Nat} (word : add < 4294967296) (takes : CustodyTakes s kindWarrantExtend (id :: be 4 add))
    (mode : s.mode = .operational) (range : id ≠ 0) (found : s.warrant id.toNat = some w) :
    exec .warrantExtend s =
      if add < 1 ∨ 1000000 < add then .next (s.afterRefusal kindWarrantExtend .parameter)
      else if !w.live then .next (s.afterRefusal kindWarrantExtend .warrantState)
      else
        .next ({ s with warrants := changed s.warrants w.id fun x => x.extend add }.afterReply
          (.ok kindWarrantExtend (if 1000000 < w.total + add then .clamped else .none)
            ([id, (w.extend add).state.byte] ++ be 4 (w.extend add).total ++ be 4 (w.extend add).remaining))) := by
  conv_rhs => rw [← State.warrant_id found]
  exact takes.onWarrant (readWarrantExtend_be id word) mode range found

theorem exec_warrantClose (takes : CustodyTakes s kindWarrantClose [id]) (mode : s.mode = .operational) (range : id ≠ 0)
    (found : s.warrant id.toNat = some w) :
    exec .warrantClose s =
      if !w.live then .next (s.afterRefusal kindWarrantClose .warrantState)
      else
        .next ({ s.withRefs w.master (s.slots[w.master].refs - 1) with
            warrants := changed s.warrants w.id fun (x : Warrant) => { x with state := .closed .byCommand } }.afterReply
          (.ok kindWarrantClose .none
            ([id] ++ be 4 w.total ++ be 4 w.delivered ++ be 4 (w.total - w.delivered)))) := by
  conv_rhs => rw [← State.warrant_id found]
  exact takes.onWarrant rfl mode range found

theorem exec_warrantPurge (takes : CustodyTakes s kindWarrantPurge [id]) (mode : s.mode = .operational) (range : id ≠ 0)
    (found : s.warrant id.toNat = some w) :
    exec .warrantPurge s =
      if w.live then .next (s.afterRefusal kindWarrantPurge .warrantState)
      else
        .next ({ s with warrants := s.warrants.filter fun x => x.id != w.id }.afterReply
          (.ok kindWarrantPurge .none ([id, w.state.reasonByte] ++ be 4 w.delivered))) := by
  conv_rhs => rw [← State.warrant_id found]
  exact takes.onWarrant rfl mode range found

end

/-- Settles O22: past the lookup the state of the record decides in each of the three commands. -/
theorem warrantsAreHeldExtendedAndClosed : Obligations.WarrantsAreHeldExtendedAndClosed := by
  refine ⟨fun s id w takes mode range found => ?_, fun s id add w word takes mode range found => ?_,
    fun s id w takes mode range found => ?_⟩
  · rw [exec_warrantHold takes mode range found]
    exact ⟨fun opened => if_neg (not_not.2 opened), fun other => if_pos other⟩
  · rw [exec_warrantExtend word takes mode range found]
    refine ⟨fun out => if_pos out, fun low high closed => ?_, fun low high open_ => ?_⟩
    · obtain ⟨r, closed⟩ := closed
      rw [if_neg (by omega), Warrant.not_live_of_closed closed]
      rfl
    · have clamped : 1000000 < w.total + add ↔ min (w.total + add) 1000000 < w.total + add := by omega
      rw [if_neg (by omega), Warrant.live_of_not_closed open_]
      simp only [Warrant.extend_eq, Warrant.remaining, clamped]
      rfl
  · rw [exec_warrantClose takes mode range found]
    refine ⟨fun ⟨r, closed⟩ => ?_, fun live => ?_⟩
    · rw [Warrant.not_live_of_closed closed]
      rfl
    · rw [Warrant.live_of_not_closed live]
      rfl

/-- Settles O23: past the lookup a HELD record is OPEN again, and every other is refused. -/
theorem warrantReleaseResumesAJob : Obligations.WarrantReleaseResumesAJob := by
  intro s id w takes mode range found
  rw [exec_warrantRelease takes mode range found]
  exact ⟨fun held => if_neg (not_not.2 held), fun other => if_pos other⟩

/-- Settles O24: past the lookup a CLOSED record leaves the table, and a live one is refused. -/
theorem warrantPurgeRemovesARecord : Obligations.WarrantPurgeRemovesARecord := by
  intro s id w takes mode range found
  rw [exec_warrantPurge takes mode range found]
  refine ⟨fun live => if_pos (Warrant.live_of_not_closed live), fun r closed => ?_⟩
  rw [Warrant.not_live_of_closed closed, closed]
  rfl

/-! ### WARRANT_STATUS and WARRANT_LIST -/

theorem prefixBytes_eq_digitField (digits : Option (List Byte)) : prefixBytes digits = digitField digits := by
  cases digits <;> rfl

theorem exec_warrantStatus_custody {s : State} {id : Byte} {w : Warrant} (takes : CustodyTakes s kindWarrantStatus [id])
    (mode : s.mode = .operational) (range : id ≠ 0) (found : s.warrant id.toNat = some w) :
    exec (.warrantStatus .custody) s = .next (s.afterReply (.ok kindWarrantStatus .none w.report)) :=
  takes.onWarrant rfl mode range found

/-- A lane's request is taken off, and the lane leaves the pending set (R105, R108). -/
def State.afterLaneTaking (s : State) (l : LaneId) : State := (s.popFrame (.lane l)).withdraw (.lane l)

theorem State.reply_afterLaneTaking (s : State) (l : LaneId) (r : Reply) :
    (s.afterLaneTaking l).reply (.lane l) r = s.afterLaneReply l r := by
  simp [State.afterLaneTaking, State.afterLaneReply, State.popFrame, State.withdraw, State.reply, State.setLink,
    State.link, State.setLane, Requester.bit, Requester.bitIndex]

/-- The lane form of WARRANT_STATUS places its reply, and does nothing else (R67). -/
theorem State.serveLane_warrantStatus (s : State) (l : LaneId) (body : List Byte) :
    s.serveLane l ⟨kindWarrantStatus, body⟩ = s.afterLaneReply l (s.warrantStatusReply l body) := by
  have answer : s.serveLane l ⟨kindWarrantStatus, body⟩ = (s.afterLaneTaking l).answerWarrantStatus l body := rfl
  rw [answer, State.answerWarrantStatus_eq, State.reply_afterLaneTaking]
  rfl

theorem exec_warrantStatus_lane {s : State} {l : LaneId} {body : List Byte} (takes : LaneTakes s l kindWarrantStatus body) :
    exec (.warrantStatus (.lane l)) s = .next (s.afterLaneReply l (s.warrantStatusReply l body)) := by
  rw [← State.serveLane_warrantStatus]
  exact takes.take (fun k => k == kindWarrantStatus) (beq_self_eq_true _)

theorem State.warrantStatusReply_refused {s : State} {l : LaneId} {id : Byte} {code : Code}
    (refuses : s.serviceRefusal = some code) : s.warrantStatusReply l [id] = .refused kindWarrantStatus code [] := by
  simp only [State.warrantStatusReply, readByte, refuses]

theorem State.warrantStatusReply_zero {s : State} {l : LaneId} (mode : s.mode = .operational) :
    s.warrantStatusReply l [0] = .refused kindWarrantStatus .parameter [] := by
  simp only [State.warrantStatusReply, readByte, State.serviceRefusal_of_operational mode, warrantIdOk_toNat]
  rfl

theorem State.warrantStatusReply_lookup {s : State} {l : LaneId} {id : Byte} (mode : s.mode = .operational) (range : id ≠ 0) :
    s.warrantStatusReply l [id] =
      match s.warrantFor l id.toNat with
      | none => .refused kindWarrantStatus .noSuchWarrant []
      | some w => .ok kindWarrantStatus .none w.laneReport := by
  simp only [State.warrantStatusReply, readByte, State.serviceRefusal_of_operational mode, warrantIdOk_toNat,
    decide_eq_true range]
  rfl

theorem exec_warrantList {s : State} (takes : CustodyTakes s kindWarrantList []) (mode : s.mode = .operational) :
    exec .warrantList s =
      .next (s.afterReply (.ok kindWarrantList .none (u8 s.warrants.length :: s.warrants.flatMap Warrant.line))) :=
  (takes.serves (form := readNothing) rfl).trans (State.served_passes mode _ _)

/-- Settles O25: each report is read off the record found; a lane finds only those whose lane set it is in. -/
theorem warrantReports : Obligations.WarrantReports := by
  refine ⟨fun s id w takes mode range found => ?_, fun s l id takes => ?_, fun s takes mode => exec_warrantList takes mode⟩
  · rw [exec_warrantStatus_custody takes mode range found, Warrant.report, State.warrant_id found,
      prefixBytes_eq_digitField]
    rfl
  · dsimp only
    rw [exec_warrantStatus_lane takes]
    refine ⟨fun mode => ?_, fun mode => ?_, fun mode zero => ?_, fun mode range hidden => ?_,
      fun w mode range found admitted => ?_⟩
    · rw [State.warrantStatusReply_refused (State.serviceRefusal_of_uninitialised mode)]
    · rw [State.warrantStatusReply_refused (State.serviceRefusal_of_locked mode)]
    · rw [zero, State.warrantStatusReply_zero mode]
    · have none : s.warrantFor l id.toNat = none := by
        rw [State.warrantFor, Option.filter_eq_none_iff]
        intro w found
        rw [hidden w found]
        exact Bool.false_ne_true
      rw [State.warrantStatusReply_lookup mode range, none]
    · have some : s.warrantFor l id.toNat = some w := by
        rw [State.warrantFor, found, Option.filter_some, if_pos admitted]
      rw [State.warrantStatusReply_lookup mode range, some]
      dsimp only
      rw [Warrant.laneReport, State.warrant_id found, prefixBytes_eq_digitField]
      rfl

/-- With ids in ascending order, what a lane finds under an id is what it finds among the records whose lane set it is in (R56, R67). -/
theorem find?_filter_admitted {ws : List Warrant} (ids : ws.Pairwise fun a b => a.id < b.id) (l : LaneId) (n : Nat) :
    (ws.find? fun w => w.id == n).filter (fun w => inLaneSet w.lanes l) =
      (ws.filter fun w => inLaneSet w.lanes l).find? fun w => w.id == n := by
  induction ws with
  | nil => rfl
  | cons w ws ih =>
    obtain ⟨above, ids⟩ := List.pairwise_cons.1 ids
    by_cases carries : w.id = n
    · have others : ∀ v ∈ ws, ¬ (v.id == n) = true := fun v hv => by simpa using (carries ▸ above v hv).ne'
      cases admitted : inLaneSet w.lanes l with
      | true => simp [carries, admitted]
      | false =>
        have hidden : (ws.filter fun w => inLaneSet w.lanes l).find? (fun w => w.id == n) = none :=
          List.find?_eq_none.2 fun v hv => others v (List.mem_of_mem_filter hv)
        simp [carries, admitted, hidden]
    · have skip : (w.id == n) = false := by simpa using carries
      rw [List.find?_cons, skip, ih ids]
      cases admitted : inLaneSet w.lanes l with
      | true => simp [admitted, skip]
      | false => simp [admitted]

/-- Tables that agree on the warrants whose lane set a lane is in give it the same reply (R67). -/
theorem State.warrantStatusReply_congr {s : State} {other : List Warrant} {l : LaneId}
    (ids : s.warrants.Pairwise fun a b => a.id < b.id) (otherIds : other.Pairwise fun a b => a.id < b.id)
    (agree : (s.warrants.filter fun w => inLaneSet w.lanes l) = other.filter fun w => inLaneSet w.lanes l)
    (body : List Byte) : ({ s with warrants := other } : State).warrantStatusReply l body = s.warrantStatusReply l body := by
  have found (n : Nat) : ({ s with warrants := other } : State).warrantFor l n = s.warrantFor l n := by
    rw [State.warrantFor, State.warrantFor, State.warrant, State.warrant, find?_filter_admitted ids,
      find?_filter_admitted otherIds, agree]
  have refusal : ({ s with warrants := other } : State).serviceRefusal = s.serviceRefusal := rfl
  simp only [State.warrantStatusReply, found, refusal]

/-- Settles O57: the request is taken alike under both tables, and answered alike. -/
theorem warrantStatusHidesOtherWarrants : Obligations.WarrantStatusHidesOtherWarrants := by
  intro s other l ids otherIds agree
  have request : ∀ u : State, exec (.warrantStatus (.lane l)) u = u.takeLane l fun k => k == kindWarrantStatus := fun _ => rfl
  have alike : ({ s with warrants := other } : State).lanes = s.lanes := rfl
  simp only [request, State.takeLane]
  rw [alike]
  split
  · exact ⟨s, rfl, rfl⟩
  · rename_i f rest head
    have ready : ({ s with warrants := other } : State).laneReady l f.kind = s.laneReady l f.kind := rfl
    rw [ready]
    split
    · rename_i taken
      obtain ⟨kind, body⟩ := f
      obtain rfl : kind = kindWarrantStatus := by simpa using (Bool.and_eq_true_iff.1 taken).2
      refine ⟨_, rfl, ?_⟩
      rw [State.serveLane_warrantStatus, State.serveLane_warrantStatus,
        State.warrantStatusReply_congr ids otherIds agree]
      rfl
    · exact ⟨s, rfl, rfl⟩

end Sys2Proof.Machine
end

section
/-! PROOFS about a delivered entry: the three operations that make and wrap the card key (R82 to R85). -/

namespace Sys2Proof.Machine

/-! ### The walk leaves every lane's chain as it is -/

/-- Every lane keeps its chain value and its position in the chain (R84). -/
def ChainsKept (s t : State) : Prop :=
  ∀ k : LaneId, t.lanes[k].chain = s.lanes[k].chain ∧ t.lanes[k].position = s.lanes[k].position

theorem ChainsKept.trans {s t u : State} (st : ChainsKept s t) (tu : ChainsKept t u) : ChainsKept s u :=
  fun k => ⟨(tu k).1.trans (st k).1, (tu k).2.trans (st k).2⟩

theorem ChainsKept.of_lanes {s t : State} (lanes : t.lanes = s.lanes) : ChainsKept s t :=
  fun k => by rw [lanes]; exact ⟨rfl, rfl⟩

theorem chainsKept_setLane {s : State} {l : LaneId} {x : Lane} (chain : x.chain = s.lanes[l].chain)
    (position : x.position = s.lanes[l].position) : ChainsKept s (s.setLane l x) := by
  intro k
  by_cases same : l = k
  · subst same
    rw [State.setLane_same]
    exact ⟨chain, position⟩
  · rw [State.setLane_other s l k x same]
    exact ⟨rfl, rfl⟩

theorem chainsKept_beginRunGrant (s : State) (l : LaneId) : ChainsKept s (s.beginRunGrant l) := by
  unfold State.beginRunGrant
  dsimp only
  split
  · exact .of_lanes (State.withdraw_lanes s _)
  · have pointer : ChainsKept s ((s.withdraw (.lane l)).setPointer l) := .of_lanes (by simp)
    exact pointer.trans (chainsKept_setLane (by rfl) (by rfl))

theorem chainsKept_release (s : State) : ChainsKept s s.release := by
  have idle : ChainsKept s { s with engine := .idle } := .of_lanes rfl
  refine idle.trans ?_
  rw [State.release]
  unfold State.choose
  split
  · exact .of_lanes rfl
  · exact .of_lanes (State.beginCustodyGrant_lanes _)
  · exact chainsKept_beginRunGrant _ _

theorem chainsKept_endWalk (s : State) (g : RunGrant) (r : Run) (results : List EntryResult) (next : Nat)
    (reason : Option EndReason) : ChainsKept s (s.endWalk g r results next reason) :=
  (chainsKept_setLane (by rfl) (by rfl)).trans (chainsKept_release _)

theorem chainsKept_runStop (s : State) (l : LaneId) : ChainsKept s (s.runStop l) := by
  unfold State.runStop
  dsimp only
  split
  · exact .of_lanes rfl
  · rename_i r _
    split
    · exact (chainsKept_setLane (x := s.lanes[l].leave r .stopped) rfl rfl).trans (.of_lanes (State.withdraw_lanes _ _))
    · exact chainsKept_setLane (by rfl) (by rfl)
    · split
      · exact .of_lanes rfl
      · exact chainsKept_setLane (by rfl) (by rfl)
    · exact .of_lanes rfl

theorem chainsKept_walkOn (s : State) (g : RunGrant) : ChainsKept s (s.walkOn g) := by
  unfold State.walkOn
  split
  · exact .of_lanes rfl
  · dsimp only
    split
    · exact chainsKept_setLane (by rfl) (by rfl)
    · split
      · exact (chainsKept_endWalk _ _ _ _ _ _).trans (chainsKept_runStop _ _)
      · exact chainsKept_endWalk _ _ _ _ _ _
    · exact chainsKept_endWalk _ _ _ _ _ _

/-! ### The three operations -/

section

variable {s : State} {g : RunGrant} {w : Work} {op : BlockOp}

theorem exec_cardKeyDerivationEnd (engine : s.engine = .lane g) (stage : g.stage = .deriving w op) :
    exec .cardKeyDerivationEnd s =
      .next { s with
        engine := .lane
          { g with performed := g.performed + 1, stage := .checking w op.result (.encipher (.k16 op.result) 0) } } := by
  change execCardKeyDerivationEnd s = _
  simp only [execCardKeyDerivationEnd, engine, stage]

theorem exec_cardCheckValueEnd {ck : Block} {key : KeyValue} (engine : s.engine = .lane g)
    (stage : g.stage = .checking w ck op) (transport : s.transportKey g.lane = some key) :
    exec .cardCheckValueEnd s =
      .next { s with
        engine := .lane
          { g with
            performed := g.performed + 1
            stage := .keystream w ck (firstThree op.result) (.encipher key s.lanes[g.lane].chain) } } := by
  change execCardCheckValueEnd s = _
  simp only [execCardCheckValueEnd, engine, stage, transport]

theorem exec_keystreamBlockEnd {ck : Block} {check : CheckValue} {r : Run} (engine : s.engine = .lane g)
    (stage : g.stage = .keystream w ck check op) (run : s.lanes[g.lane].run = some r) :
    exec .keystreamBlockEnd s =
      .next ((s.completeEntry g r.tie op.result).walkOn (g.delivered (ck ^^^ op.result) check)) := by
  change execKeystreamBlockEnd s = _
  simp only [execKeystreamBlockEnd, engine, stage, run]

/-- A grant that stands at an entry boundary walks on from it (R87). -/
theorem exec_grant_opening (mode : s.mode.running = true) (engine : s.engine = .lane g) (stage : g.stage = .opening) :
    exec .grant s = .next (s.walkOn g) := by
  change execGrant s = _
  simp only [execGrant, mode, engine, stage]
  rfl

end

/-- The key of an ACTIVE transport slot is the lane's transport key (R3, R84). -/
theorem State.transportKey_of_active {s : State} {l : LaneId} {i : SlotId} {a : Attributes} {c : Contents}
    (transport : s.lanes[l].transport = some i) (body : s.slots[i].body = .active a c) : s.transportKey l = some c.key := by
  simp only [State.transportKey, transport, Slot.activeKey, body]

/-! ### The one write of a delivered entry -/

theorem saturate_eq_min (limit x : Nat) : saturate limit x = min limit (x + 1) := by
  unfold saturate
  split <;> omega

/-- The use count of an ACTIVE slot is raised as the statement writes it (R9, R12). -/
theorem State.raiseUses_of_active {s : State} {i : SlotId} {a : Attributes} {c : Contents}
    (body : s.slots[i].body = .active a c) : s.raiseUses i = { s with slots := s.slots.set i (s.slots[i].used i a c) } := by
  simp only [State.raiseUses, State.writeSlot, body, SlotBody.raiseUses, saturate_eq_min, Slot.used]
  rfl

/-- Both use counts are raised, each from the slot as it was (R9, R85). -/
theorem State.raiseUses_both {s : State} {m t : SlotId} {a b : Attributes} {c d : Contents} (differ : m ≠ t)
    (master : s.slots[m].body = .active a c) (transport : s.slots[t].body = .active b d) :
    (s.raiseUses m).raiseUses t =
      { s with slots := (s.slots.set m (s.slots[m].used m a c)).set t (s.slots[t].used t b d) } := by
  have apart : m.val ≠ t.val := fun e => differ (Fin.ext e)
  have other : (s.raiseUses m).slots[t] = s.slots[t] := State.writeSlot_other s m t _ _ _ differ
  rw [State.raiseUses_of_active (s := s.raiseUses m) (other ▸ transport), other, State.raiseUses_of_active master]

/-- One write of a delivered entry: the debit, both use counts and the chain (R85). -/
theorem State.completeEntry_eq {s : State} {g : RunGrant} {m t : SlotId} {a b : Attributes} {c d : Contents}
    (named : g.master = some m) (transport : s.lanes[g.lane].transport = some t) (differ : m ≠ t)
    (masterBody : s.slots[m].body = .active a c) (transportBody : s.slots[t].body = .active b d) (tie : Nat) (o : Block) :
    s.completeEntry g tie o =
      { s with
        warrants := s.warrants.map fun (x : Warrant) => if x.serial = tie then x.debited else x
        slots := (s.slots.set m (s.slots[m].used m a c)).set t (s.slots[t].used t b d)
        lanes := s.lanes.set g.lane { s.lanes[g.lane] with chain := o, position := s.lanes[g.lane].position + 1 } } := by
  have lane : ((s.debitTied tie).raiseUses m).lanes[g.lane].transport = some t := transport
  have slots := State.raiseUses_both (s := s.debitTied tie) differ masterBody transportBody
  simp only [State.completeEntry, named, State.raiseUsesOf, lane, slots]
  simp only [State.debitTied, Warrant.debit_eq_debited]
  rfl

/-- The write of a delivered entry, with the grant at the next entry's boundary (R85). -/
def State.entryWritten (s : State) (g : RunGrant) (tie : Nat) (ck o : Block) (check : CheckValue) : State :=
  { s.completeEntry g tie o with engine := .lane (g.delivered (ck ^^^ o) check) }

section

variable {s : State} {g : RunGrant} {w : Work} {op : BlockOp} {ck : Block} {check : CheckValue} {r : Run}

theorem State.entryWritten_lane (tie : Nat) (o : Block) :
    (s.entryWritten g tie ck o check).lanes[g.lane] =
      { s.lanes[g.lane] with chain := o, position := s.lanes[g.lane].position + 1 } :=
  State.completeEntry_lane s g tie o

/-- The walk after the write is the walk from the state written. -/
theorem exec_keystreamBlockEnd_walks (engine : s.engine = .lane g) (stage : g.stage = .keystream w ck check op)
    (run : s.lanes[g.lane].run = some r) :
    exec .keystreamBlockEnd s =
      .next ((s.entryWritten g r.tie ck op.result check).walkOn (g.delivered (ck ^^^ op.result) check)) := by
  have stillRuns : (s.completeEntry g r.tie op.result).lanes[(g.delivered (ck ^^^ op.result) check).lane].run = some r :=
    (congrArg Lane.run (State.completeEntry_lane s g r.tie op.result)).trans run
  rw [exec_keystreamBlockEnd engine stage run]
  exact congrArg Host.Outcome.next (State.walkOn_setEngine stillRuns _).symm

/-- It is also what a grant would do there (R87). -/
theorem exec_keystreamBlockEnd_eq_grant (engine : s.engine = .lane g) (stage : g.stage = .keystream w ck check op)
    (run : s.lanes[g.lane].run = some r) (mode : s.mode.running = true) :
    exec .keystreamBlockEnd s = exec .grant (s.entryWritten g r.tie ck op.result check) := by
  have running : (s.entryWritten g r.tie ck op.result check).mode.running = true := by
    rw [State.entryWritten, State.completeEntry_mode]
    exact mode
  rw [exec_keystreamBlockEnd_walks engine stage run, exec_grant_opening running rfl rfl]

end

/-- Settles O35: each operation's end begins the next, and the third one's write is followed by the walk that a grant at
that boundary makes. -/
theorem deliveredEntryMakesTheCardKey : Obligations.DeliveredEntryMakesTheCardKey := by
  intro s g w op engine
  refine ⟨fun stage => exec_cardKeyDerivationEnd engine stage, fun ck i a c stage transport body =>
    exec_cardCheckValueEnd engine stage (State.transportKey_of_active transport body), ?_⟩
  intro ck check r m t a b c d stage mode run named transport differ masterBody transportBody completed
  have written : completed = s.entryWritten g r.tie ck op.result check := by
    rw [State.entryWritten, State.completeEntry_eq named transport differ masterBody transportBody]
    rfl
  rw [written]
  obtain ⟨chain, position⟩ := chainsKept_walkOn (s.entryWritten g r.tie ck op.result check)
    (g.delivered (ck ^^^ op.result) check) g.lane
  refine ⟨exec_keystreamBlockEnd_eq_grant engine stage run mode, _, exec_keystreamBlockEnd_walks engine stage run,
    State.walkOn_warrants _ _, State.walkOn_slots _ _, ?_, ?_⟩
  · rw [chain, State.entryWritten_lane]
  · rw [position, State.entryWritten_lane]

end Sys2Proof.Machine
end

section
/-! SUPPORT. The laws of budgets and of chains (R84, R86, R89, R93, R101, R119), and the shared operations that keep them: what a
lane's chain is measured against, a grant that begins or goes on, and the slots and lanes that a step may write under one. -/

namespace Sys2Proof.Machine

/-! ### The law of chains, lane by lane -/

/-- What the law of chains speaks of in a lane's context. -/
def Lane.chainPart (x : Lane) : Option SlotId × Block × Block × BitVec 32 := (x.transport, x.initial, x.chain, x.position)

theorem Lane.chainPart_eq {x y : Lane} : x.chainPart = y.chainPart ↔
    x.transport = y.transport ∧ x.initial = y.initial ∧ x.chain = y.chain ∧ x.position = y.position := by
  simp only [Lane.chainPart, Prod.mk.injEq]

/-- The transport key is that of the ACTIVE slot the lane is bound to. -/
theorem State.transportKey_eq_some {s : State} {l : LaneId} {key : KeyValue} : s.transportKey l = some key ↔
    ∃ i : SlotId, s.lanes[l].transport = some i ∧ s.slots[i].activeKey = some key := by
  unfold State.transportKey
  generalize s.lanes[l].transport = binding
  cases binding with
  | none => simp
  | some i => simp

theorem State.transportKey_unbound {s : State} {l : LaneId} (unbound : s.lanes[l].transport = none) :
    s.transportKey l = none := by simp only [State.transportKey, unbound]

/-- The same binding to a slot with the same key has the same transport key. -/
theorem State.transportKey_congr {s t : State} {l : LaneId} (transport : t.lanes[l].transport = s.lanes[l].transport)
    (keys : ∀ i : SlotId, s.lanes[l].transport = some i → t.slots[i].activeKey = s.slots[i].activeKey) :
    t.transportKey l = s.transportKey l := by
  unfold State.transportKey
  rw [transport]
  cases bound : s.lanes[l].transport with
  | none => rfl
  | some i => exact keys i bound

/-- The law of chains on one lane (R101). -/
def State.ChainAt (s : State) (l : LaneId) : Prop :=
  ∀ key, s.transportKey l = some key → ∃ n : Nat, s.lanes[l].position = BitVec.ofNat 32 n ∧
    s.lanes[l].chain = chainAfter key s.lanes[l].initial n

theorem ChainLaw.chainAt {s : State} (h : ChainLaw s) (l : LaneId) : s.ChainAt l := fun key hk => by
  obtain ⟨i, bound, active⟩ := State.transportKey_eq_some.1 hk
  exact h.chains l i key bound active

/-- A lane without a transport key has no chain to keep. -/
theorem State.chainAt_of_none {s : State} {l : LaneId} (h : s.transportKey l = none) : s.ChainAt l :=
  fun key hk => by rw [h] at hk; cases hk

/-- A chain that begins anew is the initial value after no blocks (R98, R116). -/
theorem State.chainAt_of_reset {s : State} {l : LaneId} (chain : s.lanes[l].chain = s.lanes[l].initial)
    (position : s.lanes[l].position = 0) : s.ChainAt l := fun _ _ => ⟨0, position, chain⟩

/-- A chain left as it is, under the same key if still under one. -/
theorem State.ChainAt.congr {s t : State} {l : LaneId} (h : s.ChainAt l)
    (part : t.lanes[l].chainPart = s.lanes[l].chainPart)
    (key : ∀ key, t.transportKey l = some key → s.transportKey l = some key) : t.ChainAt l := fun k hk => by
  obtain ⟨_, initial, chain, position⟩ := Lane.chainPart_eq.1 part
  rw [initial, chain, position]
  exact h k (key k hk)

/-- A keystream operation on the lane's chain under its transport key (R84). -/
def State.OnChain (s : State) (l : LaneId) (op : BlockOp) : Prop :=
  ∃ key, s.transportKey l = some key ∧ op = .encipher key s.lanes[l].chain

theorem State.OnChain.congr {s t : State} {l : LaneId} {op : BlockOp} (h : s.OnChain l op)
    (key : t.transportKey l = s.transportKey l) (chain : t.lanes[l].chain = s.lanes[l].chain) : t.OnChain l op := by
  unfold State.OnChain
  rw [key, chain]
  exact h

/-- The law goes over with the chains and with the keystream operation in flight, if there still is one. -/
theorem ChainLaw.carry {s t : State} (h : ChainLaw s) (chains : ∀ l, s.ChainAt l → t.ChainAt l)
    (operation : ∀ (g : RunGrant) (w : Work) (ck : Block) (c : CheckValue) (op : BlockOp), t.engine = .lane g →
      g.stage = .keystream w ck c op →
      (∃ g' : RunGrant, s.engine = .lane g' ∧ g'.lane = g.lane ∧ g'.stage = g.stage) ∧
        t.transportKey g.lane = s.transportKey g.lane ∧ t.lanes[g.lane].chain = s.lanes[g.lane].chain) : ChainLaw t where
  chains l i key bound active :=
    chains l (h.chainAt l) key (State.transportKey_eq_some.2 ⟨i, bound, active⟩)
  operation g w ck c op engine stage := by
    obtain ⟨⟨g', engine', lane, stage'⟩, key, chain⟩ := operation g w ck c op engine stage
    have before : s.OnChain g'.lane op := h.operation g' w ck c op engine' (stage'.trans stage)
    exact State.OnChain.congr (lane ▸ before) key chain

/-! ### Both laws -/

/-- The law of budgets goes over, and under a premise the law of chains does too. -/
structure CardLawsKept (P : Prop) (s t : State) : Prop where
  budget : BudgetLaw s → BudgetLaw t
  chains : P → ChainLaw s → ChainLaw t

/-- No lane holds the engine. -/
def State.NoLaneGrant (s : State) : Prop := ∀ g, s.engine ≠ .lane g

theorem BudgetLaw.carry {s t : State} (h : BudgetLaw s) (quantum : t.quantum = s.quantum)
    (engine : ∀ g, t.engine = .lane g → s.engine = .lane g) : BudgetLaw t :=
  ⟨quantum ▸ h.quantum, fun g hg => h.grant g (engine g hg)⟩

section

variable {P : Prop}

theorem CardLawsKept.trans {s t u : State} (h : CardLawsKept P s t) (k : CardLawsKept P t u) : CardLawsKept P s u :=
  ⟨k.budget ∘ h.budget, fun p => k.chains p ∘ h.chains p⟩

/-- An update that keeps quantum and chains, begins no lane grant, and changes the key of no slot that a lane is bound to. -/
theorem CardLawsKept.of_parts {s t : State} (quantum : t.quantum = s.quantum := by rfl)
    (engine : ∀ g, t.engine = .lane g → s.engine = .lane g := by exact fun _ h => h)
    (lanes : ∀ l : LaneId, t.lanes[l].chainPart = s.lanes[l].chainPart := by exact fun _ => rfl)
    (keys : P → ∀ (l : LaneId) (i : SlotId), s.lanes[l].transport = some i →
      t.slots[i].activeKey = s.slots[i].activeKey := by exact fun _ _ _ _ => rfl) : CardLawsKept P s t where
  budget h := h.carry quantum engine
  chains p h := by
    have key (l : LaneId) : t.transportKey l = s.transportKey l :=
      State.transportKey_congr (Lane.chainPart_eq.1 (lanes l)).1 (keys p l)
    refine h.carry (fun l hl => hl.congr (lanes l) fun k hk => key l ▸ hk) fun g w ck c op hg stage => ?_
    exact ⟨⟨g, engine g hg, rfl, rfl⟩, key g.lane, (Lane.chainPart_eq.1 (lanes g.lane)).2.2.1⟩

theorem CardLawsKept.refl (s : State) : CardLawsKept P s s := .of_parts

/-- With no lane grant after it, an update has the quantum and the chains to keep only. -/
theorem CardLawsKept.of_noLaneGrant {s t : State} (engine : P → t.NoLaneGrant) (budget : BudgetLaw s → BudgetLaw t)
    (chains : P → ∀ l, s.ChainAt l → t.ChainAt l) : CardLawsKept P s t where
  budget := budget
  chains p h := h.carry (chains p) fun g _ _ _ _ hg _ => absurd hg (engine p g)

theorem cards_setLane {s : State} {l : LaneId} {x : Lane} (h : x.chainPart = s.lanes[l].chainPart := by rfl) :
    CardLawsKept P s (s.setLane l x) :=
  .of_parts (lanes := fun m => by
    by_cases e : l = m
    · subst e; rw [State.setLane_same]; exact h
    · rw [State.setLane_other _ _ _ _ e])

theorem cards_setLink (s : State) (k : Link) (x : LinkState) : CardLawsKept P s (s.setLink k x) := by
  cases k with
  | custody => exact .of_parts
  | lane l => exact cards_setLane

theorem cardLawsKept_steady : Steady (CardLawsKept P) where
  refl := .refl
  trans := .trans
  reply s k _ := cards_setLink s k _
  popFrame s k := cards_setLink s k _

theorem cards_reply (s : State) (k : Link) (r : Reply) : CardLawsKept P s (s.reply k r) := cards_setLink s k _

theorem cards_frameError (s : State) (k : Link) : CardLawsKept P s (s.frameError k) := cards_setLink s k _

theorem cards_withdraw (s : State) (r : Requester) : CardLawsKept P s (s.withdraw r) := .of_parts

theorem cards_setPointer (s : State) (l : LaneId) : CardLawsKept P s (s.setPointer l) := by
  unfold State.setPointer
  split <;> exact .of_parts

/-! ### Grants -/

/-- The lane's grant record replaced by one within its budget, with no keystream operation begun. -/
theorem cards_setGrant {s : State} {g : RunGrant} (lawful : BudgetLaw s → g.Lawful)
    (stage : ∀ w ck c op, g.stage ≠ .keystream w ck c op) : CardLawsKept P s { s with engine := .lane g } where
  budget h := ⟨h.quantum, fun _ e => Engine.lane.inj e ▸ lawful h⟩
  chains _ h := h.carry (fun _ hl => hl) fun _ w ck c op e hs =>
    absurd (Engine.lane.inj e ▸ hs) (stage w ck c op)

/-- So is a lane's run, with its binding and chain left as they are. -/
theorem cards_setLane_grant {s : State} {l : LaneId} {x : Lane} {g : RunGrant} (lawful : BudgetLaw s → g.Lawful)
    (stage : ∀ w ck c op, g.stage ≠ .keystream w ck c op) (h : x.chainPart = s.lanes[l].chainPart := by rfl) :
    CardLawsKept P s { s.setLane l x with engine := .lane g } :=
  (cards_setLane h).trans (cards_setGrant (fun law => lawful (law.carry rfl fun _ => id)) stage)

/-- A grant just given is within its budget, the quantum (R87, R93). -/
theorem RunGrant.lawful_of_new {g : RunGrant} (budget : quantumOk g.budget = true) (used : g.used = 0)
    (performed : g.performed = 0) (stage : g.stage = .opening) : g.Lawful where
  budget := budget
  used := by simp [used]
  fits h := by rw [stage] at h; cases h
  performed n h := by rw [stage] at h; rw [performed, used, ← Option.some.inj h]
  bound := by rw [performed]; exact Nat.zero_le _

theorem cards_beginRunGrant (s : State) (l : LaneId) : CardLawsKept P s (s.beginRunGrant l) := by
  unfold State.beginRunGrant
  dsimp only
  split
  · exact cards_withdraw s _
  · refine ((cards_withdraw s (.lane l)).trans (cards_setPointer _ l)).trans (cards_setLane_grant (fun h => ?_) nofun)
    exact RunGrant.lawful_of_new (State.setPointer_quantum (s.withdraw (.lane l)) l ▸ h.quantum) rfl rfl rfl

theorem cards_beginCustodyGrant (s : State) : CardLawsKept P s s.beginCustodyGrant := by
  unfold State.beginCustodyGrant
  dsimp only
  split
  · exact .of_parts
  · exact .of_parts (engine := nofun)

theorem cards_choose (s : State) : CardLawsKept P s s.choose := by
  obtain ⟨_, e⟩ | ⟨_, e⟩ | ⟨l, _, e⟩ := s.choose_cases
  · rw [e]; exact .refl s
  · rw [e]; exact cards_beginCustodyGrant s
  · rw [e]; exact cards_beginRunGrant s l

theorem cards_join (s : State) (r : Requester) : CardLawsKept P s (s.join r) := by
  have enrols : CardLawsKept P s (s.enrol r) := .of_parts
  by_cases idle : s.engine = .idle
  · rw [State.join_of_idle idle]; exact enrols.trans (cards_choose _)
  · rw [State.join_of_busy idle]; exact enrols

theorem cards_release (s : State) : CardLawsKept P s s.release :=
  (CardLawsKept.of_parts (s := s) (t := { s with engine := .idle }) (engine := nofun)).trans (cards_choose _)

theorem cards_inProcess (s : State) (p : Option Process) : CardLawsKept P s (s.inProcess p) := .of_parts

theorem cards_startProcess (s : State) (p : Process) : CardLawsKept P s (s.startProcess p) :=
  (cards_inProcess s (some p)).trans (cards_join _ _)

theorem cards_endProcess (s : State) (r : Reply) : CardLawsKept P s (s.endProcess r) :=
  ((cards_inProcess s none).trans (cards_reply _ _ r)).trans (cards_release _)

theorem cards_nextOp (s : State) (g : CustodyGrant) (p : Process) : CardLawsKept P s (s.nextOp g p) :=
  .of_parts (engine := nofun)

/-! ### Runs -/

theorem cards_runStop (s : State) (l : LaneId) : CardLawsKept P s (s.runStop l) := by
  unfold State.runStop
  dsimp only
  split
  · exact .refl s
  · split
    · exact CardLawsKept.trans cards_setLane (cards_withdraw _ (.lane l))
    · exact cards_setLane
    · split
      · exact .refl s
      · exact cards_setLane
    · exact .refl s

/-- The moment of a RUN_STOP is kept in the grant, which is otherwise as it was (R91). -/
theorem cards_setStopAt {s : State} {g : RunGrant} (engine : s.engine = .lane g) (m : Option Nat) :
    CardLawsKept P s { s with engine := .lane { g with stopAt := m } } where
  budget h := by
    obtain ⟨budget, used, fits, performed, bound⟩ := h.grant g engine
    exact ⟨h.quantum, fun _ e => Engine.lane.inj e ▸ ⟨budget, used, fits, performed, bound⟩⟩
  chains _ h := h.carry (fun _ hl => hl) fun _ _ _ _ _ e _ => by
    obtain rfl := Engine.lane.inj e
    exact ⟨⟨g, engine, rfl, rfl⟩, rfl, rfl⟩

theorem cards_answerRun (s : State) (l : LaneId) (body : List Byte) : CardLawsKept P s (s.answerRun l body) := by
  unfold State.answerRun
  split
  · exact cards_reply s _ _
  · exact CardLawsKept.trans cards_setLane (cards_join _ _)

theorem cards_serveLane (s : State) (l : LaneId) (f : Frame) : CardLawsKept P s (s.serveLane l f) := by
  refine ((cardLawsKept_steady.popFrame s (.lane l)).trans (cards_withdraw _ (.lane l))).trans ?_
  unfold State.serveLane
  dsimp only
  split
  · exact cards_answerRun _ l f.body
  · split
    · unfold State.answerLaneStatus
      split <;> exact cards_reply _ _ _
    · split
      · rw [State.answerWarrantStatus_eq]
        exact cards_reply _ _ _
      · exact cards_reply _ _ _

theorem cards_rejoin (s : State) (l : LaneId) : CardLawsKept P s (s.rejoin l) := by
  unfold State.rejoin
  split
  · split
    · exact cards_join s _
    · exact .refl s
  · exact .refl s

theorem cards_considerHead (s : State) (l : LaneId) : CardLawsKept P s (s.considerHead l) := by
  rw [State.considerHead_eq]
  split
  · exact cards_rejoin s l
  · split
    · exact cards_serveLane s l _
    · exact cards_rejoin s l

/-- A run that moves on leaves the lane's binding and chain (R111). -/
theorem Lane.moveOn_chainPart (x : Lane) : x.moveOn.chainPart = x.chainPart := by
  unfold Lane.moveOn
  split
  · rfl
  · split
    · split <;> rfl
    · split <;> rfl
    · rfl
    · rfl

theorem cards_handOn (s : State) (k : Link) (r : Reply) : CardLawsKept P s (s.handOn k r) := by
  cases k with
  | custody =>
    unfold State.handOn
    dsimp only
    split
    · exact .of_parts
    · exact .refl s
  | lane l =>
    unfold State.handOn
    refine CardLawsKept.trans ?_ (cards_considerHead _ l)
    split
    · exact cards_setLane s.lanes[l].moveOn_chainPart
    · exact .refl s

/-! ### The walk -/

theorem cards_endWalk (s : State) (g : RunGrant) (r : Run) (results : List EntryResult) (next : Nat)
    (reason : Option EndReason) : CardLawsKept P s (s.endWalk g r results next reason) :=
  CardLawsKept.trans cards_setLane (cards_release _)

/-- A walk comes to an entry to deliver only with room for its three operations (R89). -/
theorem walk_deliver_room {stop : Option Nat} {room : Bool} {w : Option Warrant} {mark : Bool} {i n : Nat} {e : Entry}
    {es : List Entry} (h : (walk stop w room mark i es).stop = .deliver n e) : room = true := by
  induction es generalizing i mark with
  | nil => cases h
  | cons x es ih =>
    obtain ⟨y, rfl, state⟩ := walk_deliver_opened h
    cases mark with
    | true => simp [walk_marked] at h
    | false =>
      cases refusal : x.refusal y.digits with
      | some status =>
        rw [walk_refused _ _ _ _ _ state refusal] at h
        exact ih h
      | none =>
        rw [walk_passed _ _ _ _ _ state refusal] at h
        cases room with
        | true => rfl
        | false => cases h

/-- The stage an entry begins with: its first operation, none of the three ended, or none for want of a key (R82). -/
theorem State.entryStage_cases (s : State) (l : LaneId) (w : Warrant) (e : Entry) :
    (∃ work op, s.entryStage l w e = .deriving work op) ∨ s.entryStage l w e = .withheld := by
  unfold State.entryStage
  split
  · split
    · exact .inl ⟨_, _, rfl⟩
    · exact .inr rfl
  · exact .inr rfl

/-- A grant at an entry boundary that begins an entry with room for it. -/
theorem RunGrant.Lawful.begin {g : RunGrant} (h : g.Lawful) (opening : g.stage = .opening) (room : g.used + 3 ≤ g.budget)
    (index : Nat) (results : List EntryResult) {stage : Stage}
    (begins : (∃ w op, stage = .deriving w op) ∨ stage = .withheld) :
    RunGrant.Lawful { g with index := index, results := results, stage := stage } where
  budget := h.budget
  used := h.used
  fits _ := room
  performed n hn := by
    have before := h.performed 0 (by rw [opening]; rfl)
    obtain ⟨w, op, rfl⟩ | rfl := begins
    · obtain rfl := Option.some.inj hn
      exact before
    · cases hn
  bound := h.bound

/-- The walk of the grant that holds the engine ends the grant, or begins an entry with room for it (R87 to R91). -/
theorem cards_walkOn {s : State} {g : RunGrant} (engine : s.engine = .lane g) (opening : g.stage = .opening) :
    CardLawsKept P s (s.walkOn g) := by
  unfold State.walkOn
  split
  · exact .refl s
  · dsimp only
    split
    · rename_i n e deliver
      have room : g.used + 3 ≤ g.budget := by simpa using walk_deliver_room deliver
      obtain ⟨x, tied, _⟩ := walk_deliver_opened deliver
      simp only [tied]
      have begins := s.entryStage_cases g.lane x e
      refine cards_setLane_grant (fun h => (h.grant g engine).begin opening room _ _ begins) fun w ck c op stage => ?_
      obtain ⟨_, _, first⟩ | withheld := begins
      · exact nomatch first.symm.trans stage
      · exact nomatch withheld.symm.trans stage
    · split
      · exact (cards_endWalk _ _ _ _ _ _).trans (cards_runStop _ _)
      · exact cards_endWalk _ _ _ _ _ _
    · exact cards_endWalk _ _ _ _ _ _

/-! ### Slots and bindings -/

theorem Slot.activeKey_congr {a b : Slot} (h : a.body = b.body) : a.activeKey = b.activeKey := by
  simp only [Slot.activeKey, h]

theorem Slot.activeKey_of_inactive {sl : Slot} (h : sl.isActive = false) : sl.activeKey = none := by
  unfold Slot.isActive at h
  unfold Slot.activeKey
  cases body : sl.body with
  | active a c => rw [body] at h; cases h
  | empty => rfl
  | assembling a => rfl
  | faulty a c => rfl

theorem State.withSlot_other (s : State) {i j : SlotId} (x : Slot) (h : i ≠ j) : (s.withSlot i x).slots[j] = s.slots[j] := by
  have : i.val ≠ j.val := fun e => h (Fin.ext e)
  simp [State.withSlot, this]

/-- A slot's record replaced by one with its key, or one that no lane is bound to. -/
theorem cards_withSlot {s : State} {i : SlotId} {x : Slot}
    (key : P → x.activeKey = s.slots[i].activeKey ∨ ∀ l : LaneId, s.lanes[l].transport ≠ some i) :
    CardLawsKept P s (s.withSlot i x) :=
  .of_parts (keys := fun p l j bound => by
    by_cases e : i = j
    · subst e
      rw [State.withSlot_same]
      obtain same | free := key p
      · exact same
      · exact absurd bound (free l)
    · rw [State.withSlot_other s x e])

theorem cards_setRefs (s : State) (i : SlotId) (n : Nat) : CardLawsKept P s (s.setRefs i n) :=
  cards_withSlot fun _ => .inl rfl

theorem cards_setAssembly (s : State) (i : SlotId) (p : Assembly) : CardLawsKept P s (s.setAssembly i p) :=
  cards_withSlot fun _ => .inl rfl

/-- A slot that is not ACTIVE becomes EMPTY (R26, R28). -/
theorem cards_emptySlot {s : State} {i : SlotId} (inactive : s.slots[i].isActive = false) :
    CardLawsKept P s (s.emptySlot i) :=
  cards_withSlot (x := Slot.blank i) fun _ => .inl (Slot.activeKey_of_inactive inactive).symm

theorem SlotBody.raiseUses_activeKey (sl : Slot) (n : Nat) (w : BitVec 32) (p : Option Assembly) :
    (Slot.mk sl.body.raiseUses n w p).activeKey = sl.activeKey := by
  cases body : sl.body <;> simp only [Slot.activeKey, body, SlotBody.raiseUses]

theorem cards_raiseUsesOf (s : State) (i : Option SlotId) : CardLawsKept P s (s.raiseUsesOf i) := by
  cases i with
  | none => exact .refl s
  | some i => exact cards_withSlot fun _ => .inl (SlotBody.raiseUses_activeKey s.slots[i] _ _ _)

theorem cards_moveRefs (s : State) (old : Option SlotId) (new : SlotId) : CardLawsKept P s (s.moveRefs old new) := by
  unfold State.moveRefs
  split
  · exact .refl s
  · cases old with
    | none => exact cards_setRefs s new _
    | some i => exact (cards_setRefs s i _).trans (cards_setRefs _ new _)

/-- A lane that does not hold the engine is bound anew, its chain reset, or unbound (R98, R99). -/
theorem cards_rebind {s : State} {l : LaneId} {x : Lane} (engine : P → ∀ g, s.engine = .lane g → g.lane ≠ l)
    (start : x.transport = none ∨ x.chain = x.initial ∧ x.position = 0) : CardLawsKept P s (s.setLane l x) where
  budget h := h.carry rfl fun _ => id
  chains p h := by
    have other {m : LaneId} (e : m ≠ l) : (s.setLane l x).lanes[m] = s.lanes[m] := State.setLane_other s l m x (Ne.symm e)
    have key {m : LaneId} (e : m ≠ l) : (s.setLane l x).transportKey m = s.transportKey m :=
      State.transportKey_congr (by rw [other e]) fun _ _ => rfl
    refine h.carry (fun m hm => ?_) fun g w ck c op hg _ => ?_
    · by_cases e : m = l
      · subst e
        obtain unbound | ⟨chain, position⟩ := start
        · exact State.chainAt_of_none (State.transportKey_unbound (by rw [State.setLane_same]; exact unbound))
        · exact State.chainAt_of_reset (by rw [State.setLane_same]; exact chain) (by rw [State.setLane_same]; exact position)
      · exact hm.congr (by rw [other e]) fun k hk => key e ▸ hk
    · have e := engine p g hg
      exact ⟨⟨g, hg, rfl, rfl⟩, key e, by rw [other e]⟩

/-! ### Completion -/

/-- A grant whose entry has had its third operation has counted it (R86, R89). -/
theorem RunGrant.Lawful.delivered {g : RunGrant} (h : g.Lawful) (ended : g.stage.ended = some 2)
    (entry : g.stage.inEntry = true) (wrapped : Block) (check : CheckValue) : (g.delivered wrapped check).Lawful := by
  have room := h.fits entry
  have two := h.performed 2 ended
  have whole := h.used.1
  refine ⟨h.budget, ⟨?_, room⟩, nofun, fun n hn => ?_, ?_⟩
  · simp only [RunGrant.delivered]; omega
  · obtain rfl := Option.some.inj hn
    simp only [RunGrant.delivered]; omega
  · simp only [RunGrant.delivered]; omega

/-- The chain after a block more (R101). -/
theorem State.ChainAt.advance {s : State} {l : LaneId} {op : BlockOp} (h : s.ChainAt l) (on : s.OnChain l op) :
    (s.advanceChain l op.result).ChainAt l := fun key hk => by
  have same : (s.advanceChain l op.result).transportKey l = s.transportKey l :=
    State.transportKey_congr (by rw [State.advanceChain, State.setLane_same]) fun _ _ => rfl
  obtain ⟨key', transport, rfl⟩ := on
  obtain rfl := Option.some.inj ((same.symm.trans hk).symm.trans transport)
  obtain ⟨n, position, chain⟩ := h key (same ▸ hk)
  refine ⟨n + 1, ?_, ?_⟩
  · rw [State.advanceChain, State.setLane_same]
    dsimp only
    rw [position, BitVec.ofNat_add]
    rfl
  · rw [State.advanceChain, State.setLane_same]
    dsimp only
    rw [chain]
    rfl

/-- The keystream block advances the lane's chain, and its grant comes to the next entry boundary (R84, R85). -/
theorem cards_advanceChain {s : State} {g : RunGrant} {w : Work} {ck : Block} {check : CheckValue} {op : BlockOp}
    (engine : s.engine = .lane g) (stage : g.stage = .keystream w ck check op) :
    CardLawsKept P s { s.advanceChain g.lane op.result with engine := .lane (g.delivered (ck ^^^ op.result) check) } where
  budget h :=
    ⟨h.quantum, fun _ e => Engine.lane.inj e ▸ (h.grant g engine).delivered (by rw [stage]; rfl) (by rw [stage]; rfl) _ _⟩
  chains _ h := by
    refine h.carry (fun m hm => ?_) fun g' _ _ _ _ e next => ?_
    · by_cases e : g.lane = m
      · subst e
        exact hm.advance (h.operation g w ck check op engine stage)
      · have other : (s.advanceChain g.lane op.result).lanes[m] = s.lanes[m] := State.setLane_other s _ m _ e
        have key : (s.advanceChain g.lane op.result).transportKey m = s.transportKey m :=
          State.transportKey_congr (congrArg Lane.transport other) fun _ _ => rfl
        exact State.ChainAt.congr (t := s.advanceChain g.lane op.result) hm (congrArg Lane.chainPart other)
          fun k hk => key ▸ hk
    · rw [← Engine.lane.inj e] at next
      cases next

/-- The one write of a delivered entry (R85). -/
theorem cards_entryWritten {s : State} {g : RunGrant} {w : Work} {ck : Block} {check : CheckValue} {op : BlockOp}
    (engine : s.engine = .lane g) (stage : g.stage = .keystream w ck check op) (tie : Nat) :
    CardLawsKept P s (s.entryWritten g tie ck op.result check) := by
  have debits : CardLawsKept P s (s.debitTied tie) := .of_parts
  have counts := (debits.trans (cards_raiseUsesOf _ g.master)).trans (cards_raiseUsesOf _
    ((s.debitTied tie).raiseUsesOf g.master).lanes[g.lane].transport)
  exact counts.trans (cards_advanceChain (by simpa using engine) stage)

/-! ### The tamper responses and the custody switch -/

theorem cards_notice (s : State) : CardLawsKept P s s.notice := by
  unfold State.notice
  split
  · exact cards_reply s _ _
  · exact .refl s

/-- The start of an erase takes the engine, and unbinds every lane (R141). -/
theorem cards_eraseBegin (s : State) : CardLawsKept P s s.eraseBegin :=
  .of_noLaneGrant (fun _ => nofun) (fun h => h.carry rfl nofun) fun _ l _ =>
    State.chainAt_of_none (State.transportKey_unbound (by rw [State.eraseBegin, ofFn_get]; rfl))

theorem cards_orderErase (s : State) : CardLawsKept P s s.orderErase := by
  unfold State.orderErase
  split
  · exact cards_eraseBegin s
  · exact cards_eraseBegin s
  · exact cards_eraseBegin s
  · exact .refl s
  · exact .of_parts
  · exact .of_parts

theorem cards_tamper (s : State) (t : Tamper) : CardLawsKept P s { s with tamper := t } := .of_parts

theorem cards_tamperEvent (s : State) (x : Source) (r : Response) : CardLawsKept P s (s.tamperEvent x r) := by
  have records : CardLawsKept P s { s with tamper := s.tamper.record x } := cards_tamper s _
  unfold State.tamperEvent
  dsimp only
  split
  · exact records.trans (cards_notice _)
  · exact records.trans (cards_orderErase _)

theorem cards_sampleInput (s : State) (i : InputId) (v : Level) : CardLawsKept P s (s.sampleInput i v) := by
  unfold State.sampleInput
  dsimp only
  split
  · exact (cards_tamper s _).trans (cards_tamperEvent _ _ _)
  · exact cards_tamper s _

theorem cards_abandonComponent (s : State) : CardLawsKept P s s.abandonComponent := by
  unfold State.abandonComponent
  split
  · have waits : CardLawsKept P s (((s.inProcess none).withdraw .custody).custodyRefuse kindComponent .notInCustody) :=
      ((cards_inProcess s none).trans (cards_withdraw _ .custody)).trans (cards_reply _ _ _)
    split
    · split
      · exact cards_inProcess s _
      · exact waits
      · exact waits
    · exact .refl s
  · exact .refl s

/-- What a change to RUN empties was not ACTIVE (R32). -/
theorem cards_abandonAssemblies (s : State) : CardLawsKept P s s.abandonAssemblies :=
  .of_parts s.abandonAssemblies_quantum (fun g => by rw [State.abandonAssemblies_engine]; exact id)
    (fun l => by rw [State.abandonAssemblies_lanes]) fun _ l i _ => by
      rw [State.abandonAssemblies, ofFn_get]
      split
      · rename_i abandoned
        exact (Slot.activeKey_of_inactive (Slot.isActive_of_abandoned abandoned)).symm
      · rfl

theorem cards_sampleSwitch (s : State) (pin : Level) : CardLawsKept P s (s.sampleSwitch pin) := by
  unfold State.sampleSwitch
  split
  rename_i position count confirmed _
  have counts : CardLawsKept P s { s with custody := { s.custody with position := position, count := count } } := .of_parts
  dsimp only
  split
  · exact (counts.trans (cards_abandonComponent _)).trans (cards_abandonAssemblies _)
  · exact counts

/-! ### Overwriting, stopping and starting -/

/-- Where no slot gains or changes a key and no lane a binding, no lane has a new transport key. -/
theorem State.transportKey_of_lost {s t : State} {l : LaneId}
    (transport : ∀ i : SlotId, t.lanes[l].transport = some i → s.lanes[l].transport = some i)
    (slots : ∀ (i : SlotId) (key : KeyValue), t.slots[i].activeKey = some key → s.slots[i].activeKey = some key)
    (key : KeyValue) (h : t.transportKey l = some key) : s.transportKey l = some key := by
  obtain ⟨i, bound, active⟩ := State.transportKey_eq_some.1 h
  exact State.transportKey_eq_some.2 ⟨i, transport i bound, slots i key active⟩

theorem cards_overwriteNext {s : State} (engine : P → s.NoLaneGrant) : CardLawsKept P s s.overwriteNext := by
  refine .of_noLaneGrant (fun p => ?_) (fun h => h.carry (by simp) (by simp)) fun _ l hl => ?_
  · intro g
    rw [State.overwriteNext_engine]
    exact engine p g
  · refine hl.congr (by rw [State.overwriteNext_lanes]) (State.transportKey_of_lost (fun i => ?_) fun i key h => ?_)
    · rw [State.overwriteNext_lanes]; exact id
    · rw [State.overwriteNext_slot] at h
      split at h
      · cases h
      · exact h

/-- Every slot becomes EMPTY, as it is when an erase completes (R142). -/
theorem cards_blankSlots {s : State} (engine : P → s.NoLaneGrant) :
    CardLawsKept P s { s with slots := Vector.ofFn Slot.blank } :=
  .of_noLaneGrant engine (fun h => h.carry rfl fun _ => id) fun _ _ hl =>
    hl.congr rfl (State.transportKey_of_lost (fun _ => id) fun i key h => by rw [ofFn_get] at h; cases h)

/-- What a sweep makes of a lane's chain: as it was, or reset (R116). -/
def Lane.ChainSwept (x y : Lane) : Prop :=
  (y.initial = x.initial ∧ y.chain = x.chain ∧ y.position = x.position) ∨ (y.chain = y.initial ∧ y.position = 0)

theorem Lane.ChainSwept.refl (x : Lane) : x.ChainSwept x := .inl ⟨rfl, rfl, rfl⟩

theorem Lane.ChainSwept.trans {x y z : Lane} (h : x.ChainSwept y) (k : y.ChainSwept z) : x.ChainSwept z := by
  obtain ⟨initial, chain, position⟩ | reset := k
  · unfold Lane.ChainSwept
    rw [initial, chain, position]
    exact h
  · exact .inr reset

theorem State.sweepLane_chainSwept (s : State) (x : Lane) : x.ChainSwept (s.sweepLane x) := by
  unfold State.sweepLane
  split
  · exact .refl x
  · split
    · exact .refl x
    · exact .inl ⟨rfl, rfl, rfl⟩

theorem Lane.resetChain_chainSwept (x : Lane) : x.ChainSwept x.resetChain := by
  unfold Lane.resetChain
  split
  · exact .refl x
  · exact .inr ⟨rfl, rfl⟩

theorem chainSwept_sweepStep {f : State → State} (hf : f ∈ sweepSteps) (s : State) (l : LaneId) :
    s.lanes[l].ChainSwept (f s).lanes[l] := by
  simp only [sweepSteps, List.mem_cons, List.not_mem_nil, or_false] at hf
  obtain rfl | rfl | rfl | rfl | rfl | rfl := hf
  · rw [State.sweepAssemblies_lanes]; exact .refl _
  · rw [State.sweepIntegrity_lanes]; exact .refl _
  · rw [State.sweepWarrants_lanes]; exact .refl _
  · rw [State.sweepLanes, ofFn_get]; exact s.sweepLane_chainSwept _
  · rw [State.sweepReferences_lanes]; exact .refl _
  · rw [State.resetChains, ofFn_get]; exact Lane.resetChain_chainSwept _

theorem chainSwept_sweepFirst (s : State) (n : Nat) (l : LaneId) : s.lanes[l].ChainSwept (s.sweepFirst n).lanes[l] := by
  induction n with
  | zero => exact .refl _
  | succ n ih =>
    refine ih.trans ?_
    unfold State.sweepFirst
    rw [List.take_add_one, List.foldl_append]
    cases step : sweepSteps[n]? with
    | none => exact .refl _
    | some f => exact chainSwept_sweepStep (List.mem_of_getElem? step) _ l

theorem Slot.Swept.activeKey {a b : Slot} (h : a.Swept b) {key : KeyValue} (active : b.activeKey = some key) :
    a.activeKey = some key := by
  cases h with
  | same body _ => rwa [Slot.activeKey_congr body] at active
  | faulted _ _ _ body _ => simp [Slot.activeKey, body] at active
  | emptied body _ => simp [Slot.activeKey, body] at active

/-- A sweep, whole or cut off, leaves chains lawful (R116, R154). -/
theorem SweptTo.chainAt {s t : State} (h : SweptTo s t) {l : LaneId} (swept : s.lanes[l].ChainSwept t.lanes[l])
    (chain : s.ChainAt l) : t.ChainAt l := by
  obtain ⟨initial, same, position⟩ | ⟨reset, position⟩ := swept
  · intro key hk
    rw [initial, same, position]
    exact chain key (State.transportKey_of_lost (h.lanes l) (fun i _ active => (h.slots i).activeKey active) key hk)
  · exact State.chainAt_of_reset reset position

theorem chainAt_cutSweep (s : State) (cut : SweepCut) {l : LaneId} (h : s.ChainAt l) : (s.cutSweep cut).ChainAt l := by
  by_cases mode : s.mode = .starting .sweep
  · rw [State.cutSweep_of_sweep cut mode]
    refine (sweptTo_cut s cut.steps cut.records).chainAt ?_ h
    rw [State.partly_lane]
    split
    · exact chainSwept_sweepFirst s _ l
    · exact chainSwept_sweepFirst s _ l
  · rw [State.cutSweep_of_ne cut mode]
    exact h

/-- The volatile state holds no chain and no key (R150). -/
theorem chainAt_volatileStart {s : State} {l : LaneId} (h : s.ChainAt l) : s.volatileStart.ChainAt l := by
  have lane : s.volatileStart.lanes[l] = s.lanes[l].start := by rw [State.volatileStart, ofFn_get]
  refine h.congr (by rw [lane]; rfl) (State.transportKey_of_lost (fun i => ?_) fun i key active => ?_)
  · rw [lane]; exact id
  · rwa [State.volatileStart_slot] at active

/-- With the volatile state the engine is IDLE (R150). -/
theorem State.volatileStart_noLaneGrant (s : State) : s.volatileStart.NoLaneGrant := fun g => by
  simp only [State.volatileStart, ne_eq, reduceCtorEq, not_false_eq_true]

theorem cards_setMode (s : State) (m : Mode) : CardLawsKept P s { s with mode := m } := .of_parts

theorem State.cutSweep_quantum (s : State) (cut : SweepCut) : (s.cutSweep cut).quantum = s.quantum := by
  by_cases mode : s.mode = .starting .sweep
  · rw [State.cutSweep_of_sweep cut mode, State.partly_quantum, State.sweepFirst_quantum]
  · rw [State.cutSweep_of_ne cut mode]

/-- A sweep that may have been in progress is cut off, and the volatile state is lost (R150, R154, R158). -/
theorem cards_cutSweep_volatileStart (s : State) (cut : SweepCut) : CardLawsKept P s (s.cutSweep cut).volatileStart := by
  have idle := (s.cutSweep cut).volatileStart_noLaneGrant
  refine .of_noLaneGrant (fun _ => idle) (fun h => ?_) fun _ _ hl => chainAt_volatileStart (chainAt_cutSweep s cut hl)
  refine h.carry ?_ fun g hg => absurd hg (idle g)
  rw [State.volatileStart_quantum, State.cutSweep_quantum]

theorem cards_stopLogic (s : State) (cut : SweepCut) : CardLawsKept P s (s.stopLogic cut) :=
  (cards_cutSweep_volatileStart s cut).trans (cards_setMode _ .stopped)

theorem cards_enterStarting (s : State) : CardLawsKept P s s.enterStarting := by
  have idle := s.volatileStart_noLaneGrant
  refine CardLawsKept.trans (.of_noLaneGrant (fun _ => idle) (fun h => ?_) fun _ _ hl => chainAt_volatileStart hl)
    (cards_setMode _ _)
  exact h.carry (State.volatileStart_quantum s) fun g hg => absurd hg (idle g)

theorem cards_keepDomain (s : State) : CardLawsKept P s s.keepDomain := by
  unfold State.keepDomain
  split
  · exact .refl s
  · exact .of_parts

/-- A battery-loss clearing sets the quantum to 12 and leaves no lane bound (R93, R117, R151). -/
theorem cards_clearDomain {s : State} (engine : P → s.NoLaneGrant) : CardLawsKept P s s.clearDomain :=
  .of_noLaneGrant (fun p g => by rw [State.clearDomain_engine]; exact engine p g)
    (fun h => ⟨by simp only [State.clearDomain]; rfl, fun g => by rw [State.clearDomain_engine]; exact h.grant g⟩) fun _ l _ =>
    State.chainAt_of_none (State.transportKey_unbound (by rw [State.clearDomain, ofFn_get]; rfl))

theorem cards_sweep {s : State} (engine : P → s.NoLaneGrant) : CardLawsKept P s s.sweep :=
  .of_noLaneGrant (fun p g => by rw [State.sweep, State.sweepFirst_engine]; exact engine p g)
    (fun h => h.carry (State.sweepFirst_quantum s 6) fun g => by rw [State.sweep, State.sweepFirst_engine]; exact id)
    fun _ l hl => (sweptTo_sweepFirst s 6).chainAt (chainSwept_sweepFirst s 6 l) hl

theorem cards_afterSweep (s : State) : CardLawsKept P s s.afterSweep := by
  unfold State.afterSweep
  split
  · exact cards_eraseBegin s
  · split
    · exact .of_parts
    · split <;> exact .of_parts

end

end Sys2Proof.Machine
end

section
/-! PROOFS. Every command, and so every step, keeps the law of budgets, and in a part whose references and grants are lawful the
law of chains (R84, R86, R89, R93, R101, R119): GrantsStayWithinTheirBudget, ChainLawIsKept. -/

namespace Sys2Proof.Machine

/-! ### What the other laws say of a grant and of a slot -/

/-- A lane grant serves a run, and only an OPERATIONAL part has runs (R104, R129). -/
def State.GrantRuns (s : State) : Prop :=
  ∀ g, s.engine = .lane g → s.mode = .operational ∧ s.lanes[g.lane].run.isSome = true

theorem State.laneRuns_of_eq {s : State} {l m : LaneId} (same : l = m) (run : s.lanes[l].run.isSome = true) :
    s.lanes[m].run.isSome = true := by
  subst same
  exact run

theorem ServiceLaw.grantRuns {s : State} (h : ServiceLaw s) : s.GrantRuns := fun g engine => by
  obtain ⟨⟨r, run, _⟩, _⟩ := h.laneHolds g engine
  refine ⟨?_, by rw [run]; rfl⟩
  by_contra mode
  rw [h.runs mode g.lane] at run
  cases run

theorem State.GrantRuns.noLaneGrant {s : State} (h : s.GrantRuns) (mode : s.mode ≠ .operational) : s.NoLaneGrant :=
  fun g engine => mode (h g engine).1

/-- A slot that nothing counts has no lane bound to it (R10). -/
theorem State.unbound_of_uncounted {s : State} {i : SlotId} (h : s.countRefs i = 0) (l : LaneId) :
    s.lanes[l].transport ≠ some i := (State.countRefs_eq_zero.1 h).2 l

/-- Nor has the slot that a command in process is to make ACTIVE (R26, R50). -/
theorem RefsLaw.target_unbound {s : State} (h : RefsLaw s) {p : Process} {i : SlotId}
    (now : s.custody.process = some p) (target : p.target = some i) (l : LaneId) : s.lanes[l].transport ≠ some i :=
  State.unbound_of_uncounted (h.unnamed (h.process (by rw [now]; rfl)) (h.target p i now target)) l

/-- A command taken from the custody FIFO, seen from the state with the frame taken off. -/
theorem Steady.takeCustodyFrom {R : State → State → Prop} (h : Steady R) {s : State} {kind : Byte}
    {act : List Byte → State → Res}
    (ha : ∀ body, (s.popFrame .custody).Free → Gives R (s.popFrame .custody) (act body (s.popFrame .custody))) :
    Gives R s (s.takeCustody kind act) := by
  obtain e | ⟨f, rest, _, ready, _, e⟩ := s.takeCustody_cases kind act
  · rw [e]; exact h.same s
  · simp only [State.custodyReady, Bool.and_eq_true, Option.isNone_iff_eq_none] at ready
    obtain ⟨⟨service, _⟩, free⟩ := ready
    rw [e]
    exact fun t ht => h.trans (h.popFrame s .custody) (ha f.body ⟨free, service⟩ t ht)

section

variable {P : Prop}

/-! ### Key ceremonies -/

theorem cards_acceptComponent (s : State) (i : SlotId) (p : Assembly) (f : ComponentForm) :
    CardLawsKept P s (s.acceptComponent i p f) := by
  unfold State.acceptComponent
  dsimp only
  split
  · exact cards_startProcess s _
  · split
    · exact (cards_setAssembly s i _).trans (cards_startProcess _ _)
    · exact (cards_setAssembly s i _).trans (cards_reply _ _ _)

theorem cards_execAssemble (s : State) : Gives (CardLawsKept P) s (execAssemble s) := by
  have steady := cardLawsKept_steady (P := P)
  refine steady.takeCustody fun _ u _ => steady.readCustody fun f => steady.gatedSlot fun i => ?_
  split
  · exact steady.refuse u _ _
  · rename_i empty
    split
    · exact steady.refuse u _ _
    · refine .next (CardLawsKept.trans (cards_withSlot fun _ => .inl ?_) (cards_reply _ _ _))
      exact (Slot.activeKey_of_inactive (Slot.isActive_of_empty (not_not.1 empty))).symm

theorem cards_execComponent (s : State) : Gives (CardLawsKept P) s (execComponent s) := by
  have steady := cardLawsKept_steady (P := P)
  refine steady.takeCustody fun _ u _ => steady.readCustody fun f => steady.gatedSlot fun i => ?_
  split
  · exact steady.refuse u _ _
  · exact .next (cards_acceptComponent u i _ f)
  · exact steady.same u

theorem cards_execComponentCheckEnd (s : State) : Gives (CardLawsKept P) s (execComponentCheckEnd s) := by
  unfold execComponentCheckEnd
  split
  · rename_i g i _ _ _ _ _ _ _
    split
    · exact .fault s _
    · dsimp only
      split
      · exact .next (cards_endProcess s _)
      · split
        · exact .next (cards_endProcess s _)
        · split
          · exact .fault s _
          · split
            · exact .next ((cards_setAssembly s i _).trans (cards_nextOp _ g _))
            · exact .next ((cards_setAssembly s i _).trans (cards_endProcess _ _))
  · exact cardLawsKept_steady.same s

/-- The slot that becomes ACTIVE is one no lane is bound to (R5, R26). -/
theorem cards_execFinalCheckEnd {s : State} (refs : P → RefsLaw s) : Gives (CardLawsKept P) s (execFinalCheckEnd s) := by
  unfold execFinalCheckEnd
  split
  · rename_i g i engine now
    split
    · exact .fault s _
    · exact .fault s _
    · rename_i part
      dsimp only
      split
      · exact .next (CardLawsKept.trans (cards_withSlot fun p => .inr ((refs p).target_unbound now rfl))
          (cards_endProcess _ _))
      · exact .next ((cards_emptySlot (Slot.isActive_of_assemblyOf part)).trans (cards_endProcess _ _))
  · exact cardLawsKept_steady.same s

theorem cards_execAssemblyCancel (s : State) : Gives (CardLawsKept P) s (execAssemblyCancel s) := by
  have steady := cardLawsKept_steady (P := P)
  refine steady.takeCustody fun _ u _ => steady.readCustody fun _ => steady.gatedSlot fun i => ?_
  split
  · exact steady.refuse u _ _
  · rename_i part
    exact steady.refuseOr (.next ((cards_emptySlot (Slot.isActive_of_assemblyOf part)).trans (cards_reply _ _ _)))

theorem cards_execCustodySwitchChange (samples : List Level) (s : State) :
    Gives (CardLawsKept P) s (execCustodySwitchChange samples s) :=
  cardLawsKept_steady.guarded (.next (cardLawsKept_steady.foldl cards_sampleSwitch s samples))

/-! ### The Key Table, storage keys and tokens -/

theorem cards_execSlotStatus (s : State) : Gives (CardLawsKept P) s (execSlotStatus s) :=
  cardLawsKept_steady.takeCustody fun _ u _ => cardLawsKept_steady.readCustody fun _ =>
    cardLawsKept_steady.gatedSlot fun _ => .next (cards_reply u _ _)

/-- A slot that a lane is bound to is IN_USE (R10, R17). -/
theorem cards_execSlotErase {s : State} (refs : P → RefsLaw s) : Gives (CardLawsKept P) s (execSlotErase s) := by
  have steady := cardLawsKept_steady (P := P)
  refine steady.takeCustodyFrom fun _ free => steady.readCustody fun _ => steady.gatedSlot fun i => ?_
  split
  · exact steady.refuse _ _ _
  · split
    · exact steady.refuse _ _ _
    · rename_i unused
      simp only [Bool.or_eq_true, decide_eq_true_eq, not_or, Nat.not_lt, Nat.le_zero] at unused
      refine .next (CardLawsKept.trans (cards_withSlot (x := Slot.blank i) fun p => .inr ?_) (cards_reply _ _ _))
      have law := (refs p).frame (kept_popFrame s .custody)
      exact State.unbound_of_uncounted (law.counts free.service i ▸ unused.1)

theorem cards_draw (s : State) : CardLawsKept P s s.draw.2 := .of_parts

theorem cards_storage (s : State) (u : StorageUnit) (m : Mode) :
    CardLawsKept P s { s with storage := u, mode := m } := .of_parts

theorem cards_execInitialise (s : State) : Gives (CardLawsKept P) s (execInitialise s) :=
  cardLawsKept_steady.takeCustody fun _ u _ => cardLawsKept_steady.readCustody fun _ => cardLawsKept_steady.gated
    (.next ((cards_draw u).trans (cards_startProcess _ _)))

theorem cards_execInitialisePatternEnd (s : State) : Gives (CardLawsKept P) s (execInitialisePatternEnd s) := by
  unfold execInitialisePatternEnd
  split
  · split
    · exact .fault s _
    · exact .next ((cards_storage s _ _).trans (cards_endProcess _ _))
  · exact cardLawsKept_steady.same s

theorem cards_execStorageRoll (s : State) : Gives (CardLawsKept P) s (execStorageRoll s) := by
  have steady := cardLawsKept_steady (P := P)
  refine steady.takeCustody fun _ u _ => steady.readCustody fun _ => steady.gated ?_
  split
  · exact .fault u _
  · exact steady.refuseOr (.next ((cards_draw u).trans (cards_startProcess _ _)))

theorem cards_execStorageRollPatternEnd (s : State) : Gives (CardLawsKept P) s (execStorageRollPatternEnd s) := by
  unfold execStorageRollPatternEnd
  split
  · split
    · exact .fault s _
    · exact .fault s _
    · exact .next ((cards_storage s _ s.mode).trans (cards_endProcess _ _))
  · exact cardLawsKept_steady.same s

theorem cards_execTokenExport (s : State) : Gives (CardLawsKept P) s (execTokenExport s) := by
  have steady := cardLawsKept_steady (P := P)
  refine steady.takeCustody fun _ u _ => steady.readCustody fun _ => steady.gatedSlot fun _ => ?_
  split
  · exact steady.refuse u _ _
  · exact .fault u _
  · exact .next (cards_startProcess u _)

theorem cards_execTokenExportOperationEnd (s : State) : Gives (CardLawsKept P) s (execTokenExportOperationEnd s) := by
  unfold execTokenExportOperationEnd
  split
  · split
    · exact .fault s _
    · split
      · exact .next (cards_endProcess s _)
      · exact .next (cards_nextOp s _ _)
      · exact .next (cards_endProcess s _)
  · exact cardLawsKept_steady.same s

theorem cards_execTokenImport (s : State) : Gives (CardLawsKept P) s (execTokenImport s) := by
  have steady := cardLawsKept_steady (P := P)
  refine steady.takeCustody fun _ u _ => steady.readCustody fun f => steady.gatedSlot fun _ => steady.refuseOr ?_
  split
  · exact steady.refuse u _ _
  · split
    · exact .next (cards_reply u _ _)
    · exact .next (cards_startProcess u _)

theorem cards_endImport {s : State} {i : SlotId} (unbound : P → ∀ l : LaneId, s.lanes[l].transport ≠ some i) (t : Token)
    (b : Bool) (n : Nat) (key : KeyValue) (c : CheckValue) : CardLawsKept P s (s.endImport i t b n key c) := by
  unfold State.endImport
  split
  · exact CardLawsKept.trans (cards_withSlot fun p => .inr (unbound p)) (cards_endProcess _ _)
  · exact cards_endProcess s _

theorem cards_execTokenImportOperationEnd {s : State} (refs : P → RefsLaw s) :
    Gives (CardLawsKept P) s (execTokenImportOperationEnd s) := by
  unfold execTokenImportOperationEnd
  split
  · rename_i now
    have unbound (p : P) := (refs p).target_unbound now rfl
    split
    · exact .fault s _
    · split
      · exact .next (cards_nextOp s _ _)
      · exact .next (cards_nextOp s _ _)
      · exact .next (cards_endImport unbound _ _ _ _ _)
      · exact .next (cards_endImport unbound _ _ _ _ _)
  · exact cardLawsKept_steady.same s

/-! ### Warrants -/

theorem cards_setWarrant (s : State) (id : Nat) (f : Warrant → Warrant) : CardLawsKept P s (s.setWarrant id f) := .of_parts

theorem cards_execWarrantOpen (s : State) : Gives (CardLawsKept P) s (execWarrantOpen s) := by
  have steady := cardLawsKept_steady (P := P)
  refine steady.takeCustody fun _ u _ => steady.readCustody fun f => steady.served ?_
  split
  · exact steady.refuse u _ _
  · rename_i w _
    split
    · exact steady.refuse u _ _
    · refine .next (CardLawsKept.trans ?_ (cards_reply _ _ _))
      exact CardLawsKept.trans .of_parts (cards_setRefs _ w.master _)

theorem cards_execWarrantHold (s : State) : Gives (CardLawsKept P) s (execWarrantHold s) := by
  have steady := cardLawsKept_steady (P := P)
  refine steady.takeCustody fun _ u _ => steady.readCustody fun _ => steady.withWarrant fun w => steady.refuseOr ?_
  exact .next ((cards_setWarrant u _ _).trans (cards_reply _ _ _))

theorem cards_execWarrantRelease (s : State) : Gives (CardLawsKept P) s (execWarrantRelease s) := by
  have steady := cardLawsKept_steady (P := P)
  refine steady.takeCustody fun _ u _ => steady.readCustody fun _ => steady.withWarrant fun w => steady.refuseOr ?_
  exact .next ((cards_setWarrant u _ _).trans (cards_reply _ _ _))

theorem cards_execWarrantExtend (s : State) : Gives (CardLawsKept P) s (execWarrantExtend s) := by
  have steady := cardLawsKept_steady (P := P)
  refine steady.takeCustody fun _ u _ => steady.readCustody fun f => steady.withWarrant fun w => ?_
  exact steady.refuseOr (steady.refuseOr (.next ((cards_setWarrant u _ _).trans (cards_reply _ _ _))))

theorem cards_execWarrantClose (s : State) : Gives (CardLawsKept P) s (execWarrantClose s) := by
  have steady := cardLawsKept_steady (P := P)
  refine steady.takeCustody fun _ u _ => steady.readCustody fun _ => steady.withWarrant fun w => steady.refuseOr ?_
  exact .next (((cards_setWarrant u _ _).trans (cards_setRefs _ w.master _)).trans (cards_reply _ _ _))

theorem cards_execWarrantPurge (s : State) : Gives (CardLawsKept P) s (execWarrantPurge s) := by
  have steady := cardLawsKept_steady (P := P)
  refine steady.takeCustody fun _ u _ => steady.readCustody fun _ => steady.withWarrant fun w => steady.refuseOr ?_
  have purges : CardLawsKept P u (u.removeWarrant w.id) := .of_parts
  exact .next (purges.trans (cards_reply _ _ _))

theorem cards_execWarrantStatus (k : Link) (s : State) : Gives (CardLawsKept P) s (execWarrantStatus k s) := by
  have steady := cardLawsKept_steady (P := P)
  cases k with
  | custody =>
    unfold execWarrantStatus
    refine steady.takeCustody fun _ u _ => steady.readCustody fun _ => steady.withWarrant fun _ => ?_
    exact .next (cards_reply u _ _)
  | lane l =>
    unfold execWarrantStatus
    exact steady.takeLane (cards_serveLane s l)

theorem cards_execWarrantList (s : State) : Gives (CardLawsKept P) s (execWarrantList s) :=
  cardLawsKept_steady.takeCustody fun _ u _ => cardLawsKept_steady.readCustody fun _ => cardLawsKept_steady.served
    (.next (cards_reply u _ _))

/-! ### Lanes -/

/-- The lane that holds the engine has a run, and so is LANE_BUSY (R97). -/
theorem cards_execLaneBind {s : State} (grants : P → s.GrantRuns) : Gives (CardLawsKept P) s (execLaneBind s) := by
  have steady := cardLawsKept_steady (P := P)
  refine steady.takeCustodyFrom fun _ _ => steady.readCustody fun f => steady.served ?_
  split
  · exact steady.refuse _ _ _
  · rename_i b _
    split
    · exact steady.refuse _ _ _
    · rename_i busy
      split
      · exact steady.refuse _ _ _
      · refine .next (((cards_moveRefs _ _ _).trans (cards_rebind (fun p g engine => ?_) (.inr ⟨rfl, rfl⟩))).trans
          (cards_reply _ _ _))
        obtain ⟨v, e⟩ := (s.popFrame .custody).moveRefs_rest (s.popFrame .custody).lanes[b.lane].transport b.slot
        rw [e] at engine
        exact fun same => busy (State.laneRuns_of_eq same (grants p g engine).2)

/-- So it is for LANE_UNBIND (R99). -/
theorem cards_execLaneUnbind {s : State} (grants : P → s.GrantRuns) : Gives (CardLawsKept P) s (execLaneUnbind s) := by
  have steady := cardLawsKept_steady (P := P)
  refine steady.takeCustodyFrom fun _ _ => steady.readCustody fun _ => steady.served ?_
  split
  · exact steady.refuse _ _ _
  · dsimp only
    split
    · exact steady.refuse _ _ _
    · split
      · exact steady.refuse _ _ _
      · rename_i busy
        refine .next (((cards_setRefs _ _ _).trans (cards_rebind (fun p g engine => ?_) (.inl rfl))).trans
          (cards_reply _ _ _))
        exact fun same => busy (State.laneRuns_of_eq same (grants p g engine).2)

/-- What SET_QUANTUM sets is a quantum (R93, R94). -/
theorem quantumOk_quantumOf (v : Nat) : quantumOk (quantumOf v) = true := by
  have whole : quantumOf v % 3 = 0 := by unfold quantumOf; omega
  have low : 3 ≤ quantumOf v := by unfold quantumOf; omega
  have high : quantumOf v ≤ 48 := by unfold quantumOf; omega
  simp [quantumOk, whole, low, high]

/-- A grant in flight keeps its budget (R94). -/
theorem cards_execSetQuantum (s : State) : Gives (CardLawsKept P) s (execSetQuantum s) := by
  have steady := cardLawsKept_steady (P := P)
  refine steady.takeCustody fun _ u _ => steady.readCustody fun v => steady.refuseOr ?_
  have sets : CardLawsKept P u { u with quantum := quantumOf v.toNat } :=
    ⟨fun h => ⟨quantumOk_quantumOf v.toNat, h.grant⟩, fun _ h => ⟨h.chains, h.operation⟩⟩
  exact .next (sets.trans (cards_reply _ _ _))

theorem cards_execRunStop (stop : Stop) (s : State) : Gives (CardLawsKept P) s (execRunStop stop s) := by
  refine cardLawsKept_steady.guarded ?_
  obtain e | ⟨g, n, m, _, engine, _, _, _, e⟩ := s.takeStop_cases stop
  · rw [e]; exact .next (cards_runStop s _)
  · rw [e]; exact .next (cards_setStopAt engine _)

theorem cards_execRun (l : LaneId) (s : State) : Gives (CardLawsKept P) s (execRun l s) :=
  cardLawsKept_steady.takeLane (cards_serveLane s l)

theorem cards_execLaneStatus (l : LaneId) (s : State) : Gives (CardLawsKept P) s (execLaneStatus l s) :=
  cardLawsKept_steady.takeLane (cards_serveLane s l)

/-! ### The engine -/

theorem cards_execGrant (s : State) : Gives (CardLawsKept P) s (execGrant s) := by
  have walks {u : State} (given : CardLawsKept P s u) : Gives (CardLawsKept P) s (match u.engine with
      | .lane g => match g.stage with
        | .opening => .next (u.walkOn g)
        | .deriving _ _ => .next u
        | .checking _ _ _ => .next u
        | .keystream _ _ _ _ => .next u
        | .withheld => .next u
      | .idle => .next u
      | .custody _ => .next u) := by
    split
    · rename_i engine
      split
      · rename_i opening
        exact .next (given.trans (cards_walkOn engine opening))
      all_goals exact .next given
    · exact .next given
    · exact .next given
  unfold execGrant
  split
  · exact cardLawsKept_steady.same s
  · refine walks ?_
    split
    · exact cards_choose s
    · exact .refl s
    · exact .refl s

/-- An operation of the entry in progress has ended, and the next one is not the last (R82, R86). -/
theorem RunGrant.Lawful.advance {g : RunGrant} (h : g.Lawful) {n : Nat} (ended : g.stage.ended = some n)
    (entry : g.stage.inEntry = true) (few : n < 2) {stage : Stage} (next : ∀ m, stage.ended = some m → m = n + 1) :
    RunGrant.Lawful { g with performed := g.performed + 1, stage := stage } := by
  have room := h.fits entry
  have before := h.performed n ended
  refine ⟨h.budget, h.used, fun _ => room, fun m hm => ?_, ?_⟩
  · rw [next m hm]
    dsimp only
    omega
  · dsimp only
    omega

theorem cards_execCardKeyDerivationEnd (s : State) : Gives (CardLawsKept P) s (execCardKeyDerivationEnd s) := by
  unfold execCardKeyDerivationEnd
  split
  · rename_i g engine
    split
    · rename_i stage
      refine .next (cards_setGrant (fun h => ?_) nofun)
      exact (h.grant g engine).advance (n := 0) (by rw [stage]; rfl) (by rw [stage]; rfl) (by decide)
        fun m hm => (Option.some.inj hm).symm
    · exact .fault s _
    all_goals exact cardLawsKept_steady.same s
  · exact cardLawsKept_steady.same s
  · exact cardLawsKept_steady.same s

/-- The keystream operation is begun on the lane's chain under the key of its slot (R84). -/
theorem cards_execCardCheckValueEnd (s : State) : Gives (CardLawsKept P) s (execCardCheckValueEnd s) := by
  unfold execCardCheckValueEnd
  split
  · rename_i g engine
    split
    · rename_i w ck op stage
      have lawful (h : BudgetLaw s) {next : Stage} (ended : ∀ m, next.ended = some m → m = 2) :
          RunGrant.Lawful { g with performed := g.performed + 1, stage := next } :=
        (h.grant g engine).advance (n := 1) (by rw [stage]; rfl) (by rw [stage]; rfl) (by decide) ended
      refine .next ?_
      cases key : s.transportKey g.lane with
      | none => exact cards_setGrant (fun h => lawful h nofun) nofun
      | some key' =>
        refine ⟨fun h => ⟨h.quantum, fun _ e => Engine.lane.inj e ▸ lawful h fun m hm => (Option.some.inj hm).symm⟩,
          fun _ h => ⟨h.chains, fun g' w' ck' c' op' e hs => ?_⟩⟩
        obtain rfl := Engine.lane.inj e
        cases hs
        exact ⟨key', key, rfl⟩
    · exact .fault s _
    all_goals exact cardLawsKept_steady.same s
  · exact cardLawsKept_steady.same s
  · exact cardLawsKept_steady.same s

/-- The entry is written, and the walk goes on from the state written (R85). -/
theorem cards_execKeystreamBlockEnd (s : State) : Gives (CardLawsKept P) s (execKeystreamBlockEnd s) := by
  unfold execKeystreamBlockEnd
  split
  · rename_i g engine
    split
    · rename_i w ck check op stage
      split
      · exact cardLawsKept_steady.same s
      · rename_i r run
        have same := (exec_keystreamBlockEnd engine stage run).symm.trans (exec_keystreamBlockEnd_walks engine stage run)
        rw [same]
        exact .next ((cards_entryWritten engine stage r.tie).trans (cards_walkOn rfl rfl))
    · exact .fault s _
    all_goals exact cardLawsKept_steady.same s
  · exact cardLawsKept_steady.same s
  · exact cardLawsKept_steady.same s

/-! ### Links -/

theorem cards_immediate (s : State) (k : Link) (kind : Byte) : CardLawsKept P s (s.immediate k kind) := by
  unfold State.immediate
  split
  · exact cards_setLink s _ _
  · split
    · exact cards_runStop s _
    · exact cards_setLink s _ _

theorem cards_receive (s : State) (k : Link) (bytes : List Byte) : CardLawsKept P s (s.receive k bytes) := by
  unfold State.receive
  split
  · split
    · split
      · split
        · exact cards_immediate s k _
        · exact cards_frameError s k
      · exact cards_setLink s k _
    · exact cards_frameError s k
  · exact cards_frameError s k

theorem cards_execRequestTransfer (k : Link) (x : Shifted) (s : State) :
    Gives (CardLawsKept P) s (execRequestTransfer k x s) := by
  have shifts : CardLawsKept P s (s.shiftOut k (List.replicate x.bytes.length 0)) := cards_setLink s k _
  refine cardLawsKept_steady.guarded (.next (shifts.trans ?_))
  unfold State.receiveTransfer
  split
  · exact cards_receive _ k _
  · exact cards_frameError _ k

theorem cards_execCollectBegin (k : Link) (s : State) : Gives (CardLawsKept P) s (execCollectBegin k s) :=
  cardLawsKept_steady.guarded (.next (cards_setLink s k _))

theorem cards_execCollectEnd (k : Link) (clocked cut : Nat) (s : State) :
    Gives (CardLawsKept P) s (execCollectEnd k clocked cut s) := by
  unfold execCollectEnd
  split
  · exact cardLawsKept_steady.same s
  · dsimp only
    split
    · exact .next (cards_setLink s k _)
    · exact .next ((cards_setLink s k _).trans (cards_handOn _ k _))

theorem cards_execUnknownRequest (k : Link) (s : State) : Gives (CardLawsKept P) s (execUnknownRequest k s) := by
  have steady := cardLawsKept_steady (P := P)
  cases k with
  | custody =>
    unfold execUnknownRequest
    dsimp only
    split
    · exact steady.same s
    · split
      · exact steady.same s
      · exact steady.takeCustody fun _ u _ => steady.refuse u _ _
  | lane l =>
    unfold execUnknownRequest
    exact steady.takeLane (cards_serveLane s l)

theorem cards_execLinkClear (s : State) : Gives (CardLawsKept P) s (execLinkClear s) :=
  cardLawsKept_steady.guarded (.next (cards_setLink s _ _))

theorem cards_execLaneClear (l : LaneId) (s : State) : Gives (CardLawsKept P) s (execLaneClear l s) :=
  cardLawsKept_steady.guarded (.next (cards_setLink s _ _))

theorem cards_execDeviceStatus (s : State) : Gives (CardLawsKept P) s (execDeviceStatus s) :=
  cardLawsKept_steady.takeCustody fun _ u _ => cardLawsKept_steady.readCustody fun _ => .next (cards_reply u _ _)

/-! ### The Tamper Monitor and the erase -/

theorem cards_execTamperSetup (raw : BitVec 6) (s : State) : Gives (CardLawsKept P) s (execTamperSetup raw s) := by
  have steady := cardLawsKept_steady (P := P)
  refine steady.takeCustody fun _ u _ => steady.readCustody fun _ => steady.gated ?_
  split
  · exact steady.refuse u _ _
  · exact .next ((cards_tamper u _).trans (cards_reply _ _ _))

theorem cards_execTamperAck (s : State) : Gives (CardLawsKept P) s (execTamperAck s) := by
  have steady := cardLawsKept_steady (P := P)
  refine steady.takeCustody fun _ u _ => steady.readCustody fun _ => steady.gated ?_
  have acknowledges := cards_tamper (P := P) u u.tamper.acknowledge
  split
  · exact steady.refuseOr (.next ((acknowledges.trans (cards_setMode _ .uninitialised)).trans (cards_reply _ _ _)))
  · exact .next (acknowledges.trans (cards_reply _ _ _))

theorem cards_execTamperInputEdge (i : InputId) (samples : List Level) (s : State) :
    Gives (CardLawsKept P) s (execTamperInputEdge i samples s) :=
  cardLawsKept_steady.guarded (.next (cardLawsKept_steady.foldl (fun u v => cards_sampleInput u i v) s samples))

theorem cards_execEraseComplete {s : State} (grants : P → s.GrantRuns) :
    Gives (CardLawsKept P) s (execEraseComplete s) := by
  unfold execEraseComplete
  split
  · rename_i mode
    refine .next ((cards_blankSlots fun p => (grants p).noLaneGrant (by rw [mode]; nofun)).trans ?_)
    exact .of_parts
  · exact cardLawsKept_steady.same s

theorem cards_supply (s : State) (mv : Nat) (t : Tamper) : CardLawsKept P s { s with vmain := mv, tamper := t } := .of_parts

theorem cards_execSupplyAboveThreshold (mv : Nat) (s : State) :
    Gives (CardLawsKept P) s (execSupplyAboveThreshold mv s) := by
  refine cardLawsKept_steady.guarded ?_
  split
  · exact .next (cards_supply s mv _)
  · exact .next (cards_supply s mv _)

theorem cards_execSupplyBelowThreshold (mv : Nat) (s : State) :
    Gives (CardLawsKept P) s (execSupplyBelowThreshold mv s) := by
  refine cardLawsKept_steady.guarded ?_
  split
  · exact .next (cards_supply s mv _)
  · exact .next (cards_supply s mv _)

theorem cards_execSupplyTimerExpiry (s : State) : Gives (CardLawsKept P) s (execSupplyTimerExpiry s) :=
  cardLawsKept_steady.guarded (.next ((cards_tamper s _).trans (cards_tamperEvent _ _ _)))

/-! ### Stopping and starting -/

theorem cards_stopIfRunning (s : State) (cut : SweepCut) :
    CardLawsKept P s (if s.mode.running then s.stopLogic cut else s) := by
  split
  · exact cards_stopLogic s cut
  · exact .refl s

theorem cards_vmain (s : State) (mv : Nat) : CardLawsKept P s { s with vmain := mv } := .of_parts

theorem cards_resetHeld (s : State) (b : Bool) : CardLawsKept P s { s with resetHeld := b } := .of_parts

theorem cards_battery (s : State) (b : Bool) : CardLawsKept P s { s with battery := b } := .of_parts

theorem cards_execMainSupplyLoss (mv : Nat) (cut : SweepCut) (s : State) :
    Gives (CardLawsKept P) s (execMainSupplyLoss mv cut s) :=
  cardLawsKept_steady.guarded (.next (((cards_stopIfRunning s cut).trans (cards_vmain _ mv)).trans (cards_keepDomain _)))

theorem cards_execResetAssert (cut : SweepCut) (s : State) : Gives (CardLawsKept P) s (execResetAssert cut s) :=
  cardLawsKept_steady.guarded (.next ((cards_stopIfRunning s cut).trans (cards_resetHeld _ true)))

theorem cards_execMainSupplyRise (mv : Nat) (s : State) : Gives (CardLawsKept P) s (execMainSupplyRise mv s) := by
  refine cardLawsKept_steady.guarded (.next ?_)
  split
  · exact cards_vmain s mv
  · exact (cards_vmain s mv).trans (cards_enterStarting _)

theorem cards_execResetRelease (s : State) : Gives (CardLawsKept P) s (execResetRelease s) := by
  refine cardLawsKept_steady.guarded (.next ?_)
  split
  · exact (cards_resetHeld s false).trans (cards_enterStarting _)
  · exact cards_resetHeld s false

theorem cards_execValidityCheck (raw : BitVec 6) (s : State) : Gives (CardLawsKept P) s (execValidityCheck raw s) := by
  refine cardLawsKept_steady.guarded ?_
  split
  · exact .next ((cards_tamper s (Tamper.default (levelOf raw))).trans (cards_setMode _ _))
  · split
    · exact .next (cards_eraseBegin s)
    · exact .next (cards_setMode s _)

theorem cards_execBatteryLossClearingEnd {s : State} (grants : P → s.GrantRuns) :
    Gives (CardLawsKept P) s (execBatteryLossClearingEnd s) := by
  unfold execBatteryLossClearingEnd
  split
  · rename_i mode
    have clears : CardLawsKept P s s.clearDomain :=
      cards_clearDomain fun p => (grants p).noLaneGrant (by rw [mode]; nofun)
    split
    · exact .next (clears.trans (cards_eraseBegin _))
    · exact .next (clears.trans (cards_setMode _ _))
  · exact cardLawsKept_steady.same s

theorem cards_execSweepEnd {s : State} (grants : P → s.GrantRuns) : Gives (CardLawsKept P) s (execSweepEnd s) := by
  unfold execSweepEnd
  split
  · rename_i mode
    exact .next ((cards_sweep fun p => (grants p).noLaneGrant (by rw [mode]; nofun)).trans (cards_afterSweep _))
  · exact cardLawsKept_steady.same s

theorem cards_execBackupBatteryFailure (b : Bool) (s : State) :
    Gives (CardLawsKept P) s (execBackupBatteryFailure b s) :=
  .next (((cards_battery s false).trans (cards_keepDomain _)).trans (cards_battery _ b))

/-- A fault of the battery-backed memory reaches no grant; a key is another thing (R13). -/
theorem cards_execBatteryBackedMemoryFault (i : SlotId) (b : SlotBody) (n : Nat) (w : BitVec 32) (s : State)
    (sound : ¬ P) : Gives (CardLawsKept P) s (execBatteryBackedMemoryFault i b n w s) :=
  cardLawsKept_steady.guarded (.next (.of_parts (keys := fun p => absurd p sound)))

/-! ### Every step -/

theorem cards_exec (c : Instr) {s : State} (refs : P → RefsLaw s) (grants : P → s.GrantRuns)
    (sound : P → ∀ i b n w, c ≠ .batteryBackedMemoryFault i b n w) : Gives (CardLawsKept P) s (exec c s) := by
  cases c with
  | requestTransfer k x => exact cards_execRequestTransfer k x s
  | collectBegin k => exact cards_execCollectBegin k s
  | collectEnd k clocked cut => exact cards_execCollectEnd k clocked cut s
  | unknownRequest k => exact cards_execUnknownRequest k s
  | slotStatus => exact cards_execSlotStatus s
  | slotErase => exact cards_execSlotErase refs
  | assemble => exact cards_execAssemble s
  | component => exact cards_execComponent s
  | componentCheckEnd => exact cards_execComponentCheckEnd s
  | finalCheckEnd => exact cards_execFinalCheckEnd refs
  | assemblyCancel => exact cards_execAssemblyCancel s
  | custodySwitchChange samples => exact cards_execCustodySwitchChange samples s
  | initialise => exact cards_execInitialise s
  | initialisePatternEnd => exact cards_execInitialisePatternEnd s
  | storageRoll => exact cards_execStorageRoll s
  | storageRollPatternEnd => exact cards_execStorageRollPatternEnd s
  | tokenExport => exact cards_execTokenExport s
  | tokenExportOperationEnd => exact cards_execTokenExportOperationEnd s
  | tokenImport => exact cards_execTokenImport s
  | tokenImportOperationEnd => exact cards_execTokenImportOperationEnd refs
  | warrantOpen => exact cards_execWarrantOpen s
  | warrantHold => exact cards_execWarrantHold s
  | warrantRelease => exact cards_execWarrantRelease s
  | warrantExtend => exact cards_execWarrantExtend s
  | warrantClose => exact cards_execWarrantClose s
  | warrantPurge => exact cards_execWarrantPurge s
  | warrantStatus k => exact cards_execWarrantStatus k s
  | warrantList => exact cards_execWarrantList s
  | laneBind => exact cards_execLaneBind grants
  | laneUnbind => exact cards_execLaneUnbind grants
  | setQuantum => exact cards_execSetQuantum s
  | tamperSetup raw => exact cards_execTamperSetup raw s
  | tamperAck => exact cards_execTamperAck s
  | deviceStatus => exact cards_execDeviceStatus s
  | linkClear => exact cards_execLinkClear s
  | run l => exact cards_execRun l s
  | laneStatus l => exact cards_execLaneStatus l s
  | runStop stop => exact cards_execRunStop stop s
  | laneClear l => exact cards_execLaneClear l s
  | grant => exact cards_execGrant s
  | cardKeyDerivationEnd => exact cards_execCardKeyDerivationEnd s
  | cardCheckValueEnd => exact cards_execCardCheckValueEnd s
  | keystreamBlockEnd => exact cards_execKeystreamBlockEnd s
  | tamperInputEdge i samples => exact cards_execTamperInputEdge i samples s
  | eraseComplete => exact cards_execEraseComplete grants
  | supplyAboveThreshold mv => exact cards_execSupplyAboveThreshold mv s
  | supplyBelowThreshold mv => exact cards_execSupplyBelowThreshold mv s
  | supplyTimerExpiry => exact cards_execSupplyTimerExpiry s
  | mainSupplyLoss mv cut => exact cards_execMainSupplyLoss mv cut s
  | resetAssert cut => exact cards_execResetAssert cut s
  | mainSupplyRise mv => exact cards_execMainSupplyRise mv s
  | resetRelease => exact cards_execResetRelease s
  | validityCheck raw => exact cards_execValidityCheck raw s
  | batteryLossClearingEnd => exact cards_execBatteryLossClearingEnd grants
  | sweepEnd => exact cards_execSweepEnd grants
  | backupBatteryFailure b => exact cards_execBackupBatteryFailure b s
  | batteryBackedMemoryFault i b n w =>
    exact cards_execBatteryBackedMemoryFault i b n w s fun p => sound p i b n w rfl

/-- So does every step: that of a command, and the passes' next write with none waiting. -/
theorem cards_step {s t : State} (refs : P → RefsLaw s) (grants : P → s.GrantRuns) (sound : P → MemorySound s)
    (h : step s = .next t) : CardLawsKept P s t := by
  cases hp : s.pending with
  | nil =>
    rw [step_of_nil hp] at h
    obtain rfl := Host.Outcome.next.inj h
    by_cases mode : s.mode = .erasing
    · rw [State.tick_erasing mode]
      exact cards_overwriteNext fun p => (grants p).noLaneGrant (by rw [mode]; nofun)
    · rw [State.tick_idle mode]; exact .refl s
  | cons c cs =>
    simp only [step, hp] at h
    have takes : CardLawsKept P s (s.withPending cs) := .of_parts
    have law (p : P) : RefsLaw (s.withPending cs) := (refs p).frame .of_fields
    refine takes.trans (cards_exec c law grants (fun p i b n w e => sound p i b n w ?_) t h)
    rw [hp, e]; rfl

end

/-- Settles O49: no step takes a grant past the quantum it read. -/
theorem grantsStayWithinTheirBudget : Obligations.GrantsStayWithinTheirBudget := fun _ _ law h =>
  (cards_step (P := False) nofun nofun nofun h).budget law

/-- Settles O54: under lawful references and grants no step but a keystream block's end takes a chain further. -/
theorem chainLawIsKept : Obligations.ChainLawIsKept := fun _ _ law refs service sound h =>
  (cards_step (P := True) (fun _ => refs) (fun _ => service.grantRuns) (fun _ => sound) h).chains trivial law

end Sys2Proof.Machine
end

section
/-! SUPPORT. The arithmetic of SET_QUANTUM, of a card entry's checks and of its packed field, in the terms of the statements
(R77 to R81, R94). -/

namespace Sys2Proof.Machine

/-! ### The quantum (R94) -/

theorem quantumOf_eq (v : Nat) :
    quantumOf v = if v - v % 3 < 3 then 3 else if 48 < v - v % 3 then 48 else v - v % 3 := by
  unfold quantumOf
  split_ifs <;> omega

/-- A SET_QUANTUM the custody unit takes is LOCKED, or its value is in force (R94). -/
theorem exec_setQuantum {s : State} {v : Byte} (takes : CustodyTakes s kindSetQuantum [v]) :
    exec .setQuantum s =
      if s.mode = .locked then .next (s.afterRefusal kindSetQuantum .locked)
      else
        .next ({ s with quantum := quantumOf v.toNat }.afterReply
          (.ok kindSetQuantum (if quantumOf v.toNat = v.toNat then .none else .clamped)
            [u8 s.quantum, u8 (quantumOf v.toNat)])) := by
  change execSetQuantum s = _
  unfold execSetQuantum
  rw [takes.take]
  rfl

/-! ### The checks of an entry (R77 to R79) -/

/-- What the check sum adds for its first digit is the value of R78, which depends on the position's parity only. -/
theorem checkSum_cons (even : Bool) (d : Byte) (ds : List Byte) :
    checkSum even (d :: ds) = luhnValue (if even then 0 else 1) d.toNat + checkSum (!even) ds := by
  cases even <;> rfl

theorem luhnValue_parity (p d : Nat) : luhnValue (if p % 2 == 0 then 0 else 1) d = luhnValue p d := by
  unfold luhnValue
  obtain h | h := Nat.mod_two_eq_zero_or_one p <;> simp [h]

/-- The check sum of digits whose first stands in position `p`. -/
theorem checkSum_eq_sum (p : Nat) (ds : List Byte) :
    checkSum (p % 2 == 0) ds =
      ((List.range ds.length).map fun i => luhnValue (i + p) (ds.getD i 0).toNat).sum := by
  induction ds generalizing p with
  | nil => rfl
  | cons d ds ih =>
    have turned : (!(p % 2 == 0)) = ((p + 1) % 2 == 0) := by
      obtain h | h := Nat.mod_two_eq_zero_or_one p <;> simp [h, Nat.add_mod]
    rw [checkSum_cons, luhnValue_parity, turned, ih]
    simp [List.range_succ_eq_map, Function.comp_def, Nat.add_assoc, Nat.add_comm 1]

theorem checkDigitOk_iff (digits : List Byte) : checkDigitOk digits = true ↔ luhnSum digits % 10 = 0 := by
  have sum : checkSum false digits.reverse = luhnSum digits := by
    have counted := checkSum_eq_sum 1 digits.reverse
    rwa [List.length_reverse] at counted
  rw [checkDigitOk, sum, beq_iff_eq]

theorem prefixOk_iff (leading : Option (List Byte)) (digits : List Byte) :
    prefixOk leading digits = true ↔ ∀ p, leading = some p → p <+: digits := by
  cases leading with
  | none => simp [prefixOk]
  | some p => simp [prefixOk, List.prefix_iff_eq_take, eq_comm (a := p)]

/-- The five checks of R77 in order. -/
theorem Entry.refusal_eq (e : Entry) (leading : Option (List Byte)) :
    e.refusal leading =
      if e.digits.length < 13 ∨ 19 < e.digits.length then some .badLength
      else if ∃ d ∈ e.digits, 9 < d.toNat then some .badDigit
      else if 9999 < e.sequence.toNat then some .badSequence
      else if luhnSum e.digits % 10 ≠ 0 then some .badCheckDigit
      else if ∃ p, leading = some p ∧ ¬ p <+: e.digits then some .outsidePrefix
      else none := by
  have length : (decide (e.digits.length < 13) || decide (19 < e.digits.length)) = true ↔
      e.digits.length < 13 ∨ 19 < e.digits.length := by simp
  have digit : (!(e.digits.all fun d => d.toNat ≤ 9)) = true ↔ ∃ d ∈ e.digits, 9 < d.toNat := by simp
  have check : (!checkDigitOk e.digits) = true ↔ luhnSum e.digits % 10 ≠ 0 := by
    rw [Ne, ← checkDigitOk_iff]; simp
  have leads : (!prefixOk leading e.digits) = true ↔ ∃ p, leading = some p ∧ ¬ p <+: e.digits := by
    rw [Bool.not_eq_true', ← Bool.not_eq_true, prefixOk_iff]; simp
  unfold Entry.refusal
  simp only [length, digit, check, leads]

/-! ### The packed field (R80) -/

/-- The nibbles of the packed field, the leftmost first: 0xF up to the digits, then the digits. -/
def packedNibbles (digits : List Byte) : List Nat :=
  List.replicate (20 - digits.length) 15 ++ digits.map BitVec.toNat

theorem length_packedNibbles {digits : List Byte} (fits : digits.length ≤ 19) : (packedNibbles digits).length = 20 := by
  simp [packedNibbles]; omega

theorem packedNibbles_lt {digits : List Byte} (decimal : ∀ d ∈ digits, d.toNat ≤ 9) :
    ∀ x ∈ packedNibbles digits, x < 16 := by
  intro x hx
  simp only [packedNibbles, List.mem_append, List.mem_replicate, List.mem_map] at hx
  obtain ⟨_, rfl⟩ | ⟨d, hd, rfl⟩ := hx
  · decide
  · have := decimal d hd; omega

/-- The digits of an identifier are the nibbles of its field that are not 0xF. -/
theorem filter_packedNibbles {digits : List Byte} (decimal : ∀ d ∈ digits, d.toNat ≤ 9) :
    (packedNibbles digits).filter (· ≠ 15) = digits.map BitVec.toNat := by
  have kept : ∀ x ∈ digits.map BitVec.toNat, decide (x ≠ 15) = true := by
    intro x hx
    obtain ⟨d, hd, rfl⟩ := List.mem_map.1 hx
    have := decimal d hd
    simp only [decide_eq_true_eq]; omega
  rw [packedNibbles, List.filter_append, List.filter_eq_self.2 kept]
  simp

/-- A field of 0xF is the fold's start value. -/
theorem foldl_replicate_fifteen (n : Nat) :
    (List.replicate n 15).foldl (fun acc x => x + 16 * acc) 0 = 16 ^ n - 1 := by
  induction n with
  | zero => rfl
  | succ n ih =>
    have := Nat.one_le_pow n 16 (by decide)
    rw [List.replicate_succ', List.foldl_append, ih]
    simp only [List.foldl_cons, List.foldl_nil]
    omega

/-- The packed field is the number its nibbles spell. -/
theorem packDigits_toNat {digits : List Byte} (fits : digits.length ≤ 19) (decimal : ∀ d ∈ digits, d.toNat ≤ 9) :
    (packDigits digits).toNat = Nat.ofDigits 16 (packedNibbles digits).reverse := by
  have spelled : Nat.ofDigits 16 (packedNibbles digits).reverse =
      digits.foldl (fun acc d => acc * 16 + d.toNat) (16 ^ (20 - digits.length) - 1) := by
    rw [Nat.ofDigits_eq_foldr, List.foldr_reverse, packedNibbles, List.foldl_append, List.foldl_map]
    simp only [Nat.cast_id, foldl_replicate_fifteen]
    simp only [Nat.add_comm, Nat.mul_comm]
  have small : Nat.ofDigits 16 (packedNibbles digits).reverse < 16 ^ 20 := by
    have := Nat.ofDigits_lt_base_pow_length (l := (packedNibbles digits).reverse) (b := 16) (by decide) fun x hx =>
      packedNibbles_lt decimal x (List.mem_reverse.1 hx)
    rwa [List.length_reverse, length_packedNibbles fits] at this
  rw [packDigits, ← spelled, BitVec.toNat_ofNat, Nat.mod_eq_of_lt]
  exact small

/-- The nibble of the packed field in position `k` from the left. -/
theorem packDigits_nibble {digits : List Byte} {k : Nat} (fits : digits.length ≤ 19)
    (decimal : ∀ d ∈ digits, d.toNat ≤ 9) (hk : k < 20) :
    (packDigits digits).toNat / 16 ^ (19 - k) % 16 = (packedNibbles digits).getD k 0 := by
  have length : (packedNibbles digits).reverse.length = 20 := by rw [List.length_reverse, length_packedNibbles fits]
  have small : ∀ x ∈ (packedNibbles digits).reverse, x < 16 := by simpa using packedNibbles_lt decimal
  have here : 19 - k < (packedNibbles digits).reverse.length := by omega
  rw [packDigits_toNat fits decimal, Nat.ofDigits_div_pow_eq_ofDigits_drop _ (by decide) _ small,
    List.drop_eq_getElem_cons here, Nat.ofDigits_mod_eq_head!, List.head!_cons,
    Nat.mod_eq_of_lt (small _ (List.getElem_mem here)), List.getElem_reverse,
    List.getD_eq_getElem _ _ (by rw [length_packedNibbles fits]; exact hk)]
  congr 1
  rw [length_packedNibbles fits]; omega

theorem packedNibbles_getD {digits : List Byte} {k : Nat} (fits : digits.length ≤ 19) :
    (packedNibbles digits).getD k 0 =
      if k + digits.length < 20 then 15 else (digits.getD (k + digits.length - 20) 0).toNat := by
  have length : (List.replicate (20 - digits.length) 15).length = 20 - digits.length := List.length_replicate
  split
  · rw [packedNibbles, List.getD_append _ _ _ _ (by omega)]
    exact List.getD_replicate _ (by omega)
  · rw [packedNibbles, List.getD_append_right _ _ _ _ (by omega), length,
      show (0 : Nat) = (0 : Byte).toNat from rfl, List.getD_map]
    congr 2
    omega

theorem packDigits_injective {a b : List Byte} (fitsA : a.length ≤ 19) (fitsB : b.length ≤ 19)
    (decimalA : ∀ d ∈ a, d.toNat ≤ 9) (decimalB : ∀ d ∈ b, d.toNat ≤ 9) (same : packDigits a = packDigits b) :
    a = b := by
  have numbers := congrArg BitVec.toNat same
  rw [packDigits_toNat fitsA decimalA, packDigits_toNat fitsB decimalB] at numbers
  have nibbles : packedNibbles a = packedNibbles b := by
    refine List.reverse_injective (Nat.ofDigits_inj_of_len_eq (b := 16) (by decide) ?_ ?_ ?_ numbers)
    · simp [length_packedNibbles fitsA, length_packedNibbles fitsB]
    · simpa using packedNibbles_lt decimalA
    · simpa using packedNibbles_lt decimalB
  have digits := congrArg (List.filter (· ≠ 15)) nibbles
  rw [filter_packedNibbles decimalA, filter_packedNibbles decimalB] at digits
  exact List.map_injective_iff.2 (fun _ _ => BitVec.eq_of_toNat_eq) digits

/-! ### The derivation block (R81) -/

theorem blockBytes_derivationBlock (issuer version : Byte) (packed : BitVec 80) (sequence : BitVec 16) (purpose : Purpose) :
    blockBytes (derivationBlock issuer.toNat version packed sequence purpose) =
      [issuer, version] ++ be 10 packed.toNat ++ be 2 sequence.toNat ++ [purpose.byte, 0] := by
  rw [derivationBlock, blockBytes_readBlock (by simp [length_be]), u8_toNat]

end Sys2Proof.Machine
end

section
/-! PROOFS. SET_QUANTUM, and the checks and the packing of a card entry: SetQuantumRoundsAndClamps,
CardDataAreValidatedAndPacked. -/

namespace Sys2Proof.Machine

/-- Settles O28: the value of SET_QUANTUM is `quantumOf`, and the request is refused in LOCKED only (R94). -/
theorem setQuantumRoundsAndClamps : Obligations.SetQuantumRoundsAndClamps := by
  intro s v takes down q
  have value : quantumOf v.toNat = q := quantumOf_eq v.toNat
  rw [exec_setQuantum takes, value]
  refine ⟨fun locked => if_pos locked, fun unlocked => if_neg fun locked => ?_⟩
  rw [locked] at unlocked
  simp at unlocked

/-- Settles O34: the checks as `Entry.refusal_eq`, and the packed field by its twenty nibbles (R77 to R81). -/
theorem cardDataAreValidatedAndPacked : Obligations.CardDataAreValidatedAndPacked := by
  refine ⟨Entry.refusal_eq, ?_, ?_, blockBytes_derivationBlock⟩
  · intro digits k fits decimal hk
    rw [packDigits_nibble fits decimal hk, packedNibbles_getD fits]
  · intro a b fitsA fitsB decimalA decimalB same
    exact packDigits_injective fitsA fitsB decimalA decimalB same

end Sys2Proof.Machine
end

section
/-! SUPPORT. The arbiter's choice in the terms of the statements: the lane whose turn is first, and what each holder takes with
the engine (R87, R119, R124, R125, R126). -/

namespace Sys2Proof.Machine

/-! ### The lane whose turn is first (R125) -/

/-- A lane stands in the order of R125 at its turn, and the lanes before it have smaller turns. -/
theorem lanesAfter_eq (p l : LaneId) :
    ∃ before after, lanesAfter p = before ++ l :: after ∧ ∀ m ∈ before, turn p m < turn p l := by
  refine ⟨(lanesAfter p).take (turn p l), (lanesAfter p).drop (turn p l + 1), ?_, ?_⟩ <;> revert p l <;> decide

/-- The first pending lane of a class is the one of it whose turn is first. -/
theorem State.firstWaiting_eq_some {s : State} {cls : Priority} {p l : LaneId} (waits : s.waits (.lane l) = true)
    (member : s.lanes[l].cls = cls)
    (first : ∀ m : LaneId, s.waits (.lane m) = true → s.lanes[m].cls = cls → turn p l ≤ turn p m) :
    s.firstWaiting cls p = some l := by
  obtain ⟨before, after, order, earlier⟩ := lanesAfter_eq p l
  rw [State.firstWaiting, order, List.find?_eq_some_iff_append]
  refine ⟨by rw [waits, member]; cases cls <;> rfl, before, after, rfl, fun m hm => ?_⟩
  have late := earlier m hm
  by_contra h
  simp only [Bool.not_eq_true', Bool.not_eq_false, Bool.and_eq_true, beq_iff_eq] at h
  have := first m h.1 h.2
  omega

/-- No lane of a class is first if none of it waits. -/
theorem State.firstWaiting_eq_none {s : State} {cls : Priority}
    (none : ∀ m : LaneId, s.waits (.lane m) = true → s.lanes[m].cls ≠ cls) (p : LaneId) :
    s.firstWaiting cls p = .none := by
  refine List.find?_eq_none.2 fun m _ h => ?_
  simp only [Bool.and_eq_true, beq_iff_eq] at h
  exact none m h.1 h.2

/-- The pointer of a class (R126). -/
def State.pointerOf (s : State) : Priority → LaneId
  | .high => s.highPointer
  | .low => s.lowPointer

/-- A lane is chosen where custody does not wait, no lane of a higher class does, and no lane of its class comes before it
(R125). -/
theorem State.choice_lane {s : State} {cls : Priority} {l : LaneId} (free : s.waits .custody = false)
    (waits : s.waits (.lane l) = true) (member : s.lanes[l].cls = cls)
    (low : cls = .low → ∀ m : LaneId, s.waits (.lane m) = true → s.lanes[m].cls = .low)
    (first : ∀ m : LaneId, s.waits (.lane m) = true → s.lanes[m].cls = cls →
      turn (s.pointerOf cls) l ≤ turn (s.pointerOf cls) m) :
    s.choice = some (.lane l) := by
  have chosen : s.firstWaiting cls (s.pointerOf cls) = some l := State.firstWaiting_eq_some waits member first
  rw [State.choice, if_neg (by rw [free]; decide)]
  cases cls with
  | high => rw [show s.firstWaiting .high s.highPointer = some l from chosen]
  | low =>
    rw [State.firstWaiting_eq_none (fun m hm high => by rw [low rfl m hm] at high; cases high),
      show s.firstWaiting .low s.lowPointer = some l from chosen]
    rfl

theorem State.choice_none {s : State} (nobody : s.requesters = 0) : s.choice = none := by
  have idle (r : Requester) : s.waits r = false := by rw [State.waits, nobody]; exact BitVec.getLsbD_zero
  have lanes (cls : Priority) (p : LaneId) : s.firstWaiting cls p = none :=
    State.firstWaiting_eq_none (fun m hm => by rw [idle] at hm; cases hm) p
  rw [State.choice, if_neg (by rw [idle]; decide), lanes, lanes]
  rfl

/-! ### What each holder takes -/

/-- Custody leaves the pending set and takes the engine for its command in process (R122). -/
theorem State.beginCustodyGrant_eq {s : State} {p : Process} (process : s.custody.process = some p) :
    s.beginCustodyGrant =
      { s with
        requesters := s.requesters &&& 15
        engine := .custody { planned := p.planned, performed := 0, op := s.custodyOp p } } := by
  have unread (x : RequesterSet) : State.custodyOp { s with requesters := x } p = s.custodyOp p := by cases p <;> rfl
  simp only [State.beginCustodyGrant, State.withdraw, process, unread]
  rfl

/-- A lane leaves the pending set, moves its class's pointer, becomes ACTIVE and takes the quantum as its budget (R87, R126). -/
theorem State.beginRunGrant_eq {s : State} {l : LaneId} {r : Run} (run : s.lanes[l].run = some r) :
    s.beginRunGrant l =
      { s with
        requesters := s.requesters &&& ~~~(BitVec.twoPow 5 l.val)
        highPointer := if s.lanes[l].cls = .high then l else s.highPointer
        lowPointer := if s.lanes[l].cls = .low then l else s.lowPointer
        lanes := s.lanes.set l { s.lanes[l] with run := some { r with state := .active } }
        engine := .lane
          { lane := l, budget := s.quantum, used := 0, performed := 0, index := r.next, results := []
            master := (s.tied r.tie).map fun w => w.master
            stage := .opening, stopAt := none } } := by
  have waiting : (s.withdraw (.lane l)).lanes[l].run = some r := run
  have pointers : (s.withdraw (.lane l)).setPointer l =
      { s.withdraw (.lane l) with
        highPointer := if s.lanes[l].cls = .high then l else s.highPointer
        lowPointer := if s.lanes[l].cls = .low then l else s.lowPointer } := by
    have member : (s.withdraw (.lane l)).lanes[l].cls = s.lanes[l].cls := rfl
    rw [State.setPointer, member]
    cases s.lanes[l].cls <;> rfl
  simp only [State.beginRunGrant, waiting, pointers]
  rfl

/-- The end of a grant is the choice of the IDLE engine (R121, R122, R124). -/
theorem State.release_eq (s : State) : s.release = { s with engine := .idle }.choose := rfl

theorem State.choose_of_nobody {s : State} (nobody : s.requesters = 0) : s.choose = s := by
  rw [State.choose, State.choice_none nobody]

/-- Custody receives the engine as a grant ends (R125). -/
theorem State.release_of_custody {s : State} {p : Process} (waits : s.waits .custody = true)
    (process : s.custody.process = some p) :
    s.release =
      { s with
        requesters := s.requesters &&& 15
        engine := .custody { planned := p.planned, performed := 0, op := s.custodyOp p } } := by
  have unread : State.custodyOp { s with engine := .idle } p = s.custodyOp p := by cases p <;> rfl
  have chosen : State.choice { s with engine := .idle } = some .custody := (State.choice_custody _).2 waits
  rw [State.release_eq, State.choose, chosen]
  dsimp only
  rw [State.beginCustodyGrant_eq (s := { s with engine := .idle }) process, unread]

/-- A lane receives the engine as a grant ends (R87, R125, R126). -/
theorem State.release_of_lane {s : State} {l : LaneId} {r : Run} (chosen : s.choice = some (.lane l))
    (run : s.lanes[l].run = some r) :
    s.release =
      { s with
        requesters := s.requesters &&& ~~~(BitVec.twoPow 5 l.val)
        highPointer := if s.lanes[l].cls = .high then l else s.highPointer
        lowPointer := if s.lanes[l].cls = .low then l else s.lowPointer
        lanes := s.lanes.set l { s.lanes[l] with run := some { r with state := .active } }
        engine := .lane
          { lane := l, budget := s.quantum, used := 0, performed := 0, index := r.next, results := []
            master := (s.tied r.tie).map fun w => w.master
            stage := .opening, stopAt := none } } := by
  have chosen' : State.choice { s with engine := .idle } = some (.lane l) := chosen
  rw [State.release_eq, State.choose, chosen']
  exact State.beginRunGrant_eq (s := { s with engine := .idle }) run

theorem State.release_of_nobody {s : State} (nobody : s.requesters = 0) : s.release = { s with engine := .idle } :=
  State.choose_of_nobody (s := { s with engine := .idle }) nobody

/-! ### GRANT -/

/-- At an IDLE engine a grant's end is the choice. -/
theorem State.release_of_idle {s : State} (idle : s.engine = .idle) : s.release = s.choose := by
  have same : { s with engine := .idle } = s := by rw [← idle]
  rw [State.release_eq, same]

/-- At an IDLE engine GRANT makes the choice, and a lane begins its walk in that step (notes/assumptions/4.md). -/
theorem exec_grant_idle {s : State} (mode : s.mode.running = true) (idle : s.engine = .idle)
    (granted : s.release.engine ≠ .idle) : exec .grant s = exec .grant s.release := by
  have modes : s.choose.mode.running = true := by rw [State.choose_mode, mode]
  rw [State.release_of_idle idle] at granted ⊢
  change execGrant s = execGrant s.choose
  simp only [execGrant, mode, modes, idle]
  cases h : s.choose.engine with
  | idle => exact absurd h granted
  | custody g => simp only [h]; rfl
  | lane g => simp only [h]; rfl

theorem exec_grant_nobody {s : State} (mode : s.mode.running = true) (idle : s.engine = .idle)
    (nobody : s.requesters = 0) : exec .grant s = .next s := by
  change execGrant s = _
  simp only [execGrant, mode, idle, State.choose_of_nobody nobody]
  rfl

theorem exec_grant_custody {s : State} {g : CustodyGrant} (mode : s.mode.running = true) (engine : s.engine = .custody g) :
    exec .grant s = .next s := by
  change execGrant s = _
  simp only [execGrant, mode, engine]
  rfl

end Sys2Proof.Machine
end

section
/-! PROOFS. The arbiter's choice at a grant's end and at an IDLE engine: EngineIsGrantedInOrder. -/

namespace Sys2Proof.Machine

/-- Settles O32: the choice is custody's where it waits, else that of the lane whose turn is first in its class (R125), and
what the chosen one takes is `beginCustodyGrant` or `beginRunGrant`. -/
theorem engineIsGrantedInOrder : Obligations.EngineIsGrantedInOrder := by
  refine ⟨fun s => ⟨fun p waits process => State.release_of_custody waits process, ?_, State.release_of_nobody⟩,
    fun s mode => ⟨exec_grant_idle mode, exec_grant_nobody mode, fun g => exec_grant_custody mode⟩⟩
  intro cls l r free waits member run low first
  have chosen : s.choice = some (.lane l) :=
    State.choice_lane free waits member low fun m hm same => by cases cls <;> exact first m hm same
  rw [State.release_of_lane chosen run, member, State.tied]
  cases s.warrants.find? (fun w => w.serial == r.tie) <;> rfl

end Sys2Proof.Machine
end

section
/-! SUPPORT. One boundary of the metering walk in the terms of the statements: what the walk's outcome makes of the state, and
the walk from the entry a grant stands at (R87 to R91). -/

namespace Sys2Proof.Machine

/-! ### The end of a walk (R90, R109, R121) -/

theorem State.endWalk_eq_afterWalk (s : State) (g : RunGrant) (r : Run) (results : List EntryResult) (next : Nat)
    (reason : Option EndReason) : s.endWalk g r results next reason = s.afterWalk g r results next reason := by
  unfold State.endWalk State.afterWalk State.tied
  cases s.warrants.find? (fun w => w.serial == r.tie) <;> rfl

/-- The same status for every entry of a run from an index on (R88, R91). -/
def Run.unresolved (r : Run) (i : Nat) (status : EntryStatus) : List EntryResult :=
  (List.range (r.entries.length + 1 - i)).map fun k => { index := i + k, status := status }

theorem markAll_eq_map (status : EntryStatus) (i : Nat) (es : List Entry) :
    markAll status i es = (List.range es.length).map fun k => ⟨i + k, status⟩ := by
  induction es generalizing i with
  | nil => rfl
  | cons e es ih =>
    simp [markAll, ih, List.range_succ_eq_map, Function.comp_def, Nat.add_assoc, Nat.add_comm 1]

theorem Run.drop_entries {r : Run} {i : Nat} {e : Entry} (one : 1 ≤ i) (entry : r.entries[i - 1]? = some e) :
    r.entries.drop (i - 1) = e :: r.entries.drop i := by
  obtain ⟨h, rfl⟩ := List.getElem?_eq_some_iff.1 entry
  rw [List.drop_eq_getElem_cons h, Nat.sub_add_cancel one]

theorem Run.le_length {r : Run} {i : Nat} {e : Entry} (one : 1 ≤ i) (entry : r.entries[i - 1]? = some e) :
    i ≤ r.entries.length := by
  obtain ⟨h, _⟩ := List.getElem?_eq_some_iff.1 entry
  omega

theorem Run.unresolved_eq_markAll {r : Run} {i : Nat} {e : Entry} (one : 1 ≤ i) (entry : r.entries[i - 1]? = some e)
    (status : EntryStatus) : r.unresolved i status = markAll status i (e :: r.entries.drop i) := by
  have := Run.le_length one entry
  rw [markAll_eq_map, List.length_cons, List.length_drop, Run.unresolved, Nat.sub_add_comm this]

/-! ### The boundary under a warrant that is not OPEN (R88) -/

section
variable (stop : Option Nat) (room : Bool) (i : Nat) (e : Entry) (es : List Entry) {w : Warrant}

theorem walk_closed {c : CloseReason} (state : w.state = .closed c) :
    walk stop (some w) room false i (e :: es) =
      ⟨markAll .notReached i (e :: es), .final (i + es.length + 1) .warrantClosed, false⟩ := by simp [walk, state]

theorem walk_held (state : w.state = .held) :
    walk stop (some w) room false i (e :: es) =
      ⟨markAll .notReached i (e :: es), .final (i + es.length + 1) .warrantHeld, false⟩ := by simp [walk, state]

theorem walk_exhausted (state : w.state = .exhausted) :
    walk stop (some w) room false i (e :: es) =
      ⟨markAll .quotaSpent i (e :: es), .final (i + es.length + 1) .quotaReached, false⟩ := by simp [walk, state]

end

/-! ### What the outcome of a walk makes of the state -/

/-- The walk of a grant's run from a list of entries. -/
def State.walkOf (s : State) (g : RunGrant) (r : Run) (es : List Entry) : WalkEnd :=
  walk g.stopAt (s.tied r.tie) (g.used + 3 ≤ g.budget) r.stopMark g.index es

/-- The state a walk's outcome makes: `State.walkOn` past its walk. -/
def State.conclude (s : State) (g : RunGrant) (r : Run) (out : WalkEnd) : State :=
  let marked := { r with stopMark := out.stopMark }
  match out.stop with
  | .deliver index e =>
    { s.setLane g.lane { s.lanes[g.lane] with run := some marked } with
      engine := .lane
        { g with
          index := index, results := g.results ++ out.results
          stage := match s.tied r.tie with | none => .withheld | some w => s.entryStage g.lane w e } }
  | .more index =>
    let ended := s.endWalk g marked (g.results ++ out.results) index none
    if g.stopAt.isSome && !out.stopMark then ended.runStop g.lane else ended
  | .final next reason => s.endWalk g marked (g.results ++ out.results) next (some reason)

theorem State.walkOn_eq_conclude {s : State} {g : RunGrant} {r : Run} (run : s.lanes[g.lane].run = some r) :
    s.walkOn g = s.conclude g r (s.walkOf g r (r.entries.drop (g.index - 1))) := by
  simp only [State.walkOn, run]
  rfl

/-- A walk that ends the run (R90). -/
theorem State.conclude_final (s : State) (g : RunGrant) (r : Run) (results : List EntryResult) (next : Nat)
    (reason : EndReason) :
    s.conclude g r ⟨results, .final next reason, r.stopMark⟩ =
      s.afterWalk g r (g.results ++ results) next (some reason) := by
  rw [← State.endWalk_eq_afterWalk]
  rfl

/-! ### The boundary a grant stands at -/

section
variable {s : State} {g : RunGrant} {r : Run}

/-- A run past its last entry ends COMPLETE. -/
theorem State.walkOn_past (run : s.lanes[g.lane].run = some r) (past : g.index = r.entries.length + 1) :
    s.walkOn g = s.afterWalk g r (g.results ++ []) (r.entries.length + 1) (some .complete) := by
  have done : r.entries.drop (g.index - 1) = [] := List.drop_eq_nil_of_le (by omega)
  rw [State.walkOn_eq_conclude run, done, ← past]
  exact s.conclude_final g r [] g.index .complete

/-- A walk that ends at the entry the grant stands at leaves it and all after it unresolved (R88, R91). -/
theorem State.walkOn_ends {e : Entry} {status : EntryStatus} {reason : EndReason} {mark : Bool}
    (run : s.lanes[g.lane].run = some r) (one : 1 ≤ g.index) (entry : r.entries[g.index - 1]? = some e)
    (stopMark : r.stopMark = mark)
    (ends : ∀ es, walk g.stopAt (s.tied r.tie) (g.used + 3 ≤ g.budget) mark g.index (e :: es) =
      ⟨markAll status g.index (e :: es), .final (g.index + es.length + 1) reason, mark⟩) :
    s.walkOn g = s.afterWalk g r (g.results ++ r.unresolved g.index status) (r.entries.length + 1) (some reason) := by
  subst stopMark
  have here := Run.le_length one entry
  have last : g.index + (r.entries.drop g.index).length + 1 = r.entries.length + 1 := by
    rw [List.length_drop]; omega
  rw [State.walkOn_eq_conclude run, Run.drop_entries one entry, State.walkOf, ends, last,
    Run.unresolved_eq_markAll one entry]
  exact s.conclude_final g r _ _ reason

/-- The run as the warrant check of the entry a grant stands at leaves it: marked if a RUN_STOP falls there (R91). -/
def Run.markedAt (r : Run) (g : RunGrant) : Run := { r with stopMark := decide (g.stopAt = some g.index) }

/-- The grant past a refused entry (R89). -/
def RunGrant.pastRefused (g : RunGrant) (status : EntryStatus) : RunGrant :=
  { g with index := g.index + 1, results := g.results ++ [{ index := g.index, status := status }] }

theorem State.setLane_setLane (s : State) (l : LaneId) (x y : Lane) : (s.setLane l x).setLane l y = s.setLane l y := by
  simp only [State.setLane, Vector.set_set]

/-- What stands in the lane beside its run decides the end of a walk. -/
theorem State.endWalk_setRun (s : State) (g : RunGrant) (r : Run) (old : Option Run) (results : List EntryResult) (next : Nat)
    (reason : Option EndReason) :
    (s.setLane g.lane { s.lanes[g.lane] with run := old }).endWalk g r results next reason =
      s.endWalk g r results next reason := by
  simp only [State.endWalk, State.setLane_same, State.setLane_setLane]
  rfl

theorem State.entryStage_setRun (s : State) (l : LaneId) (old : Option Run) (w : Warrant) (e : Entry) :
    (s.setLane l { s.lanes[l] with run := old }).entryStage l w e = s.entryStage l w e := by
  simp only [State.entryStage, State.transportKey, State.setLane_same, State.setLane_slots]

/-- What stands in the lane beside its run decides what a walk's outcome makes of the state. -/
theorem State.conclude_setRun (s : State) (g : RunGrant) (r : Run) (old : Option Run) (out : WalkEnd) :
    (s.setLane g.lane { s.lanes[g.lane] with run := old }).conclude g r out = s.conclude g r out := by
  have tied : (s.setLane g.lane { s.lanes[g.lane] with run := old }).tied r.tie = s.tied r.tie := rfl
  simp only [State.conclude, State.endWalk_setRun, State.entryStage_setRun, State.setLane_same, State.setLane_setLane, tied]

/-- A refused entry's result is listed before those of the rest of the walk. -/
theorem State.conclude_pastRefused (s : State) (g : RunGrant) (r : Run) (status : EntryStatus) (out : WalkEnd) :
    s.conclude (g.pastRefused status) (r.markedAt g) out =
      s.conclude g r { out with results := ⟨g.index, status⟩ :: out.results } := by
  obtain ⟨results, stop, mark⟩ := out
  have listed : (g.pastRefused status).results ++ results = g.results ++ ⟨g.index, status⟩ :: results := by
    simp [RunGrant.pastRefused]
  cases stop <;> (simp only [State.conclude, listed]; rfl)

/-- A refused entry is recorded, and the walk goes on at the next as from a grant that stands there (R89). -/
theorem State.walkOn_refused {e : Entry} {w : Warrant} {status : EntryStatus} (run : s.lanes[g.lane].run = some r)
    (one : 1 ≤ g.index) (entry : r.entries[g.index - 1]? = some e) (unmarked : r.stopMark = false)
    (tied : s.tied r.tie = some w) (opened : w.state = .opened) (refused : e.refusal w.digits = some status) :
    s.walkOn g =
      (s.setLane g.lane { s.lanes[g.lane] with run := some (r.markedAt g) }).walkOn (g.pastRefused status) := by
  have marked : (s.setLane g.lane { s.lanes[g.lane] with run := some (r.markedAt g) }).lanes[
      (g.pastRefused status).lane].run = some (r.markedAt g) := congrArg Lane.run (s.setLane_same g.lane _)
  have walked : s.walkOf g r (e :: r.entries.drop g.index) =
      let rest := s.walkOf (g.pastRefused status) (r.markedAt g) (r.entries.drop g.index)
      { rest with results := ⟨g.index, status⟩ :: rest.results } := by
    rw [State.walkOf, unmarked, tied, walk_refused _ _ _ _ _ opened refused, beq_eq_decide, ← tied]
    rfl
  rw [State.walkOn_eq_conclude run, State.walkOn_eq_conclude marked, Run.drop_entries one entry, walked,
    ← State.conclude_pastRefused]
  exact (State.conclude_setRun s (g.pastRefused status) _ _ _).symm

/-- An entry that passes but does not fit ends the walk MORE before it; a RUN_STOP whose moment has not come is taken then
(R91, R112, R113). -/
theorem State.walkOn_more {e : Entry} {w : Warrant} (run : s.lanes[g.lane].run = some r)
    (one : 1 ≤ g.index) (entry : r.entries[g.index - 1]? = some e) (unmarked : r.stopMark = false)
    (tied : s.tied r.tie = some w) (opened : w.state = .opened) (passed : e.refusal w.digits = none)
    (full : g.budget < g.used + 3) :
    s.walkOn g =
      if g.stopAt = none ∨ g.stopAt = some g.index then s.afterWalk g (r.markedAt g) g.results g.index none
      else (s.afterWalk g (r.markedAt g) g.results g.index none).runStop g.lane := by
  have out : s.walkOf g r (r.entries.drop (g.index - 1)) = ⟨[], .more g.index, decide (g.stopAt = some g.index)⟩ := by
    rw [Run.drop_entries one entry, State.walkOf, unmarked, tied, walk_passed _ _ _ _ _ opened passed,
      if_neg (by simpa using full), beq_eq_decide]
  have late : (g.stopAt.isSome && !decide (g.stopAt = some g.index)) = true ↔
      ¬ (g.stopAt = none ∨ g.stopAt = some g.index) := by
    cases g.stopAt <;> simp
  rw [State.walkOn_eq_conclude run, out, ← State.endWalk_eq_afterWalk, ← ite_not]
  simp only [State.conclude, List.append_nil, late]
  rfl

/-- An entry that passes and fits begins its derivation (R82). -/
theorem State.walkOn_deliver {e : Entry} {w : Warrant} (run : s.lanes[g.lane].run = some r)
    (one : 1 ≤ g.index) (entry : r.entries[g.index - 1]? = some e) (unmarked : r.stopMark = false)
    (tied : s.tied r.tie = some w) (opened : w.state = .opened) (passed : e.refusal w.digits = none)
    (fits : g.used + 3 ≤ g.budget) :
    s.walkOn g =
      { s.setLane g.lane { s.lanes[g.lane] with run := some (r.markedAt g) } with
        engine := .lane { g with stage := s.entryStage g.lane w e } } := by
  have out : s.walkOf g r (r.entries.drop (g.index - 1)) = ⟨[], .deliver g.index e, decide (g.stopAt = some g.index)⟩ := by
    rw [Run.drop_entries one entry, State.walkOf, unmarked, tied, walk_passed _ _ _ _ _ opened passed,
      if_pos (by simpa using fits), beq_eq_decide]
  rw [State.walkOn_eq_conclude run, out]
  simp only [State.conclude, List.append_nil, tied]
  rfl

end

end Sys2Proof.Machine
end

section
/-! PROOFS. One boundary of the metering walk: WalkTakesOneEntryAtATime. -/

namespace Sys2Proof.Machine

/-- The derivation of an entry whose master slot is an ACTIVE DERIVATION slot and whose lane has its transport key (R82). -/
theorem State.entryStage_eq {s : State} {l : LaneId} {w : Warrant} {e : Entry} {a : Attributes} {c : Contents}
    {purpose : Purpose} {issuer : Nat} {key : KeyValue} (body : s.slots[w.master].body = .active a c)
    (kind : a.kind = .derivation purpose issuer) (transport : s.transportKey l = some key) :
    s.entryStage l w e =
      .deriving ⟨packDigits e.digits, derivationBlock issuer a.version (packDigits e.digits) e.sequence purpose⟩
        (.encipher c.key (derivationBlock issuer a.version (packDigits e.digits) e.sequence purpose)) := by
  simp only [State.entryStage, body, transport, kind]

theorem exec_runStop_now {s : State} (mode : s.mode.running = true) (l : LaneId) :
    exec (.runStop ⟨l, none⟩) s = .next (s.runStop l) := by
  change execRunStop _ s = _
  rw [execRunStop, if_pos mode, State.takeStop_now]

theorem State.afterWalk_mode (s : State) (g : RunGrant) (r : Run) (results : List EntryResult) (next : Nat)
    (reason : Option EndReason) : (s.afterWalk g r results next reason).mode = s.mode := by
  rw [← State.endWalk_eq_afterWalk, State.endWalk_mode]

/-- Settles O33: the walk by the first entry it comes to, and what its outcome makes of the state (R88 to R91). -/
theorem walkTakesOneEntryAtATime : Obligations.WalkTakesOneEntryAtATime := by
  intro s g r mode engine stage run one rest past final marked lanes
  rw [exec_grant_opening mode engine stage]
  refine ⟨fun h => congrArg _ (State.walkOn_past run h), fun e entry => ⟨fun stopped => ?_,
    fun unmarked => ⟨fun purged => ?_,
    fun w tied => ⟨fun ⟨c, closed⟩ => ?_, fun held => ?_, fun spent => ?_, fun status opened refused => ?_,
      fun opened passed full => ?_, fun a c purpose issuer key opened passed fits body kind transport => ?_⟩⟩⟩⟩
  · exact congrArg _ (State.walkOn_ends run one entry stopped fun es => walk_marked _ _ _ _ es _)
  · have untied : s.tied r.tie = none := List.find?_eq_none.2 fun w hw => by simpa using purged w hw
    exact congrArg _ (State.walkOn_ends run one entry unmarked fun es => by rw [untied, walk_purged])
  all_goals replace tied : s.tied r.tie = some w := tied
  · exact congrArg _ (State.walkOn_ends run one entry unmarked fun es => by rw [tied, walk_closed _ _ _ _ _ closed])
  · exact congrArg _ (State.walkOn_ends run one entry unmarked fun es => by rw [tied, walk_held _ _ _ _ _ held])
  · exact congrArg _ (State.walkOn_ends run one entry unmarked fun es => by rw [tied, walk_exhausted _ _ _ _ _ spent])
  · have standing : (s.setLane g.lane { s.lanes[g.lane] with run := some marked }).lanes[
        (g.pastRefused status).lane].run = some marked := congrArg Lane.run (s.setLane_same g.lane _)
    have walked := exec_grant_opening (g := g.pastRefused status)
      (s := { s.setLane g.lane { s.lanes[g.lane] with run := some marked } with engine := .lane (g.pastRefused status) })
      mode rfl stage
    rw [State.walkOn_setEngine standing] at walked
    rw [State.walkOn_refused run one entry unmarked tied opened refused]
    exact walked.symm
  · intro ended
    rw [State.walkOn_more run one entry unmarked tied opened passed full,
      exec_runStop_now (by rw [State.afterWalk_mode, mode]), apply_ite Host.Outcome.next]
    rfl
  · rw [State.walkOn_deliver run one entry unmarked tied opened passed fits, State.entryStage_eq body kind transport]
    rfl

end Sys2Proof.Machine
end

section
/-! SUPPORT. The law of service (R104, R108, R109, R123, R124, R164, R165), requester by requester: what it says of a lane and of
custody, and the shared operations that keep it: the arbiter's, the requests, the runs, the walk and the tamper responses. -/

namespace Sys2Proof.Machine

/-! ### The law, requester by requester -/

/-- Who holds the engine (R119). -/
def Engine.holder : Engine → Option Requester
  | .idle => none
  | .custody _ => some .custody
  | .lane g => some (.lane g.lane)

theorem Engine.holder_eq_none {e : Engine} : e.holder = none ↔ e = .idle := by cases e <;> simp [Engine.holder]

theorem Engine.holder_eq_custody {e : Engine} : e.holder = some .custody ↔ ∃ g, e = .custody g := by
  cases e <;> simp [Engine.holder]

theorem Engine.holder_eq_lane {e : Engine} {l : LaneId} : e.holder = some (.lane l) ↔ ∃ g, e = .lane g ∧ g.lane = l := by
  cases e <;> simp [Engine.holder]

/-- A collect that is not cut holds the reply in the buffer (R165, R174). -/
def Fixed (collect : Option Collect) (buffer : Option Reply) : Prop :=
  ∀ (c : Collect) (r : Reply), collect = some c → c.cut = false → c.reply = some r → buffer = some r

/-- The law on a lane with this run, reply buffer and collect. -/
structure LaneServed (m : Mode) (waits : Bool) (holds : Prop) (run : Option Run) (buffer : Option Reply)
    (collect : Option Collect) : Prop where
  waiting : waits = true ↔ (∃ r, run = some r ∧ r.state = .queued) ∧ buffer = none
  holding : holds → (∃ r, run = some r ∧ r.state = .active) ∧ buffer = none
  active : ∀ r, run = some r → r.state = .active → holds
  draining : ∀ r, run = some r → r.draining = true → ∃ x, buffer = some (.runResult x)
  ended : ∀ r, run = some r → r.state = .drainingFinal → r.endReason.isSome = true
  fixed : Fixed collect buffer
  runs : m ≠ .operational → run = none

/-- The law on custody with a command in process or none, this reply buffer and this collect. -/
structure CustodyServed (m : Mode) (waits : Bool) (holds : Prop) (process : Bool) (buffer : Option Reply)
    (collect : Option Collect) : Prop where
  waiting : waits = true ↔ process = true ∧ ¬ holds
  holding : holds → process = true
  empty : process = true → buffer = none
  fixed : Fixed collect buffer
  inService : process = true → m.inService = true

/-- The law on one requester. -/
def State.Attends (s : State) : Requester → Prop
  | .lane l =>
    LaneServed s.mode (s.waits (.lane l)) (s.engine.holder = some (.lane l)) s.lanes[l].run s.lanes[l].link.buffer
      s.lanes[l].link.collect
  | .custody =>
    CustodyServed s.mode (s.waits .custody) (s.engine.holder = some .custody) s.custody.process.isSome
      s.custody.link.buffer s.custody.link.collect

theorem serviceLaw_iff {s : State} : ServiceLaw s ↔ (s.engine = .idle → s.requesters = 0) ∧ ∀ q, s.Attends q := by
  constructor
  · intro h
    refine ⟨h.idle, fun q => ?_⟩
    cases q with
    | custody =>
      refine ⟨?_, fun holds => ?_, h.empty, h.collects .custody, h.inService⟩
      · rw [h.custody, Engine.holder_eq_custody, not_exists]
      · obtain ⟨g, hg⟩ := Engine.holder_eq_custody.1 holds
        exact h.custodyHolds g hg
    | lane l =>
      refine ⟨h.waiting l, fun holds => ?_, fun r run state => ?_, h.draining l, h.ended l, h.collects (.lane l),
        fun mode => h.runs mode l⟩
      · obtain ⟨g, hg, rfl⟩ := Engine.holder_eq_lane.1 holds
        exact h.laneHolds g hg
      · exact Engine.holder_eq_lane.2 (h.active l r run state)
  · rintro ⟨idle, attends⟩
    have custody : CustodyServed _ _ _ _ _ _ := attends .custody
    have lane (l : LaneId) : LaneServed _ _ _ _ _ _ := attends (.lane l)
    exact
      { idle := idle
        waiting := fun l => (lane l).waiting
        custody := by rw [custody.waiting, Engine.holder_eq_custody, not_exists]
        custodyHolds := fun g hg => custody.holding (Engine.holder_eq_custody.2 ⟨g, hg⟩)
        laneHolds := fun g hg => (lane g.lane).holding (Engine.holder_eq_lane.2 ⟨g, hg, rfl⟩)
        active := fun l r run state => Engine.holder_eq_lane.1 ((lane l).active r run state)
        draining := fun l => (lane l).draining
        ended := fun l => (lane l).ended
        empty := custody.empty
        collects := fun k => match k with
          | .custody => custody.fixed
          | .lane l => (lane l).fixed
        runs := fun mode l => (lane l).runs mode
        inService := custody.inService }

theorem State.attends_of_lane {s : State} {l : LaneId} {x : Lane} (lane : s.lanes[l] = x)
    (h : LaneServed s.mode (s.waits (.lane l)) (s.engine.holder = some (.lane l)) x.run x.link.buffer x.link.collect) :
    s.Attends (.lane l) := by
  subst lane
  exact h

theorem ServiceLaw.attends {s : State} (h : ServiceLaw s) (q : Requester) : s.Attends q := (serviceLaw_iff.1 h).2 q

theorem ServiceLaw.lane {s : State} (h : ServiceLaw s) (l : LaneId) :
    LaneServed s.mode (s.waits (.lane l)) (s.engine.holder = some (.lane l)) s.lanes[l].run s.lanes[l].link.buffer
      s.lanes[l].link.collect := h.attends (.lane l)

/-- What the law reads of a requester's records: a lane's run, whether custody has a command in process, the reply buffer and
the collect. -/
def State.part (s : State) : Requester → Option Run × Bool × Option Reply × Option Collect
  | .lane l => (s.lanes[l].run, false, s.lanes[l].link.buffer, s.lanes[l].link.collect)
  | .custody => (none, s.custody.process.isSome, s.custody.link.buffer, s.custody.link.collect)

theorem State.part_setLane (s : State) {l : LaneId} {q : Requester} (h : q ≠ .lane l) (x : Lane) :
    (s.setLane l x).part q = s.part q := by
  cases q with
  | custody => rfl
  | lane m => rw [State.part, State.setLane_other _ _ _ _ fun same => h (by rw [same]), State.part]

theorem State.Attends.congr {s t : State} {q : Requester} (h : s.Attends q) (mode : t.mode = s.mode)
    (waits : t.waits q = s.waits q) (holds : t.engine.holder = some q ↔ s.engine.holder = some q)
    (part : t.part q = s.part q) : t.Attends q := by
  cases q with
  | lane l =>
    simp only [State.part, Prod.mk.injEq, true_and] at part
    simpa only [State.Attends, mode, waits, holds, part] using h
  | custody =>
    simp only [State.part, Prod.mk.injEq, true_and] at part
    simpa only [State.Attends, mode, waits, holds, part] using h

/-- An update that changes nothing the law reads. -/
structure SameService (s t : State) : Prop where
  mode : t.mode = s.mode := by rfl
  holder : t.engine.holder = s.engine.holder := by rfl
  requesters : t.requesters = s.requesters := by rfl
  part : ∀ q, t.part q = s.part q := by exact fun q => by cases q <;> rfl

theorem SameService.refl (s : State) : SameService s s := {}

theorem SameService.trans {s t u : State} (h : SameService s t) (k : SameService t u) : SameService s u where
  mode := k.mode.trans h.mode
  holder := k.holder.trans h.holder
  requesters := k.requesters.trans h.requesters
  part q := (k.part q).trans (h.part q)

/-- An update that leaves lanes and custody alone. -/
theorem SameService.of_fields {s t : State} (mode : t.mode = s.mode) (engine : t.engine = s.engine)
    (requesters : t.requesters = s.requesters) (lanes : t.lanes = s.lanes) (custody : t.custody = s.custody) :
    SameService s t where
  mode := mode
  holder := by rw [engine]
  requesters := requesters
  part q := by cases q <;> simp only [State.part, lanes, custody]

theorem State.Attends.of_same {s t : State} {q : Requester} (h : s.Attends q) (same : SameService s t) : t.Attends q :=
  h.congr same.mode (by rw [State.waits, same.requesters, State.waits]) (by rw [same.holder]) (same.part q)

theorem ServiceLaw.of_same {s t : State} (h : ServiceLaw s) (same : SameService s t) : ServiceLaw t :=
  serviceLaw_iff.2 ⟨fun idle => by
    rw [same.requesters]
    exact h.idle (Engine.holder_eq_none.1 (by rw [← same.holder, idle]; rfl)), fun q => (h.attends q).of_same same⟩

/-- An update of what the law reads of one requester. -/
theorem ServiceLaw.update {s t : State} (h : ServiceLaw s) (q : Requester) (this : t.Attends q)
    (idle : t.engine = .idle → t.requesters = 0) (mode : t.mode = s.mode)
    (waits : ∀ p ≠ q, t.waits p = s.waits p) (holder : t.engine.holder = s.engine.holder)
    (part : ∀ p ≠ q, t.part p = s.part p) : ServiceLaw t := by
  refine serviceLaw_iff.2 ⟨idle, fun p => ?_⟩
  by_cases e : p = q
  · exact e ▸ this
  · exact (h.attends p).congr mode (waits p e) (by rw [holder]) (part p e)

/-! ### The pending set -/

theorem Requester.bit_getLsbD (r q : Requester) : r.bit.getLsbD q.bitIndex = decide (q = r) := by
  cases r with
  | custody =>
    cases q with
    | custody => rfl
    | lane m => revert m; decide
  | lane l =>
    cases q with
    | custody => revert l; decide
    | lane m => revert l m; decide

theorem State.waits_enrol (s : State) (r q : Requester) : (s.enrol r).waits q = (s.waits q || decide (q = r)) := by
  simp only [State.waits, State.enrol, BitVec.getLsbD_or, Requester.bit_getLsbD]

theorem Requester.bitIndex_lt (q : Requester) : q.bitIndex < 5 := by
  cases q with
  | custody => decide
  | lane l => exact Nat.lt_of_lt_of_le l.isLt (by decide)

theorem State.waits_withdraw (s : State) (r q : Requester) : (s.withdraw r).waits q = (s.waits q && !decide (q = r)) := by
  simp only [State.waits, State.withdraw, BitVec.getLsbD_and, BitVec.getLsbD_not, Requester.bit_getLsbD, q.bitIndex_lt,
    decide_true, Bool.true_and]

theorem State.requesters_eq_zero {s : State} : s.requesters = 0 ↔ ∀ q, s.waits q = false := by
  constructor
  · intro h q
    rw [State.waits, h]
    exact BitVec.getLsbD_zero
  · intro h
    refine BitVec.eq_of_getLsbD_eq fun i hi => Eq.trans ?_ BitVec.getLsbD_zero.symm
    by_cases lane : i < 4
    · exact h (.lane ⟨i, lane⟩)
    · obtain rfl : i = 4 := by omega
      exact h .custody

theorem State.requesters_withdraw {s : State} (h : s.requesters = 0) (r : Requester) : (s.withdraw r).requesters = 0 := by
  rw [State.withdraw, h]
  exact BitVec.zero_and

/-! ### The arbiter -/

/-- The arbiter chooses one that waits (R125). -/
theorem State.waits_of_choice {s : State} {q : Requester} (h : s.choice = some q) : s.waits q = true := by
  have first {cls : Priority} {p l : LaneId} (hl : s.firstWaiting cls p = some l) : s.waits (.lane l) = true := by
    have := List.find?_some hl
    simp only [Bool.and_eq_true] at this
    exact this.1
  unfold State.choice at h
  split at h
  · rename_i custody
    cases h
    exact custody
  · split at h
    · rename_i l hl
      cases h
      exact first hl
    · cases low : s.firstWaiting .low s.lowPointer with
      | none => rw [low] at h; cases h
      | some l =>
        rw [low] at h
        cases h
        exact first low

/-- It chooses nobody only if nobody waits (R125). -/
theorem State.nobody_of_choice {s : State} (h : s.choice = none) : s.requesters = 0 := by
  have custody : ¬ s.waits .custody = true := fun waits => by rw [(State.choice_custody s).2 waits] at h; cases h
  have lanes (l : LaneId) : ¬ s.waits (.lane l) = true := fun waits => by
    have none {cls : Priority} {p : LaneId} (hn : s.firstWaiting cls p = .none) : s.lanes[l].cls ≠ cls := by
      obtain ⟨before, after, order, _⟩ := lanesAfter_eq p l
      have := List.find?_eq_none.1 hn l (by rw [order]; simp)
      simpa [waits] using this
    rw [State.choice, if_neg custody] at h
    split at h
    · cases h
    · rename_i high
      have low : s.firstWaiting .low s.lowPointer = .none := Option.map_eq_none_iff.1 h
      cases cls : s.lanes[l].cls with
      | high => exact none high cls
      | low => exact none low cls
  refine State.requesters_eq_zero.2 fun q => Bool.eq_false_iff.2 ?_
  cases q with
  | custody => exact custody
  | lane l => exact lanes l

/-- The chosen requester leaves the pending set and holds the engine, which was IDLE (R125). -/
theorem ServiceLaw.of_grant {s t : State} {r : Requester} (idle : s.engine = .idle) (h : ∀ q, s.Attends q)
    (mode : t.mode = s.mode) (requesters : t.requesters = (s.withdraw r).requesters) (holder : t.engine.holder = some r)
    (part : ∀ q ≠ r, t.part q = s.part q) (this : t.waits r = false → t.Attends r) : ServiceLaw t := by
  have waits (q : Requester) : t.waits q = (s.waits q && !decide (q = r)) := by
    rw [← State.waits_withdraw, State.waits, requesters, State.waits]
  refine serviceLaw_iff.2 ⟨fun e => (by rw [e] at holder; cases holder), fun q => ?_⟩
  by_cases e : q = r
  · subst e
    exact this (by rw [waits]; simp)
  · refine (h q).congr mode (by rw [waits]; simp [e]) ?_ (part q e)
    rw [holder, idle, Option.some_inj]
    exact ⟨fun same => absurd same.symm e, nofun⟩

/-- Made at an IDLE engine, the choice serves everyone (R124, R125). -/
theorem serves_choose {s : State} (idle : s.engine = .idle) (h : ∀ q, s.Attends q) : ServiceLaw s.choose := by
  obtain ⟨none, e⟩ | ⟨chosen, e⟩ | ⟨l, chosen, e⟩ := s.choose_cases
  · rw [e]
    exact serviceLaw_iff.2 ⟨fun _ => State.nobody_of_choice none, h⟩
  · have custody : CustodyServed _ _ _ _ _ _ := h .custody
    have now := (custody.waiting.1 (State.waits_of_choice chosen)).1
    obtain ⟨p, process⟩ := Option.isSome_iff_exists.1 now
    rw [e]
    simp only [State.beginCustodyGrant, State.withdraw_custody, process]
    refine .of_grant (r := .custody) idle h rfl rfl rfl (fun q _ => by cases q <;> rfl) fun free => ?_
    exact ⟨by rw [free]; simp [Engine.holder], fun _ => now, custody.empty, custody.fixed, custody.inService⟩
  · have lane : LaneServed _ _ _ _ _ _ := h (.lane l)
    obtain ⟨⟨r, run, queued⟩, empty⟩ := lane.waiting.1 (State.waits_of_choice chosen)
    rw [e]
    simp only [State.beginRunGrant, State.withdraw_lanes, run]
    refine .of_grant (r := .lane l) idle h (by simp) (by simp [State.setLane]) rfl (fun q hq => ?_) fun free => ?_
    · refine Eq.trans (State.part_setLane _ hq _) ?_
      cases q <;> simp [State.part]
    · have operational : s.mode = .operational := by
        by_contra mode
        rw [lane.runs mode] at run
        cases run
      refine State.attends_of_lane (State.setLane_same _ l _) ⟨?_, ?_, ?_, ?_, ?_, ?_, ?_⟩
      · rw [free]; simp
      · exact fun _ => ⟨⟨_, rfl, rfl⟩, by simpa using empty⟩
      · exact fun _ _ _ => rfl
      · rintro _ ⟨⟩ ⟨⟩
      · rintro _ ⟨⟩ ⟨⟩
      · simpa using lane.fixed
      · exact fun mode => absurd (by simpa using operational) mode

/-- One that joins is served with the others, at an IDLE engine at once (R123, R124). -/
theorem serves_join {s : State} {r : Requester} (h : ∀ q, (s.enrol r).Attends q) : ServiceLaw (s.join r) := by
  by_cases idle : s.engine = .idle
  · rw [State.join_of_idle idle]
    exact serves_choose idle h
  · rw [State.join_of_busy idle]
    exact serviceLaw_iff.2 ⟨fun e => absurd e idle, h⟩

theorem serves_release {s : State} (h : ∀ q, State.Attends { s with engine := .idle } q) : ServiceLaw s.release :=
  serves_choose rfl h

/-! ### Custody -/

theorem ServiceLaw.custodyPart {s : State} (h : ServiceLaw s) :
    CustodyServed s.mode (s.waits .custody) (s.engine.holder = some .custody) s.custody.process.isSome
      s.custody.link.buffer s.custody.link.collect := h.attends .custody

/-- With an empty buffer, no collect but an empty or a cut one is in progress, so that any reply may be placed (R165). -/
theorem Fixed.place {collect : Option Collect} (h : Fixed collect none) (buffer : Option Reply) : Fixed collect buffer :=
  fun c r hc cut hr => nomatch h c r hc cut hr

/-- Custody has taken a request: no command is in process, and the buffer is empty (R164). -/
structure State.Taking (s : State) : Prop where
  law : ServiceLaw s
  service : s.mode.inService = true
  empty : s.custody.link.buffer = none
  free : s.custody.process = none

theorem State.Taking.of_same {s t : State} (h : s.Taking) (same : SameService s t) : t.Taking := by
  have part := same.part .custody
  simp only [State.part, Prod.mk.injEq, true_and] at part
  obtain ⟨process, buffer, _⟩ := part
  rw [h.free, Option.isSome_none, Option.isSome_eq_false_iff, Option.isNone_iff_eq_none] at process
  exact ⟨h.law.of_same same, same.mode ▸ h.service, buffer.trans h.empty, process⟩

/-- It is answered (R164). -/
theorem State.Taking.reply {s : State} (h : s.Taking) (r : Reply) : ServiceLaw (s.reply .custody r) := by
  have custody := h.law.custodyPart
  refine h.law.update .custody ⟨custody.waiting, custody.holding, fun now => ?_, ?_, custody.inService⟩ h.law.idle rfl
    (fun _ _ => rfl) rfl fun q hq => ?_
  · rw [State.reply_custody_process, h.free] at now
    cases now
  · exact Fixed.place (by have := custody.fixed; rwa [h.empty] at this) _
  · cases q with
    | custody => exact absurd rfl hq
    | lane l => rfl

/-- Or it goes into process, and waits for the engine (R123, R164). -/
theorem State.Taking.start {s : State} (h : s.Taking) (p : Process) : ServiceLaw (s.startProcess p) := by
  have custody := h.law.custodyPart
  have waits (q : Requester) := State.waits_enrol (s.inProcess (some p)) .custody q
  refine serves_join (s := s.inProcess (some p)) fun q => ?_
  cases q with
  | custody =>
    refine ⟨?_, fun _ => rfl, fun _ => h.empty, custody.fixed, fun _ => h.service⟩
    have out : ¬ s.engine.holder = some .custody := fun holds => by
      have := custody.holding holds
      rw [h.free] at this
      cases this
    rw [waits]
    simp only [decide_true, Bool.or_true, true_iff]
    exact ⟨rfl, out⟩
  | lane l => exact (h.law.attends (.lane l)).congr rfl (by rw [waits]; exact Bool.or_false _) Iff.rfl rfl

/-- The command in process answers, and its grant ends (R122). -/
theorem serves_endProcess {s : State} (h : ServiceLaw s) (holds : s.engine.holder = some .custody) (r : Reply) :
    ServiceLaw (s.endProcess r) := by
  have custody := h.custodyPart
  have now := custody.holding holds
  have waits : ¬ s.waits .custody = true := fun w => (custody.waiting.1 w).2 holds
  refine serves_release fun q => ?_
  cases q with
  | custody =>
    refine ⟨⟨fun w => absurd w waits, fun ⟨now, _⟩ => nomatch now⟩, nofun, nofun, ?_, nofun⟩
    exact Fixed.place (by have := custody.fixed; rwa [custody.empty now] at this) _
  | lane l =>
    refine (h.attends (.lane l)).congr rfl rfl ⟨nofun, fun e => ?_⟩ rfl
    rw [holds] at e
    cases e

/-- It goes on to its next operation in the same grant (R122). -/
theorem same_nextOp {s : State} (holds : s.engine.holder = some .custody) (now : s.custody.process.isSome = true)
    (g : CustodyGrant) (p : Process) : SameService s (s.nextOp g p) where
  holder := holds.symm
  part q := by
    cases q with
    | custody => simp only [State.part, now]; rfl
    | lane l => rfl

/-! ### Links -/

/-- A lane whose new context is lawful as it waits or holds the engine. -/
theorem serves_setLane {s : State} (h : ServiceLaw s) {l : LaneId} {x : Lane}
    (lane : LaneServed s.mode (s.waits (.lane l)) (s.engine.holder = some (.lane l)) x.run x.link.buffer x.link.collect) :
    ServiceLaw (s.setLane l x) :=
  h.update (.lane l) (State.attends_of_lane (s.setLane_same l x) lane) h.idle rfl (fun _ _ => rfl) rfl
    fun _ hq => s.part_setLane hq x

/-- A link whose reply stays as it is, and whose collect holds it if it holds one. -/
theorem serves_setLink {s : State} (h : ServiceLaw s) (k : Link) {x : LinkState} (buffer : x.buffer = (s.link k).buffer)
    (fixed : x.CollectHolds) : ServiceLaw (s.setLink k x) := by
  cases k with
  | custody =>
    have custody := h.custodyPart
    refine h.update .custody ⟨custody.waiting, custody.holding, ?_, fixed, custody.inService⟩ h.idle rfl
      (fun _ _ => rfl) rfl fun q hq => ?_
    · exact fun now => buffer.trans (custody.empty now)
    · cases q with
      | custody => exact absurd rfl hq
      | lane l => rfl
  | lane l =>
    have lane := h.lane l
    obtain ⟨waiting, holding, active, draining, ended, _, runs⟩ := lane
    rw [show s.lanes[l].link.buffer = x.buffer from buffer.symm] at waiting holding draining
    exact serves_setLane h ⟨waiting, holding, active, draining, ended, fixed, runs⟩

/-! ### Lane requests -/

/-- A lane that may take a request or join: its buffer is empty, its run, if it has one, is QUEUED, and the law holds but for
whether such a run waits (R105, R108). -/
structure State.LaneOpen (s : State) (l : LaneId) : Prop where
  others : ∀ q ≠ .lane l, s.Attends q
  idle : s.engine = .idle → s.requesters = 0
  out : s.engine.holder ≠ some (.lane l)
  waits : s.lanes[l].run = none → s.waits (.lane l) = false
  queued : ∀ r, s.lanes[l].run = some r → r.state = .queued
  empty : s.lanes[l].link.buffer = none
  fixed : Fixed s.lanes[l].link.collect s.lanes[l].link.buffer
  runs : s.mode ≠ .operational → s.lanes[l].run = none

theorem ServiceLaw.laneOpen {s : State} (h : ServiceLaw s) {l : LaneId} (empty : s.lanes[l].link.buffer = none)
    (queued : ∀ r, s.lanes[l].run = some r → r.state = .queued) : s.LaneOpen l where
  others q _ := h.attends q
  idle := h.idle
  out holds := by
    obtain ⟨⟨r, run, active⟩, _⟩ := (h.lane l).holding holds
    exact nomatch (queued r run).symm.trans active
  waits run := Bool.eq_false_iff.2 fun waits => by
    obtain ⟨⟨r, now, _⟩, _⟩ := (h.lane l).waiting.1 waits
    rw [run] at now
    cases now
  queued := queued
  empty := empty
  fixed := (h.lane l).fixed
  runs := (h.lane l).runs

/-- The law on an open lane, whether it waits as its run asks or has a reply placed instead. -/
theorem State.LaneOpen.served {s : State} {l : LaneId} (h : s.LaneOpen l) {waits : Bool} {buffer : Option Reply}
    (agrees : waits = true ↔ s.lanes[l].run.isSome = true ∧ buffer = none) :
    LaneServed s.mode waits (s.engine.holder = some (.lane l)) s.lanes[l].run buffer s.lanes[l].link.collect where
  waiting := by
    rw [agrees, Option.isSome_iff_exists]
    exact ⟨fun ⟨⟨r, run⟩, clear⟩ => ⟨⟨r, run, h.queued r run⟩, clear⟩, fun ⟨⟨r, run, _⟩, clear⟩ => ⟨⟨r, run⟩, clear⟩⟩
  holding holds := absurd holds h.out
  active r run state := nomatch (h.queued r run).symm.trans state
  draining r run state := by simp [Run.draining, h.queued r run] at state
  ended r run state := nomatch (h.queued r run).symm.trans state
  fixed := Fixed.place (by have := h.fixed; rwa [h.empty] at this) buffer
  runs := h.runs

/-- An open lane without a run has nothing to wait for. -/
theorem State.LaneOpen.rests {s : State} {l : LaneId} (h : s.LaneOpen l) (run : s.lanes[l].run = none) : ServiceLaw s := by
  refine serviceLaw_iff.2 ⟨h.idle, fun q => ?_⟩
  by_cases e : q = .lane l
  · subst e
    exact h.served (by rw [h.waits run, run]; simp)
  · exact h.others q e

/-- One with a run joins the pending set (R108). -/
theorem State.LaneOpen.join {s : State} {l : LaneId} (h : s.LaneOpen l) (run : s.lanes[l].run.isSome = true) :
    ServiceLaw (s.join (.lane l)) := by
  refine serves_join fun q => ?_
  have waits := s.waits_enrol (.lane l) q
  by_cases e : q = .lane l
  · subst e
    have empty : (s.enrol (.lane l)).lanes[l].link.buffer = none := h.empty
    exact h.served (by rw [waits, empty]; simpa using run)
  · exact (h.others q e).congr rfl (by rw [waits]; simp [e]) Iff.rfl (by cases q <;> rfl)

/-- The frame is taken off, and the lane no longer waits (R105, R108). -/
theorem State.LaneOpen.taking {s : State} {l : LaneId} (h : s.LaneOpen l) :
    (s.afterLaneTaking l).LaneOpen l ∧ (s.afterLaneTaking l).waits (.lane l) = false := by
  have waits (q : Requester) : (s.afterLaneTaking l).waits q = (s.waits q && !decide (q = .lane l)) :=
    State.waits_withdraw _ _ _
  have lane : (s.afterLaneTaking l).lanes[l] = _ := State.setLane_same s l _
  have free : (s.afterLaneTaking l).waits (.lane l) = false := by rw [waits]; simp
  refine ⟨⟨fun q hq => ?_, fun idle => State.requesters_withdraw (h.idle idle) _, h.out, fun _ => free, ?_, ?_, ?_, ?_⟩, free⟩
  · exact (h.others q hq).congr rfl (by rw [waits]; simp [hq]) Iff.rfl (s.part_setLane hq _)
  · rw [lane]; exact h.queued
  · rw [lane]; exact h.empty
  · rw [lane]; exact h.fixed
  · rw [lane]; exact h.runs

/-- A lane that does not wait is answered (R108, R164). -/
theorem State.LaneOpen.reply {s : State} {l : LaneId} (h : s.LaneOpen l) (free : s.waits (.lane l) = false) (r : Reply) :
    ServiceLaw (s.reply (.lane l) r) := by
  refine serviceLaw_iff.2 ⟨h.idle, fun q => ?_⟩
  by_cases e : q = .lane l
  · subst e
    refine State.attends_of_lane (State.setLane_same s l _) (h.served ?_)
    rw [show (s.reply (.lane l) r).waits (.lane l) = false from free]
    simp
  · exact (h.others q e).congr rfl rfl Iff.rfl (s.part_setLane e _)

/-- An accepted RUN is the lane's, and waits (R107, R108). -/
theorem State.LaneOpen.accept {s : State} {l : LaneId} (h : s.LaneOpen l) (mode : s.mode = .operational) {r : Run}
    (queued : r.state = .queued) : ServiceLaw ((s.setLane l { s.lanes[l] with run := some r }).join (.lane l)) := by
  have lane := s.setLane_same l { s.lanes[l] with run := some r }
  refine State.LaneOpen.join (l := l) ⟨fun q hq => ?_, h.idle, h.out, ?_, ?_, ?_, ?_, fun out => absurd mode out⟩ ?_
  · exact (h.others q hq).congr rfl rfl Iff.rfl (s.part_setLane hq _)
  · rw [lane]; exact nofun
  · rw [lane]; rintro _ ⟨⟩; exact queued
  · rw [lane]; exact h.empty
  · rw [lane]; exact h.fixed
  · rw [lane]; rfl

theorem State.acceptance_queued {s : State} {l : LaneId} {body : List Byte} {r : Run}
    (h : s.acceptance l body = .accepted r) : s.serviceRefusal = none ∧ r.state = .queued := by
  unfold State.acceptance at h
  cases refusal : s.serviceRefusal with
  | some code => rw [refusal] at h; cases h
  | none =>
    rw [refusal] at h
    refine ⟨rfl, ?_⟩
    dsimp only at h
    split at h
    · cases h
    · cases form : readRun body with
      | none => rw [form] at h; cases h
      | some f =>
        rw [form] at h
        dsimp only at h
        cases found : s.warrant f.warrant.toNat with
        | none => rw [found] at h; cases h
        | some w =>
          rw [found] at h
          dsimp only at h
          split_ifs at h
          cases h
          rfl

theorem serves_serveLane {s : State} {l : LaneId} (h : s.LaneOpen l) (service : s.mode.inService = true) (f : Frame) :
    ServiceLaw (s.serveLane l f) := by
  obtain ⟨opened, free⟩ := h.taking
  have reply := opened.reply free
  have answer : s.serveLane l f = (
    if f.kind = kindRun then (s.afterLaneTaking l).answerRun l f.body
    else if f.kind = kindLaneStatus then (s.afterLaneTaking l).answerLaneStatus l f.body
    else if f.kind = kindWarrantStatus then (s.afterLaneTaking l).answerWarrantStatus l f.body
    else (s.afterLaneTaking l).laneRefuse l f.kind .unknownRequest) := rfl
  rw [answer]
  split_ifs
  · unfold State.answerRun
    split
    · exact reply _
    · rename_i r accepted
      obtain ⟨served, queued⟩ := State.acceptance_queued accepted
      exact opened.accept ((State.serviceRefusal_none _ service).1 served) queued
  · unfold State.answerLaneStatus
    split <;> exact reply _
  · rw [State.answerWarrantStatus_eq]
    exact reply _
  · exact reply _

theorem serves_considerHead {s : State} {l : LaneId} (h : s.LaneOpen l) : ServiceLaw (s.considerHead l) := by
  have rejoins : ServiceLaw (s.rejoin l) := by
    unfold State.rejoin
    split
    · rename_i r run
      rw [if_pos (h.queued r run)]
      exact h.join (by rw [run]; rfl)
    · rename_i run
      exact h.rests run
  rw [State.considerHead_eq]
  split
  · exact rejoins
  · split
    · rename_i ready
      simp only [State.laneReady, Bool.and_eq_true] at ready
      exact serves_serveLane h ready.1.1 _
    · exact rejoins

/-- A lane that takes a request is open (R105). -/
theorem serves_takeLane {s : State} (h : ServiceLaw s) (l : LaneId) (kinds : Byte → Bool) {t : State}
    (e : s.takeLane l kinds = .next t) : ServiceLaw t := by
  obtain same | ⟨f, rest, _, ready, _, takes⟩ := s.takeLane_cases l kinds
  · obtain rfl := Host.Outcome.next.inj (same.symm.trans e)
    exact h
  · obtain rfl := Host.Outcome.next.inj (takes.symm.trans e)
    simp only [State.laneReady, Bool.and_eq_true, Option.isNone_iff_eq_none] at ready
    obtain ⟨⟨service, empty⟩, admits⟩ := ready
    refine serves_serveLane (h.laneOpen empty fun r run => ?_) service f
    simp only [Lane.admitsKind, run, Bool.and_eq_true, beq_iff_eq] at admits
    exact admits.2

/-- The grant goes on. -/
theorem SameService.setEngine (s : State) {e : Engine} (holder : e.holder = s.engine.holder) :
    SameService s { s with engine := e } where
  holder := holder

/-- A lane's binding and chain are none of the arbiter's (R98, R101). -/
theorem SameService.setLane (s : State) {l : LaneId} {x : Lane} (run : x.run = s.lanes[l].run)
    (link : x.link = s.lanes[l].link) : SameService s (s.setLane l x) where
  part q := by
    by_cases e : q = .lane l
    · subst e
      simp only [State.part, State.setLane_same, run, link]
    · exact s.part_setLane e x

/-! ### Runs (R112) -/

/-- A lane without a run does not wait (R108). -/
theorem LaneServed.noRun {m : Mode} {holds : Prop} {buffer : Option Reply} {collect : Option Collect} (out : ¬ holds)
    (fixed : Fixed collect buffer) : LaneServed m false holds none buffer collect where
  waiting := ⟨nofun, fun ⟨⟨_, run, _⟩, _⟩ => nomatch run⟩
  holding holds := absurd holds out
  active := nofun
  draining := nofun
  ended := nofun
  fixed := fixed
  runs _ := rfl

/-- The law reads no more of a run than its state and, once it has ended FINAL, that it has an end reason. -/
theorem LaneServed.sameState {m : Mode} {waits : Bool} {holds : Prop} {run : Option Run} {r r' : Run}
    {buffer : Option Reply} {collect : Option Collect} (h : LaneServed m waits holds run buffer collect)
    (hr : run = some r) (state : r'.state = r.state) (ended : r'.state ≠ .drainingFinal) :
    LaneServed m waits holds (some r') buffer collect where
  waiting := by
    rw [h.waiting, hr]
    simp only [Option.some.injEq, exists_eq_left', state]
  holding holds := by
    have := h.holding holds
    rw [hr] at this
    simpa only [Option.some.injEq, exists_eq_left', state] using this
  active := by
    rintro _ ⟨⟩ active
    exact h.active r hr (state ▸ active)
  draining := by
    rintro _ ⟨⟩ draining
    exact h.draining r hr (by rw [← draining, Run.draining, Run.draining, state])
  ended := by
    rintro _ ⟨⟩ final
    exact absurd final ended
  fixed := h.fixed
  runs mode := nomatch hr.symm.trans (h.runs mode)

theorem serves_runStop {s : State} (h : ServiceLaw s) (l : LaneId) : ServiceLaw (s.runStop l) := by
  have lane := h.lane l
  unfold State.runStop
  dsimp only
  split
  · exact h
  · rename_i r run
    have marks {r' : Run} (state : r'.state = r.state) (ended : r'.state ≠ .drainingFinal) :
        ServiceLaw (s.setLane l { s.lanes[l] with run := some r' }) :=
      serves_setLane h (lane.sameState run state ended)
    split
    · rename_i queued
      have out : ¬ s.engine.holder = some (.lane l) := fun holds => by
        obtain ⟨⟨r', run', active⟩, _⟩ := lane.holding holds
        obtain rfl := Option.some.inj (run.symm.trans run')
        exact nomatch queued.symm.trans active
      have waits (q : Requester) := (s.setLane l (s.lanes[l].leave r .stopped)).waits_withdraw (.lane l) q
      refine h.update (.lane l) (State.attends_of_lane (State.setLane_same s l _) ?_)
        (fun idle => State.requesters_withdraw (h.idle idle) _) rfl (fun q hq => ?_) rfl fun q hq => s.part_setLane hq _
      · rw [waits, decide_eq_true rfl, Bool.not_true, Bool.and_false]
        exact .noRun out lane.fixed
      · rw [waits, decide_eq_false hq, Bool.not_false, Bool.and_true]
        rfl
    · rename_i active
      exact marks rfl (by rw [active]; nofun)
    · rename_i more
      split
      · exact h
      · exact marks rfl (by rw [more]; nofun)
    · exact h

theorem serves_takeStop {s : State} (h : ServiceLaw s) (stop : Stop) : ServiceLaw (s.takeStop stop) := by
  obtain e | ⟨g, n, m, _, engine, _, _, _, e⟩ := s.takeStop_cases stop
  · rw [e]
    exact serves_runStop h _
  · rw [e]
    exact h.of_same (.setEngine _ (by rw [engine]; rfl))

/-! ### The walk (R87, R90) -/

/-- The walk ends with its result in the buffer, and the engine is free (R90, R109, R121). -/
theorem serves_endWalk {s : State} (h : ServiceLaw s) {g : RunGrant} (holds : s.engine.holder = some (.lane g.lane))
    (r : Run) (results : List EntryResult) (next : Nat) (reason : Option EndReason) :
    ServiceLaw (s.endWalk g r results next reason) := by
  have lane := h.lane g.lane
  obtain ⟨⟨r', run, active⟩, empty⟩ := lane.holding holds
  have waits : s.waits (.lane g.lane) = false := Bool.eq_false_iff.2 fun waits => by
    obtain ⟨⟨r'', run', queued⟩, _⟩ := lane.waiting.1 waits
    obtain rfl := Option.some.inj (run.symm.trans run')
    exact nomatch queued.symm.trans active
  refine serves_release fun q => ?_
  by_cases e : q = .lane g.lane
  · subst e
    refine State.attends_of_lane (State.setLane_same s g.lane _) ?_
    rw [show State.waits { s.setLane g.lane _ with engine := .idle } (.lane g.lane) = false from waits]
    refine ⟨⟨nofun, ?_⟩, nofun, ?_, ?_, ?_, Fixed.place (by have := lane.fixed; rwa [empty] at this) _, ?_⟩
    · rintro ⟨_, ⟨⟩⟩
    · rintro _ ⟨⟩ active
      cases reason <;> cases active
    · rintro _ ⟨⟩ _
      exact ⟨_, rfl⟩
    · rintro _ ⟨⟩ final
      cases reason with
      | none => cases final
      | some x => rfl
    · exact fun mode => nomatch run.symm.trans (lane.runs mode)
  · refine (h.attends q).congr rfl rfl ⟨nofun, fun other => ?_⟩ (s.part_setLane e _)
    rw [holds] at other
    exact absurd (Option.some.inj other).symm e

theorem serves_walkOn {s : State} (h : ServiceLaw s) {g : RunGrant} (holds : s.engine.holder = some (.lane g.lane)) :
    ServiceLaw (s.walkOn g) := by
  have lane := h.lane g.lane
  obtain ⟨⟨r, run, active⟩, _⟩ := lane.holding holds
  unfold State.walkOn
  rw [run]
  dsimp only
  split
  · have marked (b : Bool) : ServiceLaw (s.setLane g.lane { s.lanes[g.lane] with run := some { r with stopMark := b } }) :=
      serves_setLane h (lane.sameState run rfl (by rw [active]; nofun))
    exact (marked _).of_same (.setEngine _ holds.symm)
  · split
    · exact serves_runStop (serves_endWalk h holds _ _ _ _) _
    · exact serves_endWalk h holds _ _ _ _
  · exact serves_endWalk h holds _ _ _ _

/-- The one write of a delivered entry is none of the arbiter's (R85). -/
theorem same_completeEntry (s : State) (g : RunGrant) (tie : Nat) (o : Block) : SameService s (s.completeEntry g tie o) := by
  have counts : SameService s (((s.debitTied tie).raiseUsesOf g.master).raiseUsesOf
      ((s.debitTied tie).raiseUsesOf g.master).lanes[g.lane].transport) :=
    .of_fields (by simp) (by simp) (by simp) (by simp) (by simp)
  exact counts.trans (.setLane _ rfl rfl)

end Sys2Proof.Machine
end

section
/-! PROOFS. Every command, and so every step, keeps who waits for the engine, who holds it and which reply buffers are full in
agreement (R104, R108, R109, R123, R124, R164, R165): ServiceLawIsKept. -/

namespace Sys2Proof.Machine

/-! ### The commands of the engine -/

/-- Whatever state a command comes to keeps the law. -/
def KeepsService (r : Res) : Prop := ∀ t, r = .next t → ServiceLaw t

theorem KeepsService.next {s : State} (h : ServiceLaw s) : KeepsService (.next s) := fun _ e => Host.Outcome.next.inj e ▸ h

theorem KeepsService.fault (f : Fault) : KeepsService (.fault f) := fun _ e => by cases e

theorem serves_execGrant {s : State} (h : ServiceLaw s) : KeepsService (execGrant s) := by
  unfold execGrant
  split
  · exact .next h
  · cases engine : s.engine with
    | idle =>
      dsimp only
      rw [State.choose_of_nobody (h.idle engine), engine]
      exact .next h
    | custody g =>
      dsimp only
      rw [engine]
      exact .next h
    | lane g =>
      dsimp only
      rw [engine]
      dsimp only
      split
      · exact .next (serves_walkOn h (by rw [engine]; rfl))
      all_goals exact .next h

theorem serves_execCardKeyDerivationEnd {s : State} (h : ServiceLaw s) : KeepsService (execCardKeyDerivationEnd s) := by
  unfold execCardKeyDerivationEnd
  split
  · rename_i g engine
    split
    · exact .next (h.of_same (.setEngine s (by rw [engine]; rfl)))
    · exact .fault _
    all_goals exact .next h
  · exact .next h
  · exact .next h

theorem serves_execCardCheckValueEnd {s : State} (h : ServiceLaw s) : KeepsService (execCardCheckValueEnd s) := by
  unfold execCardCheckValueEnd
  split
  · rename_i g engine
    split
    · exact .next (h.of_same (.setEngine s (by rw [engine]; rfl)))
    · exact .fault _
    all_goals exact .next h
  · exact .next h
  · exact .next h

theorem serves_execKeystreamBlockEnd {s : State} (h : ServiceLaw s) : KeepsService (execKeystreamBlockEnd s) := by
  unfold execKeystreamBlockEnd
  split
  · rename_i g engine
    split
    · split
      · exact .next h
      · rename_i r run
        refine .next (serves_walkOn (h.of_same (same_completeEntry s g r.tie _)) ?_)
        rw [State.completeEntry_engine, engine]
        rfl
    · exact .fault _
    all_goals exact .next h
  · exact .next h
  · exact .next h

/-! ### The links -/

/-- A collect in progress goes on holding its reply (R165). -/
theorem ServiceLaw.collectHolds {s : State} (h : ServiceLaw s) (k : Link) {x : LinkState}
    (collect : x.collect = (s.link k).collect) (buffer : x.buffer = (s.link k).buffer) : x.CollectHolds := by
  have held := h.collects k
  unfold LinkState.CollectHolds at held ⊢
  rwa [collect, buffer]

/-- An update of a link that is not of its reply buffer or collect. -/
theorem serves_sameCollect {s : State} (h : ServiceLaw s) (k : Link) {x : LinkState}
    (collect : x.collect = (s.link k).collect) (buffer : x.buffer = (s.link k).buffer) : ServiceLaw (s.setLink k x) :=
  serves_setLink h k buffer (h.collectHolds k collect buffer)

theorem LinkState.receive_collect (x : LinkState) (f : Frame) : (x.receive f).collect = x.collect := by
  unfold LinkState.receive
  split
  · rfl
  · split <;> rfl

theorem LinkState.receive_buffer (x : LinkState) (f : Frame) : (x.receive f).buffer = x.buffer := by
  unfold LinkState.receive
  split
  · rfl
  · split <;> rfl

theorem serves_clearLink {s : State} (h : ServiceLaw s) (k : Link) : ServiceLaw (s.clearLink k) :=
  serves_sameCollect h k rfl rfl

theorem serves_frameError {s : State} (h : ServiceLaw s) (k : Link) : ServiceLaw (s.frameError k) :=
  serves_sameCollect h k rfl rfl

theorem serves_receive {s : State} (h : ServiceLaw s) (k : Link) (bytes : List Byte) : ServiceLaw (s.receive k bytes) := by
  have immediate (kind : Byte) : ServiceLaw (s.immediate k kind) := by
    unfold State.immediate
    split
    · exact serves_clearLink h _
    · split
      · exact serves_runStop h _
      · exact serves_clearLink h _
  unfold State.receive
  split
  · split
    · split
      · split
        · exact immediate _
        · exact serves_frameError h k
      · exact serves_sameCollect h k (LinkState.receive_collect _ _) (LinkState.receive_buffer _ _)
    · exact serves_frameError h k
  · exact serves_frameError h k

theorem serves_execRequestTransfer {s : State} (h : ServiceLaw s) (k : Link) (x : Shifted) :
    KeepsService (execRequestTransfer k x s) := by
  have shifts : ServiceLaw (s.shiftOut k (List.replicate x.bytes.length 0)) := serves_sameCollect h k rfl rfl
  unfold execRequestTransfer
  split
  · refine .next ?_
    unfold State.receiveTransfer
    split
    · exact serves_receive shifts k _
    · exact serves_frameError shifts k
  · exact .next h

theorem serves_execCollectBegin {s : State} (h : ServiceLaw s) (k : Link) : KeepsService (execCollectBegin k s) := by
  unfold execCollectBegin
  split
  · refine .next (serves_setLink h k rfl ?_)
    rintro _ r ⟨⟩ _ held
    exact held
  · exact .next h

theorem Collect.of_consumed {c : Collect} {clocked : Nat} {r : Reply} (h : c.consumed clocked = some r) :
    c.cut = false ∧ c.reply = some r := by
  unfold Collect.consumed at h
  split at h
  · cases h
  · rename_i x reply
    split at h
    · rename_i whole
      obtain rfl := Option.some.inj h
      simp only [Bool.and_eq_true, Bool.not_eq_true'] at whole
      exact ⟨whole.1, reply⟩
    · cases h

/-- A run that is neither ACTIVE nor left without an end reason is QUEUED when it moves on, unless it leaves (R111). -/
theorem Lane.moveOn_queued {x : Lane} (active : ∀ r, x.run = some r → r.state ≠ .active)
    (ended : ∀ r, x.run = some r → r.state = .drainingFinal → r.endReason.isSome = true) {r : Run}
    (h : x.moveOn.run = some r) : r.state = .queued := by
  unfold Lane.moveOn at h
  split at h
  · rename_i run
    exact nomatch h.symm.trans run
  · rename_i r' run
    split at h
    · split at h
      · cases h
      · obtain rfl := Option.some.inj h
        rfl
    · rename_i final
      have reason := ended r' run final
      split at h
      · cases h
      · rename_i none
        rw [none] at reason
        cases reason
    · rename_i queued
      obtain rfl := Option.some.inj (run.symm.trans h)
      exact queued
    · rename_i isActive
      exact absurd isActive (active r' run)

/-- A lane whose reply has been consumed is open (R111, R166). -/
theorem ServiceLaw.afterConsumption {s : State} (h : ServiceLaw s) {l : LaneId} (full : s.lanes[l].link.buffer ≠ none)
    {x : Lane} (buffer : x.link.buffer = none) (collect : x.link.collect = none)
    (queued : ∀ r, x.run = some r → r.state = .queued) (runs : s.lanes[l].run = none → x.run = none) :
    (s.setLane l x).LaneOpen l := by
  have lane := h.lane l
  have same := s.setLane_same l x
  refine ⟨fun q hq => ?_, h.idle, fun holds => full (lane.holding holds).2, fun _ => ?_, ?_, ?_, ?_, fun mode => ?_⟩
  · exact (h.attends q).congr rfl rfl Iff.rfl (s.part_setLane hq x)
  · exact Bool.eq_false_iff.2 fun waits => full (lane.waiting.1 waits).2
  · rw [same]; exact queued
  · rw [same]; exact buffer
  · rw [same, collect]; nofun
  · rw [same]; exact runs (lane.runs mode)

/-- While a lane's buffer is full its run is not ACTIVE (R109). -/
theorem LaneServed.notActive {m : Mode} {waits : Bool} {holds : Prop} {run : Option Run} {buffer : Option Reply}
    {collect : Option Collect} (h : LaneServed m waits holds run buffer collect) (full : buffer ≠ none) {r : Run}
    (hr : run = some r) : r.state ≠ .active := fun active => full (h.holding (h.active r hr active)).2

theorem serves_handOn {s : State} (h : ServiceLaw s) {k : Link} {r : Reply} {x : LinkState}
    (full : (s.link k).buffer = some r) (buffer : x.buffer = none) (collect : x.collect = none) :
    ServiceLaw ((s.setLink k x).handOn k r) := by
  have fixed : x.CollectHolds := by
    unfold LinkState.CollectHolds
    rw [collect]
    nofun
  cases k with
  | custody =>
    have custody := h.custodyPart
    have free : ¬ s.custody.process.isSome = true := fun now => nomatch full.symm.trans (custody.empty now)
    have emptied : ServiceLaw (s.setLink .custody x) :=
      h.update .custody ⟨custody.waiting, custody.holding, fun now => absurd now free, fixed, custody.inService⟩ h.idle rfl
        (fun _ _ => rfl) rfl fun q hq => by
          cases q with
          | custody => exact absurd rfl hq
          | lane l => rfl
    unfold State.handOn
    dsimp only
    split
    · exact emptied.of_same {}
    · exact emptied
  | lane l =>
    have lane := h.lane l
    have filled : s.lanes[l].link.buffer ≠ none := by rw [show s.lanes[l].link.buffer = some r from full]; nofun
    have active {r' : Run} (run : s.lanes[l].run = some r') : r'.state ≠ .active := lane.notActive filled run
    have own : (s.setLink (.lane l) x).lanes[l] = { s.lanes[l] with link := x } := State.setLane_same s l _
    unfold State.handOn
    dsimp only
    refine serves_considerHead ?_
    split
    · rw [own, State.setLink, State.setLane_setLane]
      refine h.afterConsumption filled (by rw [Lane.moveOn_link]; exact buffer) (by rw [Lane.moveOn_link]; exact collect)
        (fun r' => Lane.moveOn_queued (x := { s.lanes[l] with link := x }) (fun _ => active) lane.ended) fun run => ?_
      obtain none | same := Lane.moveOn_run { s.lanes[l] with link := x }
      · exact none
      · rw [show ({ s.lanes[l] with link := x } : Lane).run = none from run] at same
        exact Option.map_eq_none_iff.1 same
    · rename_i other
      refine h.afterConsumption filled buffer collect (fun r' run => ?_) id
      cases state : r'.state with
      | queued => rfl
      | active => exact absurd state (active run)
      | drainingMore | drainingFinal =>
        obtain ⟨y, held⟩ := lane.draining r' run (by rw [Run.draining, state]; rfl)
        exact absurd (Option.some.inj (full.symm.trans held)) (other y)

theorem serves_execCollectEnd {s : State} (h : ServiceLaw s) (k : Link) (clocked cut : Nat) :
    KeepsService (execCollectEnd k clocked cut s) := by
  unfold execCollectEnd
  split
  · exact .next h
  · rename_i c collect
    dsimp only
    split
    · exact .next (serves_setLink h k rfl nofun)
    · rename_i r consumed
      obtain ⟨whole, reply⟩ := Collect.of_consumed consumed
      exact .next (serves_handOn h (h.collects k c r collect whole reply) rfl rfl)

theorem serves_execRunStop {s : State} (h : ServiceLaw s) (stop : Stop) : KeepsService (execRunStop stop s) := by
  unfold execRunStop
  split
  · exact .next (serves_takeStop h stop)
  · exact .next h

theorem serves_execLinkClear {s : State} (h : ServiceLaw s) : KeepsService (execLinkClear s) := by
  unfold execLinkClear
  split
  · exact .next (serves_clearLink h _)
  · exact .next h

theorem serves_execLaneClear {s : State} (h : ServiceLaw s) (l : LaneId) : KeepsService (execLaneClear l s) := by
  unfold execLaneClear
  split
  · exact .next (serves_clearLink h _)
  · exact .next h

/-! ### A part that serves nobody (R118, R141, R150) -/

/-- The engine is IDLE, nobody waits, no lane has a run and no custody command is in process. -/
structure State.Quiet (s : State) : Prop where
  engine : s.engine = .idle
  requesters : s.requesters = 0
  runs : ∀ l : LaneId, s.lanes[l].run = none
  process : s.custody.process = none
  collects : ∀ k : Link, (s.link k).CollectHolds

theorem State.Quiet.serviceLaw {s : State} (h : s.Quiet) : ServiceLaw s := by
  have nobody := State.requesters_eq_zero.1 h.requesters
  have nobodyHolds (q : Requester) : ¬ s.engine.holder = some q := by rw [h.engine]; nofun
  refine serviceLaw_iff.2 ⟨fun _ => h.requesters, fun q => ?_⟩
  cases q with
  | lane l =>
    change LaneServed s.mode (s.waits (.lane l)) _ s.lanes[l].run _ _
    rw [nobody, h.runs]
    exact .noRun (nobodyHolds _) (h.collects (.lane l))
  | custody =>
    change CustodyServed s.mode (s.waits .custody) _ s.custody.process.isSome _ _
    rw [nobody, h.process]
    exact ⟨⟨nofun, fun ⟨now, _⟩ => nomatch now⟩, fun holds => absurd holds (nobodyHolds _), nofun, h.collects .custody, nofun⟩

/-- Out of service a part serves nobody (R129, R164). -/
theorem ServiceLaw.quiet {s : State} (h : ServiceLaw s) (mode : s.mode.inService = false) : s.Quiet := by
  have runs := h.runs fun operational => by rw [operational] at mode; cases mode
  have free : ¬ s.custody.process.isSome = true := fun now => by
    rw [h.inService now] at mode
    cases mode
  have idle : s.engine = .idle := by
    cases engine : s.engine with
    | idle => rfl
    | custody g => exact absurd (h.custodyHolds g engine) free
    | lane g =>
      obtain ⟨⟨r, run, _⟩, _⟩ := h.laneHolds g engine
      exact nomatch (runs g.lane).symm.trans run
  exact ⟨idle, h.idle idle, runs, Option.not_isSome_iff_eq_none.1 free, h.collects⟩

/-- A change to anything but lanes, custody and the arbiter. -/
theorem State.Quiet.of_fields {s t : State} (h : s.Quiet) (engine : t.engine = s.engine)
    (requesters : t.requesters = s.requesters) (lanes : t.lanes = s.lanes) (custody : t.custody = s.custody) : t.Quiet where
  engine := engine.trans h.engine
  requesters := requesters.trans h.requesters
  runs l := by rw [lanes]; exact h.runs l
  process := by rw [custody]; exact h.process
  collects k := by
    have := h.collects k
    cases k <;> simpa only [State.link, lanes, custody] using this

theorem State.Quiet.setMode {s : State} (h : s.Quiet) (m : Mode) : ServiceLaw { s with mode := m } :=
  State.Quiet.serviceLaw (h.of_fields rfl rfl rfl rfl)

theorem LinkState.erase_collectHolds (x : LinkState) : x.erase.CollectHolds := by
  intro c r collect whole _
  obtain ⟨c', _, rfl⟩ := Option.map_eq_some_iff.1 collect
  cases whole

theorem quiet_eraseBegin (s : State) : s.eraseBegin.Quiet where
  engine := rfl
  requesters := rfl
  runs l := by rw [State.eraseBegin, ofFn_get]; rfl
  process := rfl
  collects k := by
    cases k with
    | custody => exact LinkState.erase_collectHolds _
    | lane l =>
      simp only [State.link, State.eraseBegin, ofFn_get]
      exact LinkState.erase_collectHolds _

theorem quiet_volatileStart (s : State) : s.volatileStart.Quiet where
  engine := rfl
  requesters := rfl
  runs l := by rw [State.volatileStart, ofFn_get]; rfl
  process := rfl
  collects k := by
    cases k with
    | custody => exact fun _ _ none => nomatch none
    | lane l =>
      simp only [State.link, State.volatileStart, ofFn_get]
      exact fun _ _ none => nomatch none

theorem quiet_clearDomain {s : State} (h : s.Quiet) : s.clearDomain.Quiet where
  engine := h.engine
  requesters := h.requesters
  runs l := by rw [State.clearDomain, ofFn_get]; rfl
  process := h.process
  collects k := by
    have := h.collects k
    cases k with
    | custody => exact this
    | lane l =>
      simp only [State.link, State.clearDomain, ofFn_get]
      exact this

theorem State.sweepFirst_run (s : State) (n : Nat) (l : LaneId) : (s.sweepFirst n).lanes[l].run = s.lanes[l].run := by
  refine State.sweepFirst_keeps (f := fun u => u.lanes[l].run) (fun g hg u => ?_) s n
  simp only [sweepSteps, List.mem_cons, List.not_mem_nil, or_false] at hg
  obtain rfl | rfl | rfl | rfl | rfl | rfl := hg
  · simp only [State.sweepAssemblies_lanes]
  · simp only [State.sweepIntegrity_lanes]
  · simp only [State.sweepWarrants_lanes]
  · simp only [State.sweepLanes, ofFn_get, State.sweepLane_run]
  · simp only [State.sweepReferences_lanes]
  · simp only [State.resetChains, ofFn_get, Lane.resetChain_run]

theorem quiet_sweep {s : State} (h : s.Quiet) : s.sweep.Quiet where
  engine := (State.sweepFirst_engine s 6).trans h.engine
  requesters := (State.sweepFirst_requesters s 6).trans h.requesters
  runs l := (State.sweepFirst_run s 6 l).trans (h.runs l)
  process := (congrArg Custody.process (State.sweepFirst_custody s 6)).trans h.process
  collects k := by rw [State.sweep, State.sweepFirst_link]; exact h.collects k

/-! ### The tamper responses -/

theorem serves_notice {s : State} (h : ServiceLaw s) : ServiceLaw s.notice := by
  unfold State.notice
  split
  · rename_i ready
    simp only [State.custodyReady, Bool.and_eq_true, Option.isNone_iff_eq_none] at ready
    obtain ⟨⟨service, empty⟩, free⟩ := ready
    exact State.Taking.reply ⟨h, service, empty, free⟩ _
  · exact h

theorem same_tamper (s : State) (t : Tamper) : SameService s { s with tamper := t } := {}

theorem serves_orderErase {s : State} (h : ServiceLaw s) : ServiceLaw s.orderErase := by
  have begins := (quiet_eraseBegin s).serviceLaw
  unfold State.orderErase
  split
  · exact begins
  · exact begins
  · exact begins
  · exact h
  · exact h.of_same (same_tamper s _)
  · exact h.of_same (same_tamper s _)

theorem serves_tamperEvent {s : State} (h : ServiceLaw s) (x : Source) (r : Response) : ServiceLaw (s.tamperEvent x r) := by
  have records : ServiceLaw { s with tamper := s.tamper.record x } := h.of_same (same_tamper s _)
  unfold State.tamperEvent
  dsimp only
  split
  · exact serves_notice records
  · exact serves_orderErase records

theorem serves_sampleInput {s : State} (h : ServiceLaw s) (i : InputId) (v : Level) : ServiceLaw (s.sampleInput i v) := by
  unfold State.sampleInput
  dsimp only
  split
  · exact serves_tamperEvent (h.of_same (same_tamper s _)) _ _
  · exact h.of_same (same_tamper s _)

theorem serves_foldl {α : Type} {f : State → α → State} (hf : ∀ {s}, ServiceLaw s → ∀ v, ServiceLaw (f s v)) {s : State}
    (h : ServiceLaw s) (vs : List α) : ServiceLaw (vs.foldl f s) := by
  induction vs generalizing s with
  | nil => exact h
  | cons v vs ih => exact ih (hf h v)

theorem serves_execTamperInputEdge {s : State} (h : ServiceLaw s) (i : InputId) (samples : List Level) :
    KeepsService (execTamperInputEdge i samples s) := by
  unfold execTamperInputEdge
  split
  · exact .next (serves_foldl (fun law v => serves_sampleInput law i v) h samples)
  · exact .next h

theorem serves_execSupplyTimerExpiry {s : State} (h : ServiceLaw s) : KeepsService (execSupplyTimerExpiry s) := by
  unfold execSupplyTimerExpiry
  split
  · exact .next (serves_tamperEvent (h.of_same (same_tamper s _)) _ _)
  · exact .next h

theorem same_supply (s : State) (mv : Nat) (t : Tamper) : SameService s { s with vmain := mv, tamper := t } := {}

theorem serves_execSupplyAboveThreshold {s : State} (h : ServiceLaw s) (mv : Nat) :
    KeepsService (execSupplyAboveThreshold mv s) := by
  unfold execSupplyAboveThreshold
  split
  · split
    · exact .next (h.of_same (same_supply s mv _))
    · exact .next (h.of_same (same_supply s mv _))
  · exact .next h

theorem serves_execSupplyBelowThreshold {s : State} (h : ServiceLaw s) (mv : Nat) :
    KeepsService (execSupplyBelowThreshold mv s) := by
  unfold execSupplyBelowThreshold
  split
  · split
    · exact .next (h.of_same (same_supply s mv _))
    · exact .next (h.of_same (same_supply s mv _))
  · exact .next h

/-! ### The custody switch -/

/-- A component that waits is answered; one whose operation runs goes on (R33). -/
theorem serves_abandonComponent {s : State} (h : ServiceLaw s) : ServiceLaw s.abandonComponent := by
  have custody := h.custodyPart
  unfold State.abandonComponent
  split
  · rename_i i c v k last ended process
    have now : s.custody.process.isSome = true := by rw [process]; rfl
    have answered (out : ¬ s.engine.holder = some .custody) :
        ServiceLaw (((s.inProcess none).withdraw .custody).custodyRefuse kindComponent .notInCustody) := by
      have waits (q : Requester) := (s.inProcess none).waits_withdraw .custody q
      refine h.update .custody ?_ (fun idle => State.requesters_withdraw (h.idle idle) _) rfl (fun q hq => ?_) rfl
        fun q hq => ?_
      · have free : (((s.inProcess none).withdraw .custody).custodyRefuse kindComponent .notInCustody).waits .custody = false :=
          (waits .custody).trans (by simp)
        refine ⟨by rw [free]; exact ⟨nofun, fun ⟨now, _⟩ => nomatch now⟩, fun holds => absurd holds out, nofun, ?_, nofun⟩
        exact Fixed.place (by have := custody.fixed; rwa [custody.empty now] at this) _
      · refine (waits q).trans ?_
        rw [decide_eq_false hq, Bool.not_false, Bool.and_true]
        rfl
      · cases q with
        | custody => exact absurd rfl hq
        | lane l => rfl
    split
    · split
      · refine h.of_same { part := fun q => ?_ }
        cases q with
        | custody => simp only [State.part, process, Option.isSome_some]
        | lane l => rfl
      · rename_i idle
        exact answered (by rw [idle]; nofun)
      · rename_i engine
        exact answered (by rw [engine]; nofun)
    · exact h
  · exact h

theorem serves_changeToRun {s : State} (h : ServiceLaw s) : ServiceLaw s.changeToRun := by
  have empties (u : State) : SameService u u.abandonAssemblies :=
    .of_fields (by simp) (by simp) (by simp only [State.abandonAssemblies]) (by simp) (by simp)
  exact (serves_abandonComponent h).of_same (empties _)

theorem serves_sampleSwitch {s : State} (h : ServiceLaw s) (pin : Level) : ServiceLaw (s.sampleSwitch pin) := by
  unfold State.sampleSwitch
  split
  rename_i position count confirmed _
  have counts : ServiceLaw { s with custody := { s.custody with position := position, count := count } } := h.of_same {}
  dsimp only
  split
  · exact serves_changeToRun counts
  · exact counts

theorem serves_execCustodySwitchChange {s : State} (h : ServiceLaw s) (samples : List Level) :
    KeepsService (execCustodySwitchChange samples s) := by
  unfold execCustodySwitchChange
  split
  · exact .next (serves_foldl serves_sampleSwitch h samples)
  · exact .next h

/-! ### Stopping, starting and the end of an erase -/

theorem serves_overwriteNext {s : State} (h : ServiceLaw s) : ServiceLaw s.overwriteNext :=
  h.of_same (.of_fields (by simp) (by simp) (by simp) (by simp) (by simp))

theorem serves_execEraseComplete {s : State} (h : ServiceLaw s) : KeepsService (execEraseComplete s) := by
  unfold execEraseComplete
  split
  · rename_i mode
    exact .next (State.Quiet.serviceLaw (.of_fields (h.quiet (by rw [mode]; rfl)) rfl rfl rfl rfl))
  · exact .next h

theorem serves_keepDomain {s : State} (h : ServiceLaw s) : ServiceLaw s.keepDomain := by
  unfold State.keepDomain
  split
  · exact h
  · exact h.of_same {}

theorem serves_enterStarting (s : State) : ServiceLaw s.enterStarting := (quiet_volatileStart s).setMode _

theorem serves_stopIfRunning {s : State} (h : ServiceLaw s) (cut : SweepCut) :
    ServiceLaw (if s.mode.running then s.stopLogic cut else s) := by
  split
  · exact (quiet_volatileStart _).setMode _
  · exact h

theorem serves_execMainSupplyLoss {s : State} (h : ServiceLaw s) (mv : Nat) (cut : SweepCut) :
    KeepsService (execMainSupplyLoss mv cut s) := by
  unfold execMainSupplyLoss
  split
  · exact .next (serves_keepDomain ((serves_stopIfRunning h cut).of_same {}))
  · exact .next h

theorem serves_execResetAssert {s : State} (h : ServiceLaw s) (cut : SweepCut) : KeepsService (execResetAssert cut s) := by
  unfold execResetAssert
  split
  · exact .next ((serves_stopIfRunning h cut).of_same {})
  · exact .next h

theorem serves_execMainSupplyRise {s : State} (h : ServiceLaw s) (mv : Nat) : KeepsService (execMainSupplyRise mv s) := by
  unfold execMainSupplyRise
  split
  · dsimp only
    split
    · exact .next (h.of_same {})
    · exact .next (serves_enterStarting _)
  · exact .next h

theorem serves_execResetRelease {s : State} (h : ServiceLaw s) : KeepsService (execResetRelease s) := by
  unfold execResetRelease
  split
  · dsimp only
    split
    · exact .next (serves_enterStarting _)
    · exact .next (h.of_same {})
  · exact .next h

theorem serves_execValidityCheck {s : State} (h : ServiceLaw s) (raw : BitVec 6) : KeepsService (execValidityCheck raw s) := by
  unfold execValidityCheck
  split
  · rename_i mode
    have quiet := h.quiet (by rw [mode]; rfl)
    split
    · exact .next (State.Quiet.serviceLaw (.of_fields quiet rfl rfl rfl rfl))
    · split
      · exact .next (quiet_eraseBegin s).serviceLaw
      · exact .next (quiet.setMode _)
  · exact .next h

theorem serves_execBatteryLossClearingEnd {s : State} (h : ServiceLaw s) : KeepsService (execBatteryLossClearingEnd s) := by
  unfold execBatteryLossClearingEnd
  split
  · rename_i mode
    split
    · exact .next (quiet_eraseBegin _).serviceLaw
    · exact .next ((quiet_clearDomain (h.quiet (by rw [mode]; rfl))).setMode _)
  · exact .next h

theorem serves_execSweepEnd {s : State} (h : ServiceLaw s) : KeepsService (execSweepEnd s) := by
  unfold execSweepEnd
  split
  · rename_i mode
    have swept := quiet_sweep (h.quiet (by rw [mode]; rfl))
    refine .next ?_
    unfold State.afterSweep
    split
    · exact (quiet_eraseBegin _).serviceLaw
    · split
      · exact swept.setMode _
      · split <;> exact swept.setMode _
  · exact .next h

theorem serves_execBackupBatteryFailure {s : State} (h : ServiceLaw s) (b : Bool) :
    KeepsService (execBackupBatteryFailure b s) := by
  have fails : ServiceLaw { s with battery := false } := h.of_same {}
  exact .next ((serves_keepDomain fails).of_same {})

theorem serves_execBatteryBackedMemoryFault {s : State} (h : ServiceLaw s) (i : SlotId) (b : SlotBody) (n : Nat)
    (w : BitVec 32) : KeepsService (execBatteryBackedMemoryFault i b n w s) := by
  unfold execBatteryBackedMemoryFault
  split
  · exact .next (h.of_same {})
  · exact .next h

/-! ### The custody commands (R164) -/

theorem State.Taking.popFrame {s : State} (h : ServiceLaw s) (service : s.mode.inService = true)
    (empty : s.custody.link.buffer = none) (free : s.custody.process = none) : (s.popFrame .custody).Taking where
  law := serves_sameCollect h .custody rfl rfl
  service := service
  empty := empty
  free := free

theorem serves_takeCustody {s : State} (h : ServiceLaw s) {kind : Byte} {act : List Byte → State → Res}
    (ha : ∀ body u, u.Taking → KeepsService (act body u)) : KeepsService (s.takeCustody kind act) := by
  obtain e | ⟨f, rest, _, ready, _, e⟩ := s.takeCustody_cases kind act
  · rw [e]
    exact .next h
  · simp only [State.custodyReady, Bool.and_eq_true, Option.isNone_iff_eq_none] at ready
    obtain ⟨⟨service, empty⟩, free⟩ := ready
    rw [e]
    exact ha _ _ (.popFrame h service empty free)

namespace State.Taking

variable {s : State} (h : s.Taking)
include h

theorem refuse (kind : Byte) (c : Code) : KeepsService (.next (s.custodyRefuse kind c)) := .next (h.reply _)

/-- Answered after an update that is none of the arbiter's. -/
theorem answer {t : State} (same : SameService s t) (r : Reply) : KeepsService (.next (t.reply .custody r)) :=
  .next ((h.of_same same).reply r)

theorem enters {t : State} (same : SameService s t) (p : Process) : KeepsService (.next (t.startProcess p)) :=
  .next ((h.of_same same).start p)

theorem refuseOr {c : Prop} [Decidable c] {kind : Byte} {code : Code} {r : Res} (hr : KeepsService r) :
    KeepsService (if c then .next (s.custodyRefuse kind code) else r) := by
  split
  · exact h.refuse _ _
  · exact hr

theorem readCustody {α : Type} {kind : Byte} {form : Option α} {act : α → State → Res} (ha : ∀ x, KeepsService (act x s)) :
    KeepsService (s.readCustody kind form act) := by
  obtain ⟨_, e⟩ | ⟨x, _, e⟩ := s.readCustody_cases kind form act
  · rw [e]; exact h.refuse _ _
  · rw [e]; exact ha x

theorem gated {kind : Byte} {r : GateRow} {act : State → Res} (ha : KeepsService (act s)) : KeepsService (s.gated kind r act) := by
  obtain ⟨c, _, e⟩ | ⟨_, e⟩ := s.gated_cases kind r act
  · rw [e]; exact h.refuse _ _
  · rw [e]; exact ha

theorem gatedSlot {kind : Byte} {r : GateRow} {slot : Byte} {act : SlotId → State → Res} (ha : ∀ i, KeepsService (act i s)) :
    KeepsService (s.gatedSlot kind r slot act) := by
  obtain ⟨c, e⟩ | ⟨i, _, _, e⟩ := s.gatedSlot_cases kind r slot act
  · rw [e]; exact h.refuse _ _
  · rw [e]; exact ha i

theorem served {kind : Byte} {act : State → Res} (ha : KeepsService (act s)) : KeepsService (s.served kind act) := by
  obtain ⟨c, e⟩ | ⟨_, e⟩ := s.served_cases kind act
  · rw [e]; exact h.refuse _ _
  · rw [e]; exact ha

theorem withWarrant {kind id : Byte} {act : Warrant → State → Res} (ha : ∀ w, KeepsService (act w s)) :
    KeepsService (s.withWarrant kind id act) := by
  obtain ⟨c, e⟩ | ⟨w, _, _, e⟩ := s.withWarrant_cases kind id act
  · rw [e]; exact h.refuse _ _
  · rw [e]; exact ha w

end State.Taking

/-- A device that stays in service loses no run unless it leaves OPERATIONAL, and a LOCKED one has none (R104, R129). -/
theorem ServiceLaw.setMode {s : State} (h : ServiceLaw s) {m : Mode} (service : m.inService = true)
    (runs : m = .operational ∨ s.mode ≠ .operational) : ServiceLaw { s with mode := m } := by
  refine serviceLaw_iff.2 ⟨h.idle, fun q => ?_⟩
  cases q with
  | custody =>
    obtain ⟨waiting, holding, empty, fixed, _⟩ := h.custodyPart
    exact ⟨waiting, holding, empty, fixed, fun _ => service⟩
  | lane l =>
    obtain ⟨waiting, holding, active, draining, ended, fixed, none⟩ := h.lane l
    refine ⟨waiting, holding, active, draining, ended, fixed, fun mode => ?_⟩
    obtain stays | left := runs
    · exact absurd stays mode
    · exact none left

/-- The command in process answers, after an update that is none of the arbiter's (R122). -/
theorem KeepsService.ends {s t : State} {g : CustodyGrant} (h : ServiceLaw s) (engine : s.engine = .custody g)
    (same : SameService s t) (r : Reply) : KeepsService (.next (t.endProcess r)) :=
  .next (serves_endProcess (h.of_same same) (by rw [same.holder, engine]; rfl) r)

/-- Or goes on to its next operation. -/
theorem KeepsService.goesOn {s t : State} {g : CustodyGrant} {p : Process} (h : ServiceLaw s) (engine : s.engine = .custody g)
    (process : s.custody.process = some p) (same : SameService s t) (p' : Process) : KeepsService (.next (t.nextOp g p')) := by
  have part := same.part .custody
  simp only [State.part, process, Option.isSome_some, Prod.mk.injEq, true_and] at part
  obtain ⟨now, _⟩ := part
  exact .next ((h.of_same same).of_same (same_nextOp (by rw [same.holder, engine]; rfl) now g p'))

/-! ### Key ceremonies and the Key Table -/

/-- A change of the slots and of nothing else. -/
theorem SameService.slots (s : State) (v : Vector Slot 48) : SameService s { s with slots := v } := {}

theorem serves_acceptComponent {s : State} (h : s.Taking) (i : SlotId) (p : Assembly) (f : ComponentForm) :
    KeepsService (.next (s.acceptComponent i p f)) := by
  unfold State.acceptComponent
  dsimp only
  split
  · exact h.enters (.refl s) _
  · split
    · exact h.enters (.slots s _) _
    · exact h.answer (.slots s _) _

theorem serves_execAssemble {s : State} (h : ServiceLaw s) : KeepsService (execAssemble s) := by
  refine serves_takeCustody h fun _ u taking => taking.readCustody fun f => taking.gatedSlot fun i => ?_
  split
  · exact taking.refuse _ _
  · split
    · exact taking.refuse _ _
    · exact taking.answer (.slots u _) _

theorem serves_execComponent {s : State} (h : ServiceLaw s) : KeepsService (execComponent s) := by
  refine serves_takeCustody h fun _ u taking => taking.readCustody fun f => taking.gatedSlot fun i => ?_
  split
  · exact taking.refuse _ _
  · exact serves_acceptComponent taking i _ f
  · exact .next taking.law

theorem serves_execComponentCheckEnd {s : State} (h : ServiceLaw s) : KeepsService (execComponentCheckEnd s) := by
  unfold execComponentCheckEnd
  split
  · rename_i engine process
    have ends := KeepsService.ends h engine (.refl s)
    split
    · exact .fault _
    · dsimp only
      split
      · exact ends _
      · split
        · exact ends _
        · split
          · exact .fault _
          · split
            · exact .goesOn h engine process (.slots s _) _
            · exact .ends h engine (.slots s _) _
  · exact .next h

theorem serves_execFinalCheckEnd {s : State} (h : ServiceLaw s) : KeepsService (execFinalCheckEnd s) := by
  unfold execFinalCheckEnd
  split
  · rename_i engine _
    split
    · exact .fault _
    · exact .fault _
    · dsimp only
      split
      · exact .ends h engine (.slots s _) _
      · exact .ends h engine (.slots s _) _
  · exact .next h

theorem serves_execAssemblyCancel {s : State} (h : ServiceLaw s) : KeepsService (execAssemblyCancel s) := by
  refine serves_takeCustody h fun _ u taking => taking.readCustody fun _ => taking.gatedSlot fun i => ?_
  split
  · exact taking.refuse _ _
  · exact taking.refuseOr (taking.answer (.slots u _) _)

theorem serves_execSlotStatus {s : State} (h : ServiceLaw s) : KeepsService (execSlotStatus s) :=
  serves_takeCustody h fun _ u taking => taking.readCustody fun _ => taking.gatedSlot fun _ => taking.answer (.refl u) _

theorem serves_execSlotErase {s : State} (h : ServiceLaw s) : KeepsService (execSlotErase s) := by
  refine serves_takeCustody h fun _ u taking => taking.readCustody fun _ => taking.gatedSlot fun i => ?_
  split
  · exact taking.refuse _ _
  · exact taking.refuseOr (taking.answer (.slots u _) _)

/-! ### Storage keys and key tokens -/

theorem same_draw (s : State) : SameService s s.draw.2 := {}

theorem serves_execInitialise {s : State} (h : ServiceLaw s) : KeepsService (execInitialise s) :=
  serves_takeCustody h fun _ u taking => taking.readCustody fun _ => taking.gated (taking.enters (same_draw u) _)

/-- The device becomes OPERATIONAL in the grant that serves INITIALISE (R41). -/
theorem serves_execInitialisePatternEnd {s : State} (h : ServiceLaw s) : KeepsService (execInitialisePatternEnd s) := by
  unfold execInitialisePatternEnd
  split
  · rename_i engine _
    split
    · exact .fault _
    · have begins := h.setMode (m := .operational) rfl (.inl rfl)
      exact .ends begins engine {} _
  · exact .next h

theorem serves_execStorageRoll {s : State} (h : ServiceLaw s) : KeepsService (execStorageRoll s) := by
  refine serves_takeCustody h fun _ u taking => taking.readCustody fun _ => taking.gated ?_
  split
  · exact .fault _
  · exact taking.refuseOr (taking.enters (same_draw u) _)

theorem serves_execStorageRollPatternEnd {s : State} (h : ServiceLaw s) : KeepsService (execStorageRollPatternEnd s) := by
  unfold execStorageRollPatternEnd
  split
  · rename_i engine _
    split
    · exact .fault _
    · exact .fault _
    · exact .ends h engine {} _
  · exact .next h

theorem serves_execTokenExport {s : State} (h : ServiceLaw s) : KeepsService (execTokenExport s) := by
  refine serves_takeCustody h fun _ u taking => taking.readCustody fun _ => taking.gatedSlot fun _ => ?_
  split
  · exact taking.refuse _ _
  · exact .fault _
  · exact taking.enters (.refl u) _

theorem serves_execTokenExportOperationEnd {s : State} (h : ServiceLaw s) : KeepsService (execTokenExportOperationEnd s) := by
  unfold execTokenExportOperationEnd
  split
  · rename_i engine process
    split
    · exact .fault _
    · split
      · exact .ends h engine (.refl s) _
      · exact .goesOn h engine process (.refl s) _
      · exact .ends h engine (.refl s) _
  · exact .next h

theorem serves_execTokenImport {s : State} (h : ServiceLaw s) : KeepsService (execTokenImport s) := by
  refine serves_takeCustody h fun _ u taking => taking.readCustody fun f => taking.gatedSlot fun _ => taking.refuseOr ?_
  split
  · exact taking.refuse _ _
  · split
    · exact taking.answer (.refl u) _
    · exact taking.enters (.refl u) _

theorem serves_execTokenImportOperationEnd {s : State} (h : ServiceLaw s) : KeepsService (execTokenImportOperationEnd s) := by
  unfold execTokenImportOperationEnd
  split
  · rename_i i token fromPrevious generation _ _ engine process
    have goesOn := KeepsService.goesOn h engine process (.refl s)
    have ends (key : KeyValue) (c : CheckValue) :
        KeepsService (.next (s.endImport i token fromPrevious generation key c)) := by
      unfold State.endImport
      split
      · exact .ends h engine (.slots s _) _
      · exact .ends h engine (.refl s) _
    split
    · exact .fault _
    · split
      · exact goesOn _
      · exact goesOn _
      · exact ends _ _
      · exact ends _ _
  · exact .next h

/-! ### Warrants -/

theorem same_warrants (s : State) (ws : List Warrant) : SameService s { s with warrants := ws } := {}

theorem serves_execWarrantOpen {s : State} (h : ServiceLaw s) : KeepsService (execWarrantOpen s) := by
  refine serves_takeCustody h fun _ u taking => taking.readCustody fun f => taking.served ?_
  split
  · exact taking.refuse _ _
  · split
    · exact taking.refuse _ _
    · exact taking.answer {} _

theorem serves_execWarrantHold {s : State} (h : ServiceLaw s) : KeepsService (execWarrantHold s) :=
  serves_takeCustody h fun _ u taking => taking.readCustody fun _ => taking.withWarrant fun _ =>
    taking.refuseOr (taking.answer (same_warrants u _) _)

theorem serves_execWarrantRelease {s : State} (h : ServiceLaw s) : KeepsService (execWarrantRelease s) :=
  serves_takeCustody h fun _ u taking => taking.readCustody fun _ => taking.withWarrant fun _ =>
    taking.refuseOr (taking.answer (same_warrants u _) _)

theorem serves_execWarrantExtend {s : State} (h : ServiceLaw s) : KeepsService (execWarrantExtend s) :=
  serves_takeCustody h fun _ u taking => taking.readCustody fun _ => taking.withWarrant fun _ =>
    taking.refuseOr (taking.refuseOr (taking.answer (same_warrants u _) _))

theorem serves_execWarrantClose {s : State} (h : ServiceLaw s) : KeepsService (execWarrantClose s) :=
  serves_takeCustody h fun _ u taking => taking.readCustody fun _ => taking.withWarrant fun _ =>
    taking.refuseOr (taking.answer ((same_warrants u _).trans (.slots _ _)) _)

theorem serves_execWarrantPurge {s : State} (h : ServiceLaw s) : KeepsService (execWarrantPurge s) :=
  serves_takeCustody h fun _ u taking => taking.readCustody fun _ => taking.withWarrant fun _ =>
    taking.refuseOr (taking.answer (same_warrants u _) _)

theorem serves_execWarrantStatus {s : State} (h : ServiceLaw s) (k : Link) : KeepsService (execWarrantStatus k s) := by
  unfold execWarrantStatus
  cases k with
  | custody =>
    exact serves_takeCustody h fun _ u taking => taking.readCustody fun _ => taking.withWarrant fun _ =>
      taking.answer (.refl u) _
  | lane l => exact fun _ => serves_takeLane h l _

theorem serves_execWarrantList {s : State} (h : ServiceLaw s) : KeepsService (execWarrantList s) :=
  serves_takeCustody h fun _ u taking => taking.readCustody fun _ => taking.served (taking.answer (.refl u) _)

/-! ### Lanes -/

/-- A binding and its references are none of the arbiter's (R98, R99). -/
theorem SameService.rebind (s : State) (v : Vector Slot 48) {l : LaneId} {x : Lane} (run : x.run = s.lanes[l].run := by rfl)
    (link : x.link = s.lanes[l].link := by rfl) : SameService s ({ s with slots := v }.setLane l x) :=
  (SameService.slots s v).trans (.setLane _ run link)

theorem serves_execLaneBind {s : State} (h : ServiceLaw s) : KeepsService (execLaneBind s) := by
  refine serves_takeCustody h fun _ u taking => taking.readCustody fun f => taking.served ?_
  split
  · exact taking.refuse _ _
  · rename_i b _
    split
    · exact taking.refuse _ _
    · split
      · exact taking.refuse _ _
      · obtain ⟨v, e⟩ := u.moveRefs_rest u.lanes[b.lane].transport b.slot
        dsimp only
        rw [e]
        exact taking.answer (.rebind u v) _

theorem serves_execLaneUnbind {s : State} (h : ServiceLaw s) : KeepsService (execLaneUnbind s) := by
  refine serves_takeCustody h fun _ u taking => taking.readCustody fun _ => taking.served ?_
  split
  · exact taking.refuse _ _
  · dsimp only
    split
    · exact taking.refuse _ _
    · exact taking.refuseOr (taking.answer (.rebind u _) _)

theorem serves_execRun {s : State} (h : ServiceLaw s) (l : LaneId) : KeepsService (execRun l s) :=
  fun _ => serves_takeLane h l _

theorem serves_execLaneStatus {s : State} (h : ServiceLaw s) (l : LaneId) : KeepsService (execLaneStatus l s) :=
  fun _ => serves_takeLane h l _

theorem serves_execSetQuantum {s : State} (h : ServiceLaw s) : KeepsService (execSetQuantum s) :=
  serves_takeCustody h fun _ u taking => taking.readCustody fun _ => taking.refuseOr (taking.answer {} _)

/-! ### The device -/

theorem serves_execDeviceStatus {s : State} (h : ServiceLaw s) : KeepsService (execDeviceStatus s) :=
  serves_takeCustody h fun _ u taking => taking.readCustody fun _ => taking.answer (.refl u) _

theorem serves_execTamperSetup {s : State} (h : ServiceLaw s) (raw : BitVec 6) : KeepsService (execTamperSetup raw s) := by
  refine serves_takeCustody h fun _ u taking => taking.readCustody fun _ => taking.gated ?_
  split
  · exact taking.refuse _ _
  · exact taking.answer (same_tamper u _) _

/-- A LOCKED part has no runs to lose (R147). -/
theorem serves_execTamperAck {s : State} (h : ServiceLaw s) : KeepsService (execTamperAck s) := by
  refine serves_takeCustody h fun _ u taking => taking.readCustody fun _ => taking.gated ?_
  split
  · rename_i locked
    refine taking.refuseOr ?_
    have freed := taking.law.setMode (m := .uninitialised) rfl (.inr (by rw [locked]; nofun))
    exact State.Taking.answer ⟨freed, rfl, taking.empty, taking.free⟩ {} _
  · exact taking.answer (same_tamper u _) _

theorem serves_execUnknownRequest {s : State} (h : ServiceLaw s) (k : Link) : KeepsService (execUnknownRequest k s) := by
  unfold execUnknownRequest
  cases k with
  | custody =>
    dsimp only
    split
    · exact .next h
    · split
      · exact .next h
      · exact serves_takeCustody h fun _ u taking => taking.refuse _ _
  | lane l => exact fun _ => serves_takeLane h l _

/-! ### Every step -/

theorem serves_exec (c : Instr) {s : State} (h : ServiceLaw s) : KeepsService (exec c s) := by
  cases c with
  | requestTransfer k x => exact serves_execRequestTransfer h k x
  | collectBegin k => exact serves_execCollectBegin h k
  | collectEnd k clocked cut => exact serves_execCollectEnd h k clocked cut
  | unknownRequest k => exact serves_execUnknownRequest h k
  | slotStatus => exact serves_execSlotStatus h
  | slotErase => exact serves_execSlotErase h
  | assemble => exact serves_execAssemble h
  | component => exact serves_execComponent h
  | componentCheckEnd => exact serves_execComponentCheckEnd h
  | finalCheckEnd => exact serves_execFinalCheckEnd h
  | assemblyCancel => exact serves_execAssemblyCancel h
  | custodySwitchChange samples => exact serves_execCustodySwitchChange h samples
  | initialise => exact serves_execInitialise h
  | initialisePatternEnd => exact serves_execInitialisePatternEnd h
  | storageRoll => exact serves_execStorageRoll h
  | storageRollPatternEnd => exact serves_execStorageRollPatternEnd h
  | tokenExport => exact serves_execTokenExport h
  | tokenExportOperationEnd => exact serves_execTokenExportOperationEnd h
  | tokenImport => exact serves_execTokenImport h
  | tokenImportOperationEnd => exact serves_execTokenImportOperationEnd h
  | warrantOpen => exact serves_execWarrantOpen h
  | warrantHold => exact serves_execWarrantHold h
  | warrantRelease => exact serves_execWarrantRelease h
  | warrantExtend => exact serves_execWarrantExtend h
  | warrantClose => exact serves_execWarrantClose h
  | warrantPurge => exact serves_execWarrantPurge h
  | warrantStatus k => exact serves_execWarrantStatus h k
  | warrantList => exact serves_execWarrantList h
  | laneBind => exact serves_execLaneBind h
  | laneUnbind => exact serves_execLaneUnbind h
  | setQuantum => exact serves_execSetQuantum h
  | tamperSetup raw => exact serves_execTamperSetup h raw
  | tamperAck => exact serves_execTamperAck h
  | deviceStatus => exact serves_execDeviceStatus h
  | linkClear => exact serves_execLinkClear h
  | run l => exact serves_execRun h l
  | laneStatus l => exact serves_execLaneStatus h l
  | runStop stop => exact serves_execRunStop h stop
  | laneClear l => exact serves_execLaneClear h l
  | grant => exact serves_execGrant h
  | cardKeyDerivationEnd => exact serves_execCardKeyDerivationEnd h
  | cardCheckValueEnd => exact serves_execCardCheckValueEnd h
  | keystreamBlockEnd => exact serves_execKeystreamBlockEnd h
  | tamperInputEdge i samples => exact serves_execTamperInputEdge h i samples
  | eraseComplete => exact serves_execEraseComplete h
  | supplyAboveThreshold mv => exact serves_execSupplyAboveThreshold h mv
  | supplyBelowThreshold mv => exact serves_execSupplyBelowThreshold h mv
  | supplyTimerExpiry => exact serves_execSupplyTimerExpiry h
  | mainSupplyLoss mv cut => exact serves_execMainSupplyLoss h mv cut
  | resetAssert cut => exact serves_execResetAssert h cut
  | mainSupplyRise mv => exact serves_execMainSupplyRise h mv
  | resetRelease => exact serves_execResetRelease h
  | validityCheck raw => exact serves_execValidityCheck h raw
  | batteryLossClearingEnd => exact serves_execBatteryLossClearingEnd h
  | sweepEnd => exact serves_execSweepEnd h
  | backupBatteryFailure b => exact serves_execBackupBatteryFailure h b
  | batteryBackedMemoryFault i b n w => exact serves_execBatteryBackedMemoryFault h i b n w

/-- Settles O50: every command keeps the law, and so do the passes' writes. -/
theorem serviceLawIsKept : Obligations.ServiceLawIsKept := by
  intro s t law h
  cases hp : s.pending with
  | nil =>
    rw [step_of_nil hp] at h
    obtain rfl := Host.Outcome.next.inj h
    unfold State.tick
    split
    · exact serves_overwriteNext law
    · exact law
  | cons c cs =>
    simp only [step, hp] at h
    have takes : ServiceLaw (s.withPending cs) := law.of_same {}
    exact serves_exec c takes t h

end Sys2Proof.Machine
end

section
/-! PROOFS. What a lane's run, its requests and its binding make of the lane: RunStopActsOnTheRun, LaneStatusReportsTheLane,
RunIsAcceptedOrRefused (R105 to R108, R112, R115). -/

namespace Sys2Proof.Machine

/-! ### RUN_STOP (R91, R112) -/

section

variable {s : State} {l : LaneId} {r : Run}

theorem State.runStop_idle (run : s.lanes[l].run = none) : s.runStop l = s := by
  simp only [State.runStop, run]

/-- A QUEUED run leaves at once, and its lane the pending set. -/
theorem State.runStop_queued (run : s.lanes[l].run = some r) (state : r.state = .queued) :
    s.runStop l = (s.setLane l (s.lanes[l].leave r .stopped)).withdraw (.lane l) := by
  simp only [State.runStop, run, state]

theorem State.runStop_active (run : s.lanes[l].run = some r) (state : r.state = .active) :
    s.runStop l = s.setLane l { s.lanes[l] with run := some { r with stopMark := true } } := by
  simp only [State.runStop, run, state]

theorem State.runStop_more (run : s.lanes[l].run = some r) (state : r.state = .drainingMore) :
    s.runStop l =
      if r.stopMark then s
      else s.setLane l { s.lanes[l] with run := some { r with stopMark := true, endReason := some .stopped } } := by
  simp only [State.runStop, run, state]

theorem State.runStop_final (run : s.lanes[l].run = some r) (state : r.state = .drainingFinal) : s.runStop l = s := by
  simp only [State.runStop, run, state]

theorem RunGrant.boundary_eq (g : RunGrant) : g.boundary = if g.stage = .opening then g.index else g.index + 1 := by
  unfold RunGrant.boundary
  cases stage : g.stage <;> rfl

theorem exec_runStop (mode : s.mode.running = true) (stop : Stop) : exec (.runStop stop) s = .next (s.takeStop stop) := by
  change execRunStop _ s = _
  rw [execRunStop, if_pos mode]

end

/-- Settles O31: the stop by the run's state, and the moment it is kept for. -/
theorem runStopActsOnTheRun : Obligations.RunStopActsOnTheRun := by
  intro s l mode
  have now := exec_runStop_now mode l
  refine ⟨fun run => ?_, fun n => ⟨fun g engine lane early => ?_, fun late => ?_⟩, fun r run => ⟨?_, ?_, ?_, ?_, ?_⟩⟩
  · rw [now, State.runStop_idle run]
  · subst lane
    have due : g.boundary ≤ n := by rw [RunGrant.boundary_eq]; exact early
    rw [exec_runStop mode, State.takeStop, engine]
    exact congrArg Host.Outcome.next (if_pos ⟨rfl, due⟩)
  · rw [now, exec_runStop mode]
    obtain acts | ⟨g, m, _, past, engine, lane, early, _⟩ := s.takeStop_cases ⟨l, some n⟩
    · rw [acts]
    · obtain rfl := Option.some.inj past
      rw [RunGrant.boundary_eq] at early
      exact absurd early (Nat.not_le_of_lt (late g engine lane))
  · intro queued
    rw [now, State.runStop_queued run queued]
    rfl
  · intro active
    rw [now, State.runStop_active run active]
    rfl
  · intro more unmarked
    rw [now, State.runStop_more run more, unmarked]
    rfl
  · intro more marked
    rw [now, State.runStop_more run more, if_pos marked]
  · intro final
    rw [now, State.runStop_final run final]

/-! ### LANE_STATUS (R115) -/

section

variable {s : State} {l : LaneId} {body : List Byte}

/-- With its request taken off a lane has the head of its FIFO less, and nothing else. -/
theorem State.afterLaneTaking_lane (s : State) (l : LaneId) :
    (s.afterLaneTaking l).lanes[l] =
      { s.lanes[l] with link := { s.lanes[l].link with fifo := s.lanes[l].link.fifo.tail } } := State.setLane_same s l _

theorem exec_laneStatus (takes : LaneTakes s l kindLaneStatus body) :
    exec (.laneStatus l) s = .next ((s.afterLaneTaking l).answerLaneStatus l body) :=
  takes.take (fun k => k == kindLaneStatus) (beq_self_eq_true _)

end

/-- Settles O30: the report is read from the lane as the request leaves it, which differs in the FIFO only. -/
theorem laneStatusReportsTheLane : Obligations.LaneStatusReportsTheLane := by
  intro s l takes
  have report : (s.afterLaneTaking l).lanes[l].report (s.afterLaneTaking l).mode = s.lanes[l].report s.mode := by
    rw [State.afterLaneTaking_lane]
    rfl
  rw [exec_laneStatus takes, State.answerLaneStatus]
  simp only [readNothing]
  rw [State.reply_afterLaneTaking, report]
  rfl

/-! ### RUN (R106 to R108) -/

/-- A lane written back as it is. -/
theorem State.setLane_self (s : State) (l : LaneId) : s.setLane l s.lanes[l] = s := by
  simp [State.setLane]

/-- A lane that joins alone receives the engine, if it is IDLE, or waits (R108, R124 to R126). -/
theorem State.join_lane {s : State} {l : LaneId} {r : Run} (run : s.lanes[l].run = some r) (queued : r.state = .queued)
    (nobody : s.engine = .idle → s.requesters = 0) : s.join (.lane l) = s.afterLaneJoin l r := by
  have waits (q : Requester) := s.waits_enrol (.lane l) q
  have bit : (Requester.lane l).bit = BitVec.twoPow 5 l.val := rfl
  have same : s.lanes.set l { s.lanes[l] with run := some { r with state := .queued } } = s.lanes := by
    have asIs : ({ s.lanes[l] with run := some { r with state := .queued } } : Lane) = s.lanes[l] := by
      rw [← queued, ← run]
    rw [asIs]
    exact congrArg State.lanes (s.setLane_self l)
  cases engine : s.engine with
  | idle =>
    have free := nobody engine
    have others := State.requesters_eq_zero.1 free
    have alone {m : LaneId} (hm : (s.enrol (.lane l)).waits (.lane m) = true) : m = l := by
      rw [waits, others] at hm
      simpa using hm
    have chosen : (s.enrol (.lane l)).choice = some (.lane l) := by
      refine State.choice_lane (cls := s.lanes[l].cls) ?_ ?_ rfl (fun low m hm => ?_) fun m hm _ => ?_
      · rw [waits, others]; rfl
      · rw [waits]; simp
      · rw [alone hm]; exact low
      · rw [alone hm]
    rw [State.join_of_idle engine, State.choose, chosen]
    refine (State.beginRunGrant_eq (s := s.enrol (.lane l)) run).trans ?_
    have withdrawn : ∀ m : LaneId, ((0 : BitVec 5) ||| BitVec.twoPow 5 m.val) &&& ~~~(BitVec.twoPow 5 m.val) = 0 := by decide
    simp only [State.afterLaneJoin, engine, State.enrol, free, bit, withdrawn]
    rfl
  | custody g =>
    rw [State.join_of_busy (by rw [engine]; nofun)]
    simp only [State.afterLaneJoin, State.enrol, engine, same, bit]
  | lane g =>
    rw [State.join_of_busy (by rw [engine]; nofun)]
    simp only [State.afterLaneJoin, State.enrol, engine, same, bit]

/-- Whether it waited before, and whether it had a run, makes no difference to a lane that joins with a new run. -/
theorem State.afterLaneJoin_setRun (s : State) (l : LaneId) (r : Run) (nobody : s.engine = .idle → s.requesters = 0) :
    ((s.withdraw (.lane l)).setLane l { s.lanes[l] with run := some r }).afterLaneJoin l r = s.afterLaneJoin l r := by
  have own := (s.withdraw (.lane l)).setLane_same l { s.lanes[l] with run := some r }
  have lanes (x : Lane) :
      ((s.withdraw (.lane l)).setLane l { s.lanes[l] with run := some r }).lanes.set l x = s.lanes.set l x :=
    congrArg State.lanes (State.setLane_setLane (s.withdraw (.lane l)) l _ x)
  have engine : ((s.withdraw (.lane l)).setLane l { s.lanes[l] with run := some r }).engine = s.engine := rfl
  have enrolled (x : BitVec 5) :
      x &&& ~~~(BitVec.twoPow 5 l.val) ||| BitVec.twoPow 5 l.val = x ||| BitVec.twoPow 5 l.val := by
    ext i
    simp only [BitVec.getElem_or, BitVec.getElem_and, BitVec.getElem_not]
    cases (BitVec.twoPow 5 l.val)[i] <;> simp
  unfold State.afterLaneJoin
  rw [engine]
  split
  · rename_i idle
    have free : s.requesters &&& ~~~(BitVec.twoPow 5 l.val) = s.requesters := by
      rw [nobody idle]
      exact BitVec.zero_and
    simp only [lanes, own]
    simp only [State.setLane, State.withdraw, Requester.bit, Requester.bitIndex, free]
    rfl
  · simp only [lanes, own]
    simp only [State.setLane, State.withdraw, Requester.bit, Requester.bitIndex, enrolled]
  · simp only [lanes, own]
    simp only [State.setLane, State.withdraw, Requester.bit, Requester.bitIndex, enrolled]

section

variable {s : State} {l : LaneId} {body : List Byte}

theorem exec_run (takes : LaneTakes s l kindRun body) :
    exec (.run l) s = .next ((s.afterLaneTaking l).answerRun l body) :=
  takes.take (fun k => k == kindRun) (beq_self_eq_true _)

/-- The acceptance checks read nothing that the taking changes (R106). -/
theorem State.acceptance_afterLaneTaking (s : State) (l : LaneId) (body : List Byte) :
    (s.afterLaneTaking l).acceptance l body = s.acceptance l body := by
  unfold State.acceptance
  rw [State.afterLaneTaking_lane]
  rfl

theorem exec_run_refused {c : Code} (takes : LaneTakes s l kindRun body) (h : s.acceptance l body = .refused c) :
    exec (.run l) s = .next (s.afterLaneReply l (.refused kindRun c [body.headD 0])) := by
  rw [exec_run takes, State.answerRun, State.acceptance_afterLaneTaking, h, ← State.reply_afterLaneTaking]
  rfl

theorem exec_run_accepted {r : Run} (takes : LaneTakes s l kindRun body) (nobody : s.engine = .idle → s.requesters = 0)
    (h : s.acceptance l body = .accepted r) (queued : r.state = .queued) :
    exec (.run l) s = .next ((s.popFrame (.lane l)).afterLaneJoin l r) := by
  have free (idle : s.engine = .idle) : (s.afterLaneTaking l).requesters = 0 := State.requesters_withdraw (nobody idle) _
  have run := (s.afterLaneTaking l).setLane_same l { (s.afterLaneTaking l).lanes[l] with run := some r }
  rw [exec_run takes, State.answerRun, State.acceptance_afterLaneTaking, h]
  exact congrArg Host.Outcome.next
    ((State.join_lane (congrArg Lane.run run) queued free).trans
      (State.afterLaneJoin_setRun (s.popFrame (.lane l)) l r nobody))

theorem State.acceptance_unserved {c : Code} (refuses : s.serviceRefusal = some c) :
    s.acceptance l body = .refused c := by
  simp only [State.acceptance, refuses]

variable (mode : s.mode = .operational)
include mode

theorem State.acceptance_unbound (unbound : s.lanes[l].transport = none) : s.acceptance l body = .refused .notBound := by
  simp only [State.acceptance, State.serviceRefusal_of_operational mode, unbound, Option.isNone_none, if_true]

variable (bound : s.lanes[l].transport.isSome = true)
include bound

theorem State.acceptance_malformed (form : readRun body = none) : s.acceptance l body = .refused .malformed := by
  simp only [State.acceptance, State.serviceRefusal_of_operational mode, Option.isNone_eq_false_iff.2 bound,
    Bool.false_eq_true, if_false, form]

variable {f : RunForm} (form : readRun body = some f)
include form

theorem State.acceptance_absent (absent : s.warrant f.warrant.toNat = none) :
    s.acceptance l body = .refused .noSuchWarrant := by
  simp only [State.acceptance, State.serviceRefusal_of_operational mode, Option.isNone_eq_false_iff.2 bound,
    Bool.false_eq_true, if_false, form, absent]

/-- The checks that read the warrant, in R106's order. -/
theorem State.acceptance_found {w : Warrant} (found : s.warrant f.warrant.toNat = some w) :
    s.acceptance l body =
      if inLaneSet w.lanes l = false then .refused .laneNotPermitted
      else if inIssuerSet s.lanes[l].issuers w.issuer = false then .refused .issuerNotPermitted
      else if w.state ≠ .opened then .refused .warrantNotOpen
      else .accepted (f.record w) := by
  simp only [State.acceptance, State.serviceRefusal_of_operational mode, Option.isNone_eq_false_iff.2 bound,
    Bool.false_eq_true, if_false, form, found, Bool.not_eq_true']

end

/-- Settles O29: the acceptance checks one by one, and the join of the run they accept. -/
theorem runIsAcceptedOrRefused : Obligations.RunIsAcceptedOrRefused := by
  intro s l body takes nobody
  dsimp only
  refine ⟨fun mode => ?_, fun mode => ?_, fun mode unbound => ?_, fun mode bound foreign => ?_,
    fun f mode bound some few short same => ?_⟩
  · exact exec_run_refused takes (State.acceptance_unserved (State.serviceRefusal_of_uninitialised mode))
  · exact exec_run_refused takes (State.acceptance_unserved (State.serviceRefusal_of_locked mode))
  · exact exec_run_refused takes (State.acceptance_unbound mode unbound)
  · refine exec_run_refused takes (State.acceptance_malformed mode bound (Option.eq_none_iff_forall_ne_some.2 fun f hf => ?_))
    obtain ⟨same, some, few, short⟩ := readRun_eq_some.1 hf
    exact foreign f some few short same
  · have form := readRun_eq_some.2 ⟨same, some, few, short⟩
    refine ⟨fun absent => exec_run_refused takes (State.acceptance_absent mode bound form absent), fun w found => ?_⟩
    have checks := State.acceptance_found mode bound form found
    split_ifs at checks ⊢
    · exact exec_run_refused takes checks
    · exact exec_run_refused takes checks
    · exact exec_run_refused takes checks
    · exact exec_run_accepted takes nobody checks rfl

end Sys2Proof.Machine
end

section
/-! PROOFS. A lane's reply consumed, and what the lane takes up next: LanesConsumeReplies (R108, R111, R166). -/

namespace Sys2Proof.Machine

/-! ### The transfer -/

theorem Collect.shifted_of_whole {c : Collect} {r : Reply} {clocked : Nat} (whole : c.cut = false) (reply : c.reply = some r)
    (long : r.bytes.length ≤ clocked) (cut : Nat) :
    c.shifted clocked cut = 0 :: r.bytes ++ List.replicate (clocked - r.bytes.length) 0 := by
  simp only [Collect.shifted, whole, Bool.false_eq_true, if_false, Collect.frame, reply, padded,
    List.take_of_length_le long]
  rfl

theorem Collect.consumed_of_whole {c : Collect} {r : Reply} {clocked : Nat} (whole : c.cut = false) (reply : c.reply = some r)
    (long : r.bytes.length ≤ clocked) : c.consumed clocked = some r := by
  simp only [Collect.consumed, reply, whole, long, decide_true, Bool.not_false, Bool.and_self, if_true]

/-- The lane's link once its reply is consumed (R166). -/
def Lane.consumed (x : Lane) (sdo : List Byte) : Lane :=
  { x with link := { x.link with buffer := none, collect := none, sdo := sdo } }

/-- A consumed RUN_RESULT moves the run on by the table of R111. -/
theorem State.afterCollect_runResult (s : State) (l : LaneId) (y : RunResult) (sdo : List Byte) :
    s.afterCollect l (.runResult y) sdo = s.setLane l (s.lanes[l].consumed sdo).moveOn := by
  have moved (x : Lane) : x.moveOn =
      match x.run with
      | none => x
      | some run =>
        match run.state, run.stopMark, run.endReason with
        | .drainingMore, false, _ => { x with run := some { run with state := .queued } }
        | .drainingMore, true, _ => { x with run := none, last := some ⟨run.tag, run.next, .stopped⟩ }
        | .drainingFinal, _, some reason => { x with run := none, last := some ⟨run.tag, run.next, reason⟩ }
        | .drainingFinal, _, none => x
        | .queued, _, _ => x
        | .active, _, _ => x := by
    unfold Lane.moveOn
    cases x.run with
    | none => rfl
    | some run =>
      dsimp only
      cases run.state with
      | queued => rfl
      | active => rfl
      | drainingMore => cases run.stopMark <;> rfl
      | drainingFinal => cases run.endReason <;> rfl
  rw [moved]
  rfl

theorem State.handOn_lane (s : State) (l : LaneId) (r : Reply) (sdo : List Byte) :
    (s.setLane l (s.lanes[l].consumed sdo)).handOn (.lane l) r = (s.afterCollect l r sdo).considerHead l := by
  cases r with
  | runResult y =>
    have own := s.setLane_same l (s.lanes[l].consumed sdo)
    simp only [State.handOn]
    rw [own, State.setLane_setLane, State.afterCollect_runResult]
  | ok | refused | laneStatus | deviceStatus | tamperNotice => rfl

theorem exec_collectEnd_lane {s : State} {l : LaneId} {c : Collect} {r : Reply} {clocked : Nat}
    (collect : s.lanes[l].link.collect = some c) (whole : c.cut = false) (reply : c.reply = some r)
    (long : r.bytes.length ≤ clocked) (cut : Nat) :
    exec (.collectEnd (.lane l) clocked cut) s =
      .next ((s.afterCollect l r (0 :: r.bytes ++ List.replicate (clocked - r.bytes.length) 0)).considerHead l) := by
  rw [← State.handOn_lane, ← Collect.shifted_of_whole whole reply long cut]
  change execCollectEnd _ _ _ s = _
  have now : (s.link (.lane l)).collect = some c := collect
  simp only [execCollectEnd, now, Collect.consumed_of_whole whole reply long]
  rfl

/-! ### What the lane takes up next (R108, R111) -/

/-- A lane is ready for its head exactly where the statements say that it takes it (R105). -/
theorem laneTakes_iff {s : State} {l : LaneId} {f : Frame} {rest : List Frame} (fifo : s.lanes[l].link.fifo = f :: rest) :
    LaneTakes s l f.kind f.body ↔ s.laneReady l f.kind = true := by
  have head : s.lanes[l].link.fifo.head? = some ⟨f.kind, f.body⟩ := by rw [fifo]; rfl
  have admits : s.lanes[l].admitsKind f.kind = true ↔
      s.lanes[l].run = none ∨ (f.kind ≠ kindRun ∧ ∃ r, s.lanes[l].run = some r ∧ r.state = .queued) := by
    unfold Lane.admitsKind
    cases s.lanes[l].run <;> simp
  simp only [State.laneReady, Bool.and_eq_true, Option.isNone_iff_eq_none, admits]
  exact ⟨fun h => ⟨⟨h.service, h.empty⟩, h.run⟩, fun ⟨⟨service, empty⟩, run⟩ => ⟨service, empty, head, run⟩⟩

theorem exec_laneCommand {s : State} {l : LaneId} {kind : Byte} {body : List Byte} (takes : LaneTakes s l kind body) :
    exec (laneCommand l kind) s = .next (s.serveLane l ⟨kind, body⟩) := by
  unfold laneCommand
  split_ifs with run laneStatus warrantStatus
  · exact takes.take (fun k => k == kindRun) (beq_iff_eq.2 run)
  · exact takes.take (fun k => k == kindLaneStatus) (beq_iff_eq.2 laneStatus)
  · exact takes.take (fun k => k == kindWarrantStatus) (beq_iff_eq.2 warrantStatus)
  · refine takes.take (fun k => !laneKinds.contains k) ?_
    simp [laneKinds, run, laneStatus, warrantStatus]

/-- A lane that takes no request enters the pending set again if its run is QUEUED. -/
theorem State.rejoin_eq {s : State} (l : LaneId) (nobody : s.engine = .idle → s.requesters = 0) :
    s.rejoin l =
      match s.lanes[l].run with
      | some run => if run.state = .queued then s.afterLaneJoin l run else s
      | none => s := by
  unfold State.rejoin
  cases run : s.lanes[l].run with
  | none => rfl
  | some r =>
    by_cases queued : r.state = .queued
    · simp only [queued, if_true]
      exact State.join_lane run queued nobody
    · simp only [queued, if_false]

/-- Settles O6: the transfer's end hands the lane on to its next request, or to the engine. -/
theorem lanesConsumeReplies : Obligations.LanesConsumeReplies := by
  intro s l c r clocked cut collect whole reply long nobody
  dsimp only
  rw [exec_collectEnd_lane collect whole reply long cut, State.considerHead_eq]
  generalize ht : s.afterCollect l r (0 :: r.bytes ++ List.replicate (clocked - r.bytes.length) 0) = t
  have nobody' : t.engine = .idle → t.requesters = 0 := by
    rw [← ht]
    exact nobody
  refine ⟨fun kind body takes => ?_, fun rests => ?_⟩
  · rw [exec_laneCommand takes]
    cases fifo : t.lanes[l].link.fifo with
    | nil =>
      have head := takes.head
      rw [fifo] at head
      cases head
    | cons f rest =>
      have head := takes.head
      rw [fifo] at head
      obtain rfl := Option.some.inj head
      exact congrArg Host.Outcome.next (if_pos ((laneTakes_iff fifo).1 takes))
  · have rejoined := State.rejoin_eq l nobody'
    cases fifo : t.lanes[l].link.fifo with
    | nil => exact congrArg Host.Outcome.next rejoined
    | cons f rest =>
      have unready : ¬ t.laneReady l f.kind = true := fun ready => rests f.kind f.body ((laneTakes_iff fifo).2 ready)
      exact congrArg Host.Outcome.next ((if_neg unready).trans rejoined)

end Sys2Proof.Machine
end

section
/-! PROOFS. The lane bindings: LaneUnbindFreesTheLane, LaneBindReplacesTheBinding (R97 to R99). -/

namespace Sys2Proof.Machine

/-! ### The fields of a binding (R171) -/

theorem readLane_u8 (l : LaneId) : readLane (u8 l.val) = some l := by
  have byte : (u8 l.val).toNat = l.val := toNat_u8 (Nat.lt_trans l.isLt (by decide))
  simp [readLane, byte]

theorem readLane_eq_none {b : Byte} : readLane b = none ↔ 3 < b.toNat := by
  unfold readLane
  split <;> simp <;> omega

theorem readPriority_byte (c : Priority) : readPriority c.byte = some c := by cases c <;> rfl

theorem readPriority_eq_none {b : Byte} : readPriority b = none ↔ b ≠ 1 ∧ b ≠ 2 := by
  unfold readPriority
  split_ifs with high low
  · exact iff_of_false nofun fun ⟨notHigh, _⟩ => notHigh high
  · exact iff_of_false nofun fun ⟨_, notLow⟩ => notLow low
  · exact iff_of_true rfl ⟨high, low⟩

theorem State.afterTaking_lanes (s : State) : s.afterTaking.lanes = s.lanes := rfl

/-! ### LANE_UNBIND (R99) -/

/-- Settles O27: the checks by the order of R99, and the RUN that finds the lane UNBOUND. -/
theorem laneUnbindFreesTheLane : Obligations.LaneUnbindFreesTheLane := by
  refine ⟨fun s lane takes => ?_, fun s l body takes mode unbound =>
    exec_run_refused takes (State.acceptance_unbound mode unbound)⟩
  have serves : exec .laneUnbind s = _ := takes.serves (form := readByte) rfl
  refine ⟨fun mode => ?_, fun mode => ?_, fun mode outside => ?_, fun l mode named => ?_⟩
  · rw [serves, State.served_refuses (State.serviceRefusal_of_uninitialised mode)]
  · rw [serves, State.served_refuses (State.serviceRefusal_of_locked mode)]
  · rw [serves, State.served_passes mode, readLane_eq_none.2 outside]
    rfl
  · subst named
    rw [serves, State.served_passes mode, readLane_u8]
    dsimp only
    rw [State.afterTaking_lanes]
    refine ⟨fun unbound => ?_, fun i bound => ⟨fun busy => ?_, fun free => ?_⟩⟩
    · rw [unbound]
      rfl
    · rw [bound, busy]
      rfl
    · rw [bound, free]
      rfl

/-! ### LANE_BIND (R97, R98) -/

theorem readLaneBind_body (lane slot cls : Byte) (issuers : IssuerSet) (initial : Block) :
    readLaneBind ([lane, slot, cls] ++ be 4 issuers.toNat ++ blockBytes initial) =
      some ⟨lane, slot, cls, issuers, initial⟩ := by
  have word : BitVec.ofNat 32 (ofBe (be 4 issuers.toNat)) = issuers := ofNat_ofBe_be 4 issuers
  have form (i0 i1 i2 i3 : Byte) : readLaneBind (lane :: slot :: cls :: i0 :: i1 :: i2 :: i3 :: blockBytes initial) =
      some ⟨lane, slot, cls, BitVec.ofNat 32 (ofBe [i0, i1, i2, i3]), initial⟩ := by
    simp only [readLaneBind, length_blockBytes, if_true, readBlock_blockBytes]
  exact (form _ _ _ _).trans (congrArg (fun w => some (BindForm.mk lane slot cls w initial)) word)

theorem issuerSetOk_iff {set : IssuerSet} :
    issuerSetOk set = true ↔ set ≠ 0 ∧ set.getLsbD 0 = false ∧ set.getLsbD 31 = false := by
  simp only [issuerSetOk, Bool.and_eq_true, bne_iff_ne, Bool.not_eq_true', and_assoc]

/-- A binding is out of range as soon as one of its fields is (R97). -/
theorem BindForm.binding_eq_none {f : BindForm}
    (outside : 3 < f.lane.toNat ∨ 47 < f.slot.toNat ∨ (f.cls ≠ 1 ∧ f.cls ≠ 2) ∨ f.issuers = 0 ∨
      f.issuers.getLsbD 0 = true ∨ f.issuers.getLsbD 31 = true) : f.binding = none := by
  rw [← readLane_eq_none, ← readSlot_eq_none, ← readPriority_eq_none] at outside
  unfold BindForm.binding
  obtain lane | slot | cls | set := outside
  · rw [lane]
  · rw [slot]
    cases readLane f.lane <;> rfl
  · rw [cls]
    cases readLane f.lane <;> cases readSlot f.slot <;> rfl
  · have unfit : ¬ issuerSetOk f.issuers = true := fun ok => by
      obtain ⟨some, zero, last⟩ := issuerSetOk_iff.1 ok
      simp only [some, zero, last, Bool.false_eq_true, or_self] at set
    split
    · exact if_neg unfit
    · rfl

theorem BindForm.binding_eq_some (l : LaneId) (i : SlotId) (c : Priority) {issuers : IssuerSet} (initial : Block)
    (some : issuers ≠ 0) (zero : issuers.getLsbD 0 = false) (last : issuers.getLsbD 31 = false) :
    BindForm.binding ⟨u8 l.val, u8 i.val, c.byte, issuers, initial⟩ = .some ⟨l, i, c, issuers, initial⟩ := by
  have set : issuerSetOk issuers = true := issuerSetOk_iff.2 ⟨some, zero, last⟩
  simp only [BindForm.binding, readLane_u8, readSlot_u8, readPriority_byte, set, if_true]

/-! ### The lookup of a transport slot (R11, R97) -/

section

variable {sl : Slot} {a : Attributes} {x : Contents}

theorem Slot.transportRefusal_of_inactive (inactive : sl.isActive = false) : sl.transportRefusal = some .slotState := by
  unfold Slot.isActive at inactive
  unfold Slot.transportRefusal
  cases body : sl.body with
  | active => rw [body] at inactive; cases inactive
  | empty | assembling | faulty => rfl

theorem Slot.transportRefusal_of_derivation (body : sl.body = .active a x) (kind : a.kind ≠ .transport) :
    sl.transportRefusal = some .slotKind := by
  simp only [Slot.transportRefusal, body]
  cases derivation : a.kind with
  | transport => exact absurd derivation kind
  | derivation => rfl

theorem Slot.transportRefusal_of_transport (body : sl.body = .active a x) (kind : a.kind = .transport) :
    sl.transportRefusal = none := by
  simp only [Slot.transportRefusal, body, kind]

theorem Slot.check_of_active (body : sl.body = .active a x) : sl.check = x.check := by
  simp only [Slot.check, body]

end

/-- Settles O26: the checks by the order of R97, and the one write of R98. -/
theorem laneBindReplacesTheBinding : Obligations.LaneBindReplacesTheBinding := by
  intro s lane slot cls issuers initial takes
  have serves : exec .laneBind s = _ := takes.serves (form := readLaneBind) (readLaneBind_body lane slot cls issuers initial)
  refine ⟨fun mode => ?_, fun mode => ?_, fun mode outside => ?_, fun l i c mode hl hi hc some zero last => ?_⟩
  · rw [serves, State.served_refuses (State.serviceRefusal_of_uninitialised mode)]
  · rw [serves, State.served_refuses (State.serviceRefusal_of_locked mode)]
  · rw [serves, State.served_passes mode, BindForm.binding_eq_none outside]
    rfl
  · subst hl hi hc
    rw [serves, State.served_passes mode, BindForm.binding_eq_some l i c initial some zero last]
    dsimp only
    rw [State.afterTaking_lanes]
    have slots : s.afterTaking.slots = s.slots := rfl
    refine ⟨fun busy => ?_, fun free inactive => ?_, fun a x free body => ⟨fun kind => ?_, fun kind => ?_⟩⟩
    · rw [busy]
      rfl
    · rw [free, slots, Slot.transportRefusal_of_inactive inactive]
      rfl
    · rw [free, slots, Slot.transportRefusal_of_derivation body kind]
      rfl
    · rw [if_neg (by rw [free]; nofun), slots, Slot.transportRefusal_of_transport body kind, Slot.check_of_active body]
      dsimp only
      by_cases same : s.lanes[l].transport = Option.some i
      · rw [State.moveRefs, if_pos same, if_pos same]
        rfl
      · rw [State.moveRefs, if_neg same, if_neg same]
        cases s.lanes[l].transport <;> rfl

end Sys2Proof.Machine
end

section
/-! PROOFS. The reading of the whole part: DeviceStatusReportsThePart (R132, R149, R169). -/

namespace Sys2Proof.Machine

theorem flag_decide (p : Prop) [Decidable p] : flag (decide p) = if p then 1 else 0 := by simp [flag]

/-! ### What the report reads -/

section

variable {t : TamperInput}

theorem TamperInput.showsActive_of_off (off : t.detection = .off) : t.showsActive = false := by
  rw [TamperInput.showsActive, TamperInput.activeLevel, off]
  rfl

theorem TamperInput.showsActive_of_fall (fall : t.detection = .fall) : t.showsActive = decide (t.filtered = .low) := by
  rw [TamperInput.showsActive, TamperInput.activeLevel, fall]
  cases t.filtered <;> rfl

theorem TamperInput.showsActive_of_rise (rise : t.detection = .rise) : t.showsActive = decide (t.filtered = .high) := by
  rw [TamperInput.showsActive, TamperInput.activeLevel, rise]
  cases t.filtered <;> rfl

/-- An input that detects either edge shows its active level exactly off its quiet level (R135). -/
theorem TamperInput.showsActive_of_either (either : t.detection = .either) :
    t.showsActive = decide (t.filtered ≠ t.quiet) := by
  rw [TamperInput.showsActive, TamperInput.activeLevel, either]
  cases t.filtered <;> cases t.quiet <;> rfl

end

/-- In service the TAMPER output is driven, and it is active in LOCKED or with a cause (R145). -/
theorem State.tamperOutput_of_inService {s : State} (service : s.mode.inService = true) :
    s.tamperOutput = some (decide (s.mode = .locked ∨ s.tamper.causes ≠ 0)) := by
  unfold State.tamperOutput
  cases mode : s.mode with
  | locked => rfl
  | uninitialised | operational => simp [bne, beq_eq_decide]
  | stopped | starting | erasing => rw [mode] at service; cases service

/-! ### The reply (R169) -/

/-- The reading is made with the request taken off, which leaves every field of it alone. -/
theorem exec_deviceStatus {s : State} (takes : CustodyTakes s kindDeviceStatus []) :
    exec .deviceStatus s = .next (s.afterReply (.deviceStatus s.deviceReport s.batteryLossFlag)) := by
  change execDeviceStatus s = _
  rw [execDeviceStatus, takes.take]
  rfl

/-- Settles O38: the reply is `State.deviceReport`, and its storage fields, inputs and derived flags are the statement's. -/
theorem deviceStatusReportsThePart : Obligations.DeviceStatusReportsThePart := by
  intro s takes generation pattern input lane
  have storage : s.storage.report =
      generation s.storage.current ++ generation s.storage.previous ++ pattern s.storage.current
        ++ pattern s.storage.previous := by
    rw [StorageUnit.report]
    cases s.storage.current <;> cases s.storage.previous <;> rfl
  have inputs : TamperInput.report = input := by
    funext t
    dsimp only [TamperInput.report, input]
    cases detection : t.detection with
    | off => rw [TamperInput.showsActive_of_off detection]; rfl
    | fall => rw [TamperInput.showsActive_of_fall detection]; rfl
    | rise => rw [TamperInput.showsActive_of_rise detection]; rfl
    | either => rw [TamperInput.showsActive_of_either detection]; rfl
  have output : flag (s.tamperOutput == some true) = if s.mode = .locked ∨ s.tamper.causes ≠ 0 then 1 else 0 := by
    rw [State.tamperOutput_of_inService takes.service, ← flag_decide]
    congr 1
    simp
  have supply : flag s.belowThreshold = if s.vmain < thresholdMv s.tamper.threshold then 1 else 0 := flag_decide _
  rw [exec_deviceStatus takes, State.deviceReport, State.tamperReport, storage, inputs, output, supply]
  simp only [List.append_assoc]
  rfl

end Sys2Proof.Machine
end

section
/-! PROOFS. The writes of the overwrite passes: PassesOverwriteTheKeyStore (R142, R143). -/

namespace Sys2Proof.Machine

/-! ### The next write (R142) -/

/-- The passes write over the key store, and leave the rest of the part alone. -/
theorem State.overwriteNext_eq (s : State) :
    s.overwriteNext =
      { s with
        slots := s.overwriteNext.slots, storage := s.overwriteNext.storage
        passes := s.overwriteNext.passes, draws := s.overwriteNext.draws } := by
  unfold State.overwriteNext
  split <;> rfl

/-- While writes are left, the next one goes over the unit whose turn it is. -/
theorem State.overwriteNext_passes {s : State} (left : s.passes.written < 3 * unitCount) :
    s.overwriteNext.passes =
      { written := s.passes.written + 1
        units := s.passes.units.set (s.passes.written % unitCount) (some (passFill s.passes.written s.draws))
          (Nat.mod_lt _ (by decide)) } := by
  rw [State.overwriteNext, if_pos left]

/-- The third pass takes a value of the Random Source for each of its writes. -/
theorem State.overwriteNext_draws {s : State} (left : s.passes.written < 3 * unitCount) :
    s.overwriteNext.draws = if 2 * unitCount ≤ s.passes.written then s.draws + 1 else s.draws := by
  rw [State.overwriteNext, if_pos left]

theorem State.overwriteNext_done {s : State} (done : 3 * unitCount ≤ s.passes.written) : s.overwriteNext = s :=
  if_neg (Nat.not_lt.2 done)

theorem passFill_first {written : Nat} (first : written < 50) (draws : Nat) : passFill written draws = .zeros := by
  have pass : written / unitCount = 0 := Nat.div_eq_of_lt first
  rw [passFill, pass]
  rfl

theorem passFill_second {written : Nat} (first : 50 ≤ written) (second : written < 100) (draws : Nat) :
    passFill written draws = .ones := by
  have pass : written / unitCount = 1 := by change written / 50 = 1; omega
  rw [passFill, pass]
  rfl

theorem passFill_third {written : Nat} (second : 100 ≤ written) (third : written < 150) (draws : Nat) :
    passFill written draws = .random draws := by
  have pass : written / unitCount = 2 := by change written / 50 = 2; omega
  rw [passFill, pass]
  rfl

/-! ### The first writes of an erase -/

/-- What a unit holds after the first `n` writes of an erase that begins in `s`. -/
def State.unitAfter (s : State) (n : Nat) (u : Fin 50) : Option Fill :=
  if u.val + 100 < n then some (.random (s.draws + u.val))
  else if u.val + 50 < n then some .ones
  else if u.val < n then some .zeros
  else s.passes.units[u]

/-- The part after the first `n` writes of an erase that begins in `s`. -/
def State.overwritten (s : State) (n : Nat) : State :=
  { s with
    slots := Vector.ofFn fun i : SlotId => if i.val < n then Slot.fresh i .empty else s.slots[i]
    storage := if 48 < n then { current := none, previous := none } else s.storage
    passes := { written := n, units := Vector.ofFn (s.unitAfter n) }
    draws := s.draws + (n - 100) }

theorem State.overwritten_mode (s : State) {n : Nat} : (s.overwritten n).mode = s.mode := by simp only [State.overwritten]

theorem State.overwritten_pending (s : State) {n : Nat} : (s.overwritten n).pending = s.pending := by
  simp only [State.overwritten]

theorem State.overwritten_zero {s : State} (begins : s.passes.written = 0) : s.overwritten 0 = s := by
  have slots : (s.overwritten 0).slots = s.slots := by simp [State.overwritten]
  have unit : s.unitAfter 0 = fun u => s.passes.units[u] := rfl
  have units : (s.overwritten 0).passes.units = s.passes.units := by simp [State.overwritten, unit]
  calc s.overwritten 0
    _ = { s with slots := (s.overwritten 0).slots, passes := ⟨0, (s.overwritten 0).passes.units⟩ } := rfl
    _ = s := by rw [slots, units, ← begins]

/-- The write whose turn it is fills its unit, and leaves the others as the writes before it left them. -/
theorem State.unitAfter_succ (s : State) {n : Nat} (left : n < 150) (u : Fin 50) :
    s.unitAfter (n + 1) u = if n % 50 = u.val then some (passFill n (s.draws + (n - 100))) else s.unitAfter n u := by
  unfold State.unitAfter
  by_cases turn : n % 50 = u.val
  · rw [if_pos turn]
    obtain first | ⟨first, second⟩ | second : n < 50 ∨ (50 ≤ n ∧ n < 100) ∨ 100 ≤ n := by omega
    · rw [passFill_first first, if_neg (by omega), if_neg (by omega), if_pos (by omega)]
    · rw [passFill_second first second, if_neg (by omega), if_pos (by omega)]
    · rw [passFill_third second left, if_pos (by omega), show n - 100 = u.val by omega]
  · rw [if_neg turn]
    simp only [show u.val + 100 < n + 1 ↔ u.val + 100 < n by omega, show u.val + 50 < n + 1 ↔ u.val + 50 < n by omega,
      show u.val < n + 1 ↔ u.val < n by omega]

theorem Passes.eq_of_fields {p q : Passes} (written : p.written = q.written) (units : p.units = q.units) : p = q := by
  cases p; cases q; cases written; cases units; rfl

/-- A unit below the pass's reach is reached by the next write exactly when it is its turn. -/
theorem lt_succ_iff_turn {n u : Nat} (left : n < 150) (unit : u < 50) : u < n + 1 ↔ (n < 150 ∧ n % 50 = u) ∨ u < n := by
  omega

section

variable (s : State) {n : Nat} (left : n < 150)
include left

theorem State.overwriteNext_overwritten_slots :
    (s.overwritten n).overwriteNext.slots = (s.overwritten (n + 1)).slots := by
  ext i hi : 1
  have reach := lt_succ_iff_turn left (u := i) (by omega)
  refine (State.overwriteNext_slot (s.overwritten n) ⟨i, hi⟩).trans ?_
  simp only [State.overwritten, ofFn_get, Vector.getElem_ofFn, reach, ite_or]
  rfl

theorem State.overwriteNext_overwritten_storage :
    (s.overwritten n).overwriteNext.storage = (s.overwritten (n + 1)).storage := by
  have reach := lt_succ_iff_turn left (u := 48) (by decide)
  rw [State.overwriteNext_storage]
  simp only [State.overwritten, reach, ite_or]
  rfl

theorem State.overwriteNext_overwritten_draws :
    (s.overwritten n).overwriteNext.draws = (s.overwritten (n + 1)).draws := by
  rw [State.overwriteNext_draws left]
  change (if 100 ≤ n then s.draws + (n - 100) + 1 else s.draws + (n - 100)) = s.draws + (n + 1 - 100)
  split <;> omega

theorem State.overwriteNext_overwritten_units :
    (s.overwritten n).overwriteNext.passes.units = (s.overwritten (n + 1)).passes.units := by
  rw [State.overwriteNext_passes left]
  ext u hu : 1
  rw [Vector.getElem_set]
  simp only [State.overwritten, Vector.getElem_ofFn, s.unitAfter_succ left]

theorem State.overwriteNext_overwritten_passes :
    (s.overwritten n).overwriteNext.passes = (s.overwritten (n + 1)).passes := by
  have written : (s.overwritten n).overwriteNext.passes.written = n + 1 := by rw [State.overwriteNext_passes left]; rfl
  exact Passes.eq_of_fields written (s.overwriteNext_overwritten_units left)

/-- The next write of an erase that has made `n` of them. -/
theorem State.overwriteNext_overwritten : (s.overwritten n).overwriteNext = s.overwritten (n + 1) := by
  rw [State.overwriteNext_eq, s.overwriteNext_overwritten_slots left, s.overwriteNext_overwritten_storage left,
    s.overwriteNext_overwritten_draws left, s.overwriteNext_overwritten_passes left]
  simp only [State.overwritten]

end

/-- With no command waiting, each step of an erase makes one write. -/
theorem unattended_overwritten {s : State} (erasing : s.mode = .erasing) (idle : s.pending = []) :
    ∀ m k : Nat, k + m ≤ 150 → unattended m (s.overwritten k) = .next (s.overwritten (k + m))
  | 0, _, _ => rfl
  | m + 1, k, room => by
    have write : step (s.overwritten k) = .next (s.overwritten (k + 1)) := by
      rw [step_of_nil (s.overwritten_pending.trans idle), State.tick_erasing (s.overwritten_mode.trans erasing),
        s.overwriteNext_overwritten (by omega)]
    rw [unattended, write]
    exact (unattended_overwritten erasing idle m (k + 1) (by omega)).trans (by rw [Nat.add_right_comm, Nat.add_assoc])

/-- Settles O60: from the start of an erase each unattended step makes the next write, until there is none left. -/
theorem passesOverwriteTheKeyStore : Obligations.PassesOverwriteTheKeyStore := by
  refine ⟨fun s n erasing idle begins room => ?_, fun s erasing idle done => ?_, fun n k => ⟨rfl, rfl, rfl⟩⟩
  · have writes := unattended_overwritten erasing idle n 0 (by omega)
    rw [State.overwritten_zero begins, Nat.zero_add] at writes
    exact writes
  · rw [step_of_nil idle, State.tick_erasing erasing, State.overwriteNext_done done]

end Sys2Proof.Machine
end

section
/-! PROOFS. The tamper inputs, the tamper events and the supply monitor: TamperInputsAreFiltered, TamperEventsAreRecorded,
SupplyMonitorTimesTheSupply (R134 to R142, R145). -/

namespace Sys2Proof.Machine

/-! ### Taking an event (R138 to R140) -/

theorem Tamper.record_eq_noted (t : Tamper) (x : Source) : t.record x = t.noted x := by
  rw [Tamper.record, Tamper.noted, saturate_eq_min]

theorem State.custodyReady_iff {s : State} : s.custodyReady = true ↔
    s.mode.inService = true ∧ s.custody.link.buffer = none ∧ s.custody.process = none := by
  simp only [State.custodyReady, Bool.and_eq_true, Option.isNone_iff_eq_none, and_assoc]

section

variable {s : State} (x : Source)

theorem State.tamperEvent_record :
    s.tamperEvent x .record = { s with tamper := s.tamper.noted x }.notice := by
  rw [← Tamper.record_eq_noted]
  rfl

theorem State.tamperEvent_erase :
    s.tamperEvent x .erase = { s with tamper := s.tamper.noted x }.orderErase := by
  rw [← Tamper.record_eq_noted]
  rfl

theorem State.orderErase_of_inService (service : s.mode.inService = true) : s.orderErase = s.afterErase := by
  unfold State.orderErase
  cases mode : s.mode with
  | uninitialised | operational | locked => exact s.eraseBegin_eq
  | stopped | starting | erasing => rw [mode] at service; cases service

theorem State.orderErase_of_erasing (erasing : s.mode = .erasing) : s.orderErase = s := by
  rw [State.orderErase, erasing]

theorem State.orderErase_of_waiting (waiting : s.mode = .stopped ∨ ∃ p, s.mode = .starting p) :
    s.orderErase = { s with tamper := { s.tamper with erasePending := true } } := by
  obtain stopped | ⟨p, starting⟩ := waiting
  · rw [State.orderErase, stopped]
  · rw [State.orderErase, starting]

/-- An event does not take the part out of a clearing (R140). -/
theorem State.tamperEvent_clearing (response : Response) (clearing : s.mode = .starting .clearing) :
    (s.tamperEvent x response).mode = .starting .clearing := by
  cases response with
  | record => rw [State.tamperEvent_record, State.notice_mode, clearing]
  | erase =>
    have waits := State.orderErase_of_waiting (s := { s with tamper := s.tamper.noted x }) (.inr ⟨_, clearing⟩)
    rw [State.tamperEvent_erase, waits]
    exact clearing

end

/-- The TAMPER output where the cause set decides it (R145). -/
theorem State.tamperOutput_of_causes {s : State} (decided : s.mode = .starting .clearing ∨ s.mode = .starting .sweep ∨
    s.mode = .uninitialised ∨ s.mode = .operational) : s.tamperOutput = some (decide (s.tamper.causes ≠ 0)) := by
  have active : (s.tamper.causes != 0) = decide (s.tamper.causes ≠ 0) := by simp [bne, beq_eq_decide]
  rw [← active]
  obtain mode | mode | mode | mode := decided <;> rw [State.tamperOutput, mode]

/-- Settles O40: the event by its response and the device state, the end of the passes, and the TAMPER output. -/
theorem tamperEventsAreRecorded : Obligations.TamperEventsAreRecorded := by
  refine ⟨?_, fun s erasing => if_pos erasing,
    fun s => ⟨fun stopped => ?_, fun active => ?_, State.tamperOutput_of_causes⟩⟩
  · intro s x t notice
    rw [State.tamperEvent_record, State.tamperEvent_erase]
    exact ⟨if_congr State.custodyReady_iff rfl rfl, State.orderErase_of_inService (s := t),
      State.orderErase_of_erasing (s := t), State.orderErase_of_waiting (s := t)⟩
  · rw [State.tamperOutput, stopped]
  · obtain mode | mode | mode := active <;> rw [State.tamperOutput, mode]

/-! ### The filter of an input (R134, R135) -/

/-- Input `i` with this filtered level and count; nothing else changes. -/
def State.withFilter (s : State) (i : InputId) (filtered : Level) (count : Nat) : State :=
  { s with
    tamper :=
      { s.tamper with inputs := s.tamper.inputs.set i { s.tamper.inputs[i] with filtered := filtered, count := count } } }

theorem TamperInput.admits_iff {t : TamperInput} {v : Level} : t.admits v = true ↔
    t.detection = .either ∨ (t.detection = .fall ∧ v = .low) ∨ (t.detection = .rise ∧ v = .high) := by
  unfold TamperInput.admits
  cases t.detection <;> simp

section

variable {s : State} {i : InputId} {v : Level}

/-- A sample at the filtered level. -/
theorem State.sampleInput_same (same : v = s.tamper.inputs[i].filtered) : s.sampleInput i v = s.withFilter i v 0 := by
  subst same
  simp only [State.sampleInput, TamperInput.sample, if_true, Bool.false_and]
  rfl

/-- A differing sample before the one that reaches the setting. -/
theorem State.sampleInput_counted (differs : v ≠ s.tamper.inputs[i].filtered)
    (few : s.tamper.inputs[i].count + 1 < s.tamper.inputs[i].filter.limit) :
    s.sampleInput i v = s.withFilter i s.tamper.inputs[i].filtered (s.tamper.inputs[i].count + 1) := by
  simp only [State.sampleInput, TamperInput.sample, if_neg differs, if_pos few, Bool.false_and]
  rfl

/-- The sample that reaches the setting confirms an edge. -/
theorem State.sampleInput_confirmed (differs : v ≠ s.tamper.inputs[i].filtered)
    (reached : s.tamper.inputs[i].filter.limit ≤ s.tamper.inputs[i].count + 1) :
    s.sampleInput i v =
      if s.tamper.inputs[i].admits v then (s.withFilter i v 0).tamperEvent (.input i) s.tamper.inputs[i].response
      else s.withFilter i v 0 := by
  simp only [State.sampleInput, TamperInput.sample, if_neg differs, if_neg (Nat.not_lt.2 reached), Bool.true_and]
  rfl

/-- A sample leaves the inputs watched or unwatched as they were. -/
theorem State.watching_sampleInput (watched : s.watching = true) : (s.sampleInput i v).watching = true := by
  obtain valid | clearing := s.watching_iff.1 watched
  · exact State.watching_of_marker (by rw [State.sampleInput_marker, valid])
  · refine (State.watching_iff _).2 (.inr ?_)
    unfold State.sampleInput
    dsimp only
    split
    · exact State.tamperEvent_clearing _ _ clearing
    · exact clearing

end

/-- Samples taken together are taken one after another (R134). -/
theorem exec_tamperInputEdge_cons (s : State) (i : InputId) (v : Level) (vs : List Level) :
    exec (.tamperInputEdge i (v :: vs)) s = runCommands [.tamperInputEdge i [v], .tamperInputEdge i vs] s := by
  by_cases watched : s.watching = true
  · have watched' := State.watching_sampleInput (i := i) (v := v) watched
    simp [runCommands, exec, execTamperInputEdge, watched, watched']
  · simp [runCommands, exec, execTamperInputEdge, watched]

/-- Settles O39: one sample is taken at a time, and the filter's three cases are those of R134. -/
theorem tamperInputsAreFiltered : Obligations.TamperInputsAreFiltered := by
  refine ⟨exec_tamperInputEdge_cons, ?_⟩
  intro s i v watched t limit become
  have setting : limit = t.filter.limit := by cases filter : t.filter <;> simp only [limit, filter, Filter.limit]
  have answer : exec (.tamperInputEdge i [v]) s = .next (s.sampleInput i v) := if_pos (s.watching_iff.2 watched)
  rw [answer, setting]
  refine ⟨fun same => ?_, fun differs few => ?_, fun differs reached => ?_⟩
  · rw [State.sampleInput_same same]
    rfl
  · rw [State.sampleInput_counted differs few]
    rfl
  · rw [State.sampleInput_confirmed differs reached]
    exact congrArg Host.Outcome.next (if_congr TamperInput.admits_iff rfl rfl)

/-! ### The supply monitor (R136, R157) -/

section

variable {s : State} {mv : Nat}

theorem State.monitoring_iff : s.monitoring = true ↔ s.mode.running = true ∧ s.watching = true := by
  rw [State.monitoring, Bool.and_eq_true]

theorem State.supplied_iff : s.supplied = true ↔ s.mode.running = true ∨ 2500 < s.vmain := by
  rw [State.supplied, Bool.or_eq_true, decide_eq_true_eq]
  rfl

theorem exec_supplyAboveThreshold (supplied : s.supplied = true) (above : thresholdMv s.tamper.threshold < mv) :
    exec (.supplyAboveThreshold mv) s =
      if s.monitoring then .next { s with vmain := mv, tamper := { s.tamper with armed := true, timer := false } }
      else .next { s with vmain := mv } :=
  if_pos (by rw [supplied, decide_eq_true above]; rfl)

theorem exec_supplyBelowThreshold (supplied : s.supplied = true) (running : 2500 ≤ mv)
    (below : mv < thresholdMv s.tamper.threshold) :
    exec (.supplyBelowThreshold mv) s =
      if s.monitoring then
        .next { s with vmain := mv, tamper := { s.tamper with timer := s.tamper.timer || s.tamper.armed } }
      else .next { s with vmain := mv } :=
  if_pos (by rw [supplied, decide_eq_true below, decide_eq_true (show stopLevel ≤ mv from running)]; rfl)

end

/-- Settles O41: the monitor works exactly while the logic runs, and each command does what R136 says of it. -/
theorem supplyMonitorTimesTheSupply : Obligations.SupplyMonitorTimesTheSupply := by
  refine ⟨fun s mv running watched => ?_, fun s mv stopped level => ?_, rfl⟩
  · have supplied := State.supplied_iff.2 (.inl running)
    have monitoring := State.monitoring_iff.2 ⟨running, s.watching_iff.2 watched⟩
    refine ⟨fun above => ?_, fun sound below => ?_, ?_⟩
    · rw [exec_supplyAboveThreshold supplied above, if_pos monitoring]
    · rw [exec_supplyBelowThreshold supplied sound below, if_pos monitoring]
    · change execSupplyTimerExpiry s = _
      rw [execSupplyTimerExpiry, monitoring, Bool.true_and]
      split <;> rfl
  · have supplied := State.supplied_iff.2 (.inr level)
    have idle : ¬ s.monitoring = true := fun works => by
      have running := (State.monitoring_iff.1 works).1
      rw [stopped] at running
      cases running
    refine ⟨fun above => ?_, fun sound below => ?_, ?_⟩
    · rw [exec_supplyAboveThreshold supplied above, if_neg idle]
    · rw [exec_supplyBelowThreshold supplied sound below, if_neg idle]
    · exact if_neg fun expires => idle (Bool.and_eq_true_iff.1 expires).1

end Sys2Proof.Machine
end

section
/-! PROOFS. The commands to the Tamper Monitor: TamperSetupReplacesTheSettings, TamperAckClearsTheCauses (R146, R147). -/

namespace Sys2Proof.Machine

/-! ### The settings in a body (R146, R171) -/

theorem readDetection_eq_some {b : Byte} {d : Detection} : readDetection b = some d ↔ b = d.byte := by
  constructor
  · unfold readDetection
    split_ifs <;> rintro ⟨⟩ <;> assumption
  · rintro rfl
    cases d <;> rfl

theorem readFilter_eq_some {b : Byte} {f : Filter} : readFilter b = some f ↔ b = f.byte := by
  constructor
  · unfold readFilter
    split_ifs <;> rintro ⟨⟩ <;> assumption
  · rintro rfl
    cases f <;> rfl

theorem readResponse_eq_some {b : Byte} {r : Response} : readResponse b = some r ↔ b = r.byte := by
  constructor
  · unfold readResponse
    split_ifs <;> rintro ⟨⟩ <;> assumption
  · rintro rfl
    cases r <;> rfl

theorem readThreshold_eq_some {b : Byte} {i : Fin 8} : readThreshold b = some i ↔ b = u8 i.val := by
  have byte : b = u8 i.val ↔ b.toNat = i.val :=
    ⟨fun h => by rw [h, toNat_u8 (Nat.lt_trans i.isLt (by decide))], fun h => by rw [← h, u8_toNat]⟩
  rw [byte]
  unfold readThreshold
  split
  · rw [Option.some.injEq, Fin.ext_iff]
  · rename_i outside
    exact iff_of_false nofun fun h => outside (h ▸ i.isLt)

/-- The settings of input `i` are the three bytes from `3 * i` on. -/
theorem readInputSettings_eq_some {body : List Byte} {i : InputId} {n : InputSettings} :
    readInputSettings body i = some n ↔
      body.getD (3 * i.val) 0 = n.detection.byte ∧ body.getD (3 * i.val + 1) 0 = n.filter.byte ∧
        body.getD (3 * i.val + 2) 0 = n.response.byte := by
  rw [← readDetection_eq_some, ← readFilter_eq_some, ← readResponse_eq_some]
  unfold readInputSettings
  split
  · rename_i detection filter response
    cases n
    simp only [detection, filter, response, Option.some.injEq, InputSettings.mk.injEq]
  · rename_i unlisted
    exact iff_of_false nofun fun ⟨detection, filter, response⟩ => unlisted _ _ _ detection filter response

/-- A TAMPER_SETUP body that carries these settings (R171). -/
def TamperSettings.bytes (n : TamperSettings) : List Byte :=
  n.inputs.toList.flatMap InputSettings.bytes ++ [u8 n.threshold.val, n.supplyResponse.byte]

theorem readSettings_eq_some_mk {body : List Byte} {a b c d e f : InputSettings} {t : Fin 8} {r : Response} :
    readSettings body = some ⟨#v[a, b, c, d, e, f], t, r⟩ ↔
      readInputSettings body 0 = some a ∧ readInputSettings body 1 = some b ∧ readInputSettings body 2 = some c ∧
        readInputSettings body 3 = some d ∧ readInputSettings body 4 = some e ∧ readInputSettings body 5 = some f ∧
        readThreshold (body.getD 18 0) = some t ∧ readResponse (body.getD 19 0) = some r := by
  unfold readSettings
  split
  · rename_i h0 h1 h2 h3 h4 h5 threshold response
    rw [h0, h1, h2, h3, h4, h5, threshold, response]
    simp [and_assoc]
  · rename_i unlisted
    exact iff_of_false nofun fun ⟨h0, h1, h2, h3, h4, h5, threshold, response⟩ =>
      unlisted _ _ _ _ _ _ _ _ h0 h1 h2 h3 h4 h5 threshold response

/-- A body is read as the settings whose bytes it is, and as no others. -/
theorem readSettings_eq_some {body : List Byte} (length : body.length = 20) {n : TamperSettings} :
    readSettings body = some n ↔ body = n.bytes := by
  match body, length with
  | [_, _, _, _, _, _, _, _, _, _, _, _, _, _, _, _, _, _, _, _], _ =>
    match n with
    | ⟨⟨⟨[a, b, c, d, e, f]⟩, _⟩, t, r⟩ =>
    rw [readSettings_eq_some_mk]
    simp [readInputSettings_eq_some, readThreshold_eq_some, readResponse_eq_some, TamperSettings.bytes,
      InputSettings.bytes, and_assoc]

/-! ### TAMPER_SETUP (R146) -/

theorem State.gate_tamperSetup {s : State} (mode : s.mode = .uninitialised ∨ s.mode = .operational)
    (position : s.custody.position = .custody) : s.gate .tamperSetup = none := by
  obtain mode | mode := mode <;> simp [State.gate, GateRow.tamperSetup, GateRow.entry, mode, position]

/-- TAMPER_SETUP past the gate answers PARAMETER, or the settings it reads are in force. -/
theorem exec_tamperSetup {s : State} {raw : BitVec 6} {body : List Byte} (takes : CustodyTakes s kindTamperSetup body)
    (length : body.length = 20) (mode : s.mode = .uninitialised ∨ s.mode = .operational)
    (position : s.custody.position = .custody) :
    exec (.tamperSetup raw) s =
      match readSettings body with
      | none => .next (s.afterRefusal kindTamperSetup .parameter)
      | some n =>
        .next ({ s with tamper := s.tamper.setUp n raw }.afterReply
          (.ok kindTamperSetup .none (s.tamper.setUp n raw).setupFields)) := by
  change execTamperSetup raw s = _
  rw [execTamperSetup, takes.take]
  simp only [readTamperSetup, if_pos length, State.readCustody, State.gated, State.gate_afterTaking,
    State.gate_tamperSetup mode position]
  rfl

theorem toList_eq_map_finRange {α : Type} {n : Nat} (v : Vector α n) :
    v.toList = (List.finRange n).map fun i => v[i] := by
  rw [← List.ofFn_eq_map, ← Vector.toList_ofFn]
  congr 1
  ext i hi
  simp

/-- The reply gives the settings back as the body carried them, and each input's filtered level. -/
theorem Tamper.setupFields_setUp (t : Tamper) (n : TamperSettings) (raw : BitVec 6) :
    (t.setUp n raw).setupFields =
      n.bytes ++ (List.finRange 6).map fun i => (t.inputs[i].setUp n.inputs[i] (levelOf raw i)).filtered.byte := by
  have input (i : InputId) : (t.setUp n raw).inputs[i] = t.inputs[i].setUp n.inputs[i] (levelOf raw i) := ofFn_get _ i
  rw [Tamper.setupFields, TamperSettings.bytes, toList_eq_map_finRange (t.setUp n raw).inputs,
    toList_eq_map_finRange n.inputs, List.flatMap_map, List.flatMap_map, List.map_map]
  simp only [Function.comp_def, input]
  rfl

/-- With detection and filter as they were, an input keeps its filtered level and its count. -/
theorem TamperInput.setUp_eq (t : TamperInput) (n : InputSettings) (raw : Level) :
    t.setUp n raw =
      if t.detection = n.detection ∧ t.filter = n.filter then
        { detection := n.detection, filter := n.filter, response := n.response, quiet := t.filtered
          filtered := t.filtered, count := t.count }
      else
        { detection := n.detection, filter := n.filter, response := n.response, quiet := raw
          filtered := raw, count := 0 } := by
  by_cases same : t.detection = n.detection ∧ t.filter = n.filter
  · obtain ⟨detection, filter⟩ := same
    simp [TamperInput.setUp, detection, filter]
  · have fresh : (t.detection != n.detection || t.filter != n.filter) = true := by
      simpa [bne_iff_ne, ← not_and_or] using same
    rw [if_neg same]
    simp only [TamperInput.setUp, fresh, if_true]

/-- Settles O36: the body is read as the settings it spells, or as none, and each input is set up on its own. -/
theorem tamperSetupReplacesTheSettings : Obligations.TamperSetupReplacesTheSettings := by
  intro s raw body takes length mode position spells
  have answer := exec_tamperSetup (raw := raw) takes length mode position
  refine ⟨fun unlisted => ?_, ?_⟩
  · have unread : readSettings body = none :=
      Option.eq_none_iff_forall_ne_some.2 fun n read => unlisted _ _ _ ((readSettings_eq_some length).1 read)
    rw [answer, unread]
  · intro n threshold response spelt setUp kept
    have read : readSettings body = some ⟨n, threshold, response⟩ := (readSettings_eq_some length).2 spelt
    have inputs (i : InputId) : s.tamper.inputs[i].setUp n[i] (levelOf raw i) = setUp i := TamperInput.setUp_eq _ _ _
    have tamper : s.tamper.setUp ⟨n, threshold, response⟩ raw =
        { s.tamper with
          inputs := Vector.ofFn setUp, threshold := threshold, supplyResponse := response
          armed := s.tamper.armed && kept, timer := s.tamper.timer && kept } := by
      simp only [Tamper.setUp, inputs]
      rfl
    rw [answer, read]
    dsimp only
    rw [Tamper.setupFields_setUp, tamper, spelt]
    simp only [inputs]
    rfl

/-! ### TAMPER_ACK (R147) -/

theorem State.gate_tamperAck {s : State} (position : s.custody.position = .custody) : s.gate .tamperAck = none := by
  cases mode : s.mode <;> simp [State.gate, GateRow.tamperAck, GateRow.entry, mode, position]

theorem exec_tamperAck {s : State} (takes : CustodyTakes s kindTamperAck []) (position : s.custody.position = .custody) :
    exec .tamperAck s =
      if s.mode = .locked then
        if s.unquiet then .next (s.afterRefusal kindTamperAck .quietRequired)
        else
          .next ({ s with tamper := s.tamper.acknowledge, mode := .uninitialised }.afterReply
            (.ok kindTamperAck .none s.tamper.ackFields))
      else
        .next ({ s with tamper := s.tamper.acknowledge }.afterReply (.ok kindTamperAck .none s.tamper.ackFields)) :=
  takes.pass (State.gate_tamperAck position)

/-- The input does not stand in the way of an acknowledgement (R147). -/
theorem TamperInput.eraseClass_showsActive_eq_false {t : TamperInput} :
    (t.eraseClass && t.showsActive) = false ↔ (t.response = .erase → t.detection ≠ .off → t.showsActive = false) := by
  simp only [TamperInput.eraseClass, Bool.and_eq_false_iff, bne_eq_false_iff_eq, beq_eq_false_iff_ne]
  tauto

theorem State.unquiet_eq_false {s : State} : s.unquiet = false ↔
    (∀ i : InputId, (s.tamper.inputs[i].eraseClass && s.tamper.inputs[i].showsActive) = false) ∧
      thresholdMv s.tamper.threshold ≤ s.vmain := by
  have supply : s.belowThreshold = false ↔ thresholdMv s.tamper.threshold ≤ s.vmain := by
    rw [State.belowThreshold, decide_eq_false_iff_not, Nat.not_lt]
  rw [State.unquiet, Bool.or_eq_false_iff, supply, toList_eq_map_finRange, List.any_map, List.any_eq_false]
  simp

/-- Settles O37: the quiet check stands in LOCKED only, and reads each ERASE-class input by its detection and the supply. -/
theorem tamperAckClearsTheCauses : Obligations.TamperAckClearsTheCauses := by
  intro s takes position quiet cleared
  have check : s.unquiet = false ↔ quiet := by
    rw [State.unquiet_eq_false]
    refine and_congr_left' (forall_congr' fun i => ?_)
    refine TamperInput.eraseClass_showsActive_eq_false.trans (imp_congr_right fun _ => ?_)
    cases detection : s.tamper.inputs[i].detection with
    | off => exact iff_of_true (fun on => absurd rfl on) trivial
    | fall => rw [TamperInput.showsActive_of_fall detection]; cases s.tamper.inputs[i].filtered <;> simp
    | rise => rw [TamperInput.showsActive_of_rise detection]; cases s.tamper.inputs[i].filtered <;> simp
    | either => rw [TamperInput.showsActive_of_either detection]; simp
  have answer := exec_tamperAck takes position
  refine ⟨fun locked active => ?_, fun locked still => ?_, fun unlocked => ?_⟩
  · rw [answer, if_pos locked, if_pos (Bool.of_not_eq_false (mt check.1 active))]
  · rw [answer, if_pos locked, if_neg (Bool.eq_false_iff.1 (check.2 still))]
    rfl
  · rw [answer, if_neg (by obtain mode | mode := unlocked <;> rw [mode] <;> nofun)]
    rfl

end Sys2Proof.Machine
end

section
/-! PROOFS. The collects that keep the reply, and the custody collect that consumes it: CollectsShiftOutReplies (R152, R165,
R166). -/

namespace Sys2Proof.Machine

/-! ### The bytes of a collect (R165) -/

/-- The bytes of its frame that a collect shifts out before zeros take their place. -/
def Collect.sent (c : Collect) (clocked cut : Nat) : List Byte := if c.cut then c.frame.take cut else c.frame.take clocked

theorem padded_eq (n : Nat) (bytes : List Byte) :
    padded n bytes = bytes.take n ++ List.replicate (n - (bytes.take n).length) 0 := by
  have zeros : n - bytes.length = n - min n bytes.length := by omega
  rw [padded, List.length_take, zeros]

/-- After the first byte come those sent, then zeros up to the number clocked. -/
theorem Collect.shifted_eq (c : Collect) {clocked cut : Nat} (early : cut ≤ clocked) :
    c.shifted clocked cut = 0 :: c.sent clocked cut ++ List.replicate (clocked - (c.sent clocked cut).length) 0 := by
  unfold Collect.shifted Collect.sent
  cases c.cut with
  | true => simp only [if_true, Nat.min_eq_left early, List.cons_append]
  | false => simp only [Bool.false_eq_true, if_false, padded_eq, List.cons_append]

/-- A collect consumes nothing where an erase cut it, where it fixed no reply, and where it was broken off (R165, R166). -/
theorem Collect.consumed_eq_none {c : Collect} {clocked : Nat}
    (ends : c.cut = true ∨ c.reply = none ∨ clocked < c.frame.length) : c.consumed clocked = none := by
  unfold Collect.consumed
  cases reply : c.reply with
  | none => rfl
  | some r =>
    have frame : c.frame = r.bytes := by rw [Collect.frame, reply]
    refine if_neg fun whole => ?_
    simp only [Bool.and_eq_true, Bool.not_eq_true', decide_eq_true_eq] at whole
    obtain ⟨uncut, long⟩ := whole
    obtain cut | none | short := ends
    · exact nomatch uncut.symm.trans cut
    · exact nomatch reply.symm.trans none
    · exact absurd long (Nat.not_le_of_lt (frame ▸ short))

/-! ### The end of a collect (R166) -/

/-- A collect that consumes nothing leaves the reply in the buffer. -/
theorem exec_collectEnd_unconsumed {s : State} {k : Link} {c : Collect} {clocked : Nat}
    (collect : (s.link k).collect = some c) (kept : c.consumed clocked = none) (cut : Nat) :
    exec (.collectEnd k clocked cut) s =
      .next (s.setLink k { s.link k with collect := none, sdo := c.shifted clocked cut }) := by
  change execCollectEnd k clocked cut s = _
  simp only [execCollectEnd, collect, kept]

theorem exec_collectEnd_consumed {s : State} {k : Link} {c : Collect} {r : Reply} {clocked : Nat}
    (collect : (s.link k).collect = some c) (whole : c.consumed clocked = some r) (cut : Nat) :
    exec (.collectEnd k clocked cut) s =
      .next ((s.setLink k { s.link k with buffer := none, collect := none, sdo := c.shifted clocked cut }).handOn k r) := by
  change execCollectEnd k clocked cut s = _
  simp only [execCollectEnd, collect, whole]

/-- Consumption of a custody reply hands on nothing but the clearing of a battery-loss flag that was shown (R152). -/
theorem State.handOn_custody (s : State) (r : Reply) :
    s.handOn .custody r =
      { s with batteryLossFlag := match r with | .deviceStatus _ true => false | _ => s.batteryLossFlag } := by
  cases r with
  | deviceStatus _ shown => cases shown <;> rfl
  | ok | refused | runResult | laneStatus | tamperNotice => rfl

/-- Settles O5: what a collect's end does turns on whether it consumes the reply it fixed. -/
theorem collectsShiftOutReplies : Obligations.CollectsShiftOutReplies := by
  refine ⟨fun s k => ⟨fun running free => ?_, ?_⟩, ?_⟩
  · exact if_pos (by rw [running, free]; rfl)
  · intro c clocked cut collect early frame out ends
    have same : c.frame = frame := by
      unfold Collect.frame frame
      cases c.reply <;> rfl
    have sent : c.sent clocked cut = out := by rw [Collect.sent, same]
    rw [exec_collectEnd_unconsumed collect (Collect.consumed_eq_none (same ▸ ends)), c.shifted_eq early, sent]
  · intro s c r clocked cut collect whole reply long
    rw [exec_collectEnd_consumed (k := .custody) collect (Collect.consumed_of_whole whole reply long),
      Collect.shifted_of_whole whole reply long, State.handOn_custody]
    cases r with
    | deviceStatus _ shown => cases shown <;> rfl
    | ok | refused | runResult | laneStatus | tamperNotice => rfl

end Sys2Proof.Machine
end

section
/-! PROOFS. The state after reset: ResetBeginsStartingLawfully (R126, R145, R150). -/

namespace Sys2Proof.Machine

/-! ### The records of the part after reset -/

theorem State.reset_lane (l : LaneId) : State.reset.lanes[l] = Lane.cleared := by simp [State.reset]

theorem State.reset_slot (i : SlotId) : State.reset.slots[i] = Slot.blank i := by rw [State.reset, ofFn_get]

theorem State.reset_engine : State.reset.engine = .idle := rfl

theorem State.reset_not_custody (g : CustodyGrant) : State.reset.engine ≠ .custody g := by rw [State.reset_engine]; nofun

theorem State.reset_not_lane (g : RunGrant) : State.reset.engine ≠ .lane g := by rw [State.reset_engine]; nofun

theorem State.reset_process : State.reset.custody.process = none := rfl

/-- Every link is as at the entry to STARTING (R150). -/
theorem State.reset_link (k : Link) : State.reset.link k = LinkState.start := by
  cases k with
  | custody => rfl
  | lane l => rw [State.link, State.reset_lane]; rfl

/-- Nobody is served (R150). -/
theorem State.reset_quiet : State.reset.Quiet where
  engine := rfl
  requesters := rfl
  runs l := by rw [State.reset_lane]; rfl
  process := rfl
  collects k := by rw [State.reset_link]; exact fun _ _ none => nomatch none

theorem State.reset_assembly (i : SlotId) : State.reset.slots[i].assembly = none := by rw [State.reset_slot]; rfl

theorem State.reset_transport (l : LaneId) : State.reset.lanes[l].transport = none := by rw [State.reset_lane]; rfl

/-! ### The laws -/

theorem refsLaw_reset : RefsLaw State.reset :=
  .of_released .nil nofun State.reset_transport nofun rfl

theorem warrantLaw_reset : WarrantLaw State.reset where
  records := nofun
  room := Nat.zero_le 32
  ids := .nil
  serials := .nil
  fresh := nofun
  entry g _ engine := absurd engine (State.reset_not_lane g)

theorem budgetLaw_reset : BudgetLaw State.reset := ⟨rfl, fun g engine => absurd engine (State.reset_not_lane g)⟩

theorem counterLaw_reset : CounterLaw State.reset :=
  counterLaw_iff.2 ⟨fun k => by rw [State.reset_link]; exact LinkState.inRange_start, Tamper.inRange_default _,
    Nat.zero_lt_succ 7, Nat.zero_le _⟩

theorem assemblyLaw_reset : AssemblyLaw State.reset where
  parts i _ part := nomatch (State.reset_assembly i).symm.trans part
  component _ _ _ _ _ _ now := nomatch State.reset_process.symm.trans now

theorem storageLaw_reset : StorageLaw State.reset := .of_out nofun nofun nofun rfl State.reset_not_custody

theorem checkLaw_reset : CheckLaw State.reset where
  slots i a c body := by
    rw [State.reset_slot] at body
    obtain active | faulty := body
    · cases active
    · cases faulty
  holder g engine := absurd engine (State.reset_not_custody g)
  finalOp _ _ _ _ now := nomatch State.reset_process.symm.trans now
  checking _ now := nomatch State.reset_process.symm.trans now
  importOp _ _ _ _ _ _ _ _ now := nomatch State.reset_process.symm.trans now

/-- The marker has never been written, so that the law asks nothing of the records (R151). -/
theorem modeLaw_reset : ModeLaw State.reset :=
  .of_out (.inr ⟨_, rfl⟩) (fun valid => absurd valid lostMarker_ne) (fun valid => absurd valid lostMarker_ne) rfl rfl nofun
    nofun fun _ => by decide

theorem chainLaw_reset : ChainLaw State.reset where
  chains l _ _ bound := nomatch (State.reset_transport l).symm.trans bound
  operation g _ _ _ _ engine := absurd engine (State.reset_not_lane g)

/-- Settles O2: no record of the part after reset is in use, and nobody is served. -/
theorem resetBeginsStartingLawfully : Obligations.ResetBeginsStartingLawfully := by
  refine ⟨⟨rfl, rfl, rfl, rfl, rfl, rfl, rfl, State.reset_link, fun l => ?_, State.reset_assembly, rfl, rfl, rfl, rfl⟩,
    refsLaw_reset, warrantLaw_reset, budgetLaw_reset, State.reset_quiet.serviceLaw, counterLaw_reset, assemblyLaw_reset,
    storageLaw_reset, checkLaw_reset, modeLaw_reset, chainLaw_reset⟩
  rw [State.reset_lane]
  exact ⟨rfl, rfl⟩

end Sys2Proof.Machine
end

section
/-! PROOFS. The stop of the logic, the entry to STARTING and what STARTING begins with: LogicStopsAndStarts,
StartingChecksTheMarker (R150, R151, R153, R154, R157, R158). -/

namespace Sys2Proof.Machine

/-! ### The stop (R157, R158) -/

/-- But in a sweep, the stop of the logic is the loss of the volatile state, and a stopped part stays as it is. -/
theorem State.stopIfRunning_eq {s : State} (cut : SweepCut) (mode : s.mode ≠ .starting .sweep) :
    (if s.mode.running then s.stopLogic cut else s) =
      if s.mode = .stopped then s else { s.afterStop with mode := .stopped } := by
  by_cases stopped : s.mode = .stopped
  · rw [if_pos stopped, stopped]
    rfl
  · have running : s.mode.running = true := Bool.of_not_eq_false (mt Mode.eq_stopped stopped)
    rw [if_neg stopped, if_pos running, State.stopLogic, State.cutSweep_of_ne cut mode, State.volatileStart_eq]

/-- A stop leaves the battery and the marker as they are. -/
theorem State.stopped_domain (s : State) :
    (if s.mode = .stopped then s else { s.afterStop with mode := .stopped }).battery = s.battery ∧
      (if s.mode = .stopped then s else { s.afterStop with mode := .stopped }).marker = s.marker := by
  simp only [apply_ite State.battery, apply_ite State.marker, State.afterStop, ite_self, and_self]

/-- What a stop finds of a sweep in progress: the records as the cut leaves them (R154). -/
def State.cutOff (s : State) (cut : SweepCut) : State := { s.cutSweep cut with mode := .starting .check }

/-- A sweep is stopped like a part that holds its records and is in no sweep. -/
theorem State.stopLogic_cutOff (s : State) (cut : SweepCut) : (s.cutOff cut).stopLogic cut = s.stopLogic cut := by
  rw [State.stopLogic, State.cutSweep_of_ne cut (by rw [State.cutOff]; nofun)]
  rfl

theorem State.cutOff_vmain (s : State) (cut : SweepCut) : (s.cutOff cut).vmain = s.vmain := by
  unfold State.cutOff State.cutSweep
  split <;> simp

theorem State.cutOff_resetHeld (s : State) (cut : SweepCut) : (s.cutOff cut).resetHeld = s.resetHeld := by
  unfold State.cutOff State.cutSweep
  split <;> simp

/-- Without main supply the marker stays only with a sound battery (R151). -/
theorem State.keepDomain_of_unsupplied {s : State} (low : s.vmain < stopLevel) :
    s.keepDomain = { s with marker := if s.battery then s.marker else lostMarker } := by
  have unsupplied : decide (stopLevel ≤ s.vmain) = false := decide_eq_false (Nat.not_le_of_lt low)
  rw [State.keepDomain, unsupplied, Bool.false_or]
  split <;> rfl

section

variable {s : State} {mv : Nat} {cut : SweepCut} (steps : cut.steps ≤ 5)
include steps

theorem exec_mainSupplyLoss (low : mv < 2500) (supplied : 2500 ≤ s.vmain) :
    exec (.mainSupplyLoss mv cut) s =
      .next { (if s.mode.running then s.stopLogic cut else s) with vmain := mv }.keepDomain :=
  if_pos (by simp [stopLevel, SweepCut.ok, steps, low, supplied])

theorem exec_resetAssert (released : s.resetHeld = false) :
    exec (.resetAssert cut) s = .next { (if s.mode.running then s.stopLogic cut else s) with resetHeld := true } :=
  if_pos (by simp [SweepCut.ok, steps, released])

/-- A supply loss in a sweep is one of the part that holds the records as the cut leaves them. -/
theorem exec_mainSupplyLoss_sweep (sweep : s.mode = .starting .sweep) :
    exec (.mainSupplyLoss mv cut) s =
      if mv < 2500 ∧ 2500 ≤ s.vmain then exec (.mainSupplyLoss mv cut) (s.cutOff cut) else .next s := by
  split_ifs with falls
  · obtain ⟨low, supplied⟩ := falls
    have running : s.mode.running = true := by rw [sweep]; rfl
    rw [exec_mainSupplyLoss steps low supplied, exec_mainSupplyLoss steps low (by rwa [State.cutOff_vmain]), if_pos running,
      if_pos (show (s.cutOff cut).mode.running = true from rfl), State.stopLogic_cutOff]
  · refine if_neg fun event => falls ?_
    simp only [Bool.and_eq_true, decide_eq_true_eq] at event
    obtain ⟨⟨supplied, low⟩, _⟩ := event
    exact ⟨low, supplied⟩

theorem exec_resetAssert_sweep (sweep : s.mode = .starting .sweep) (released : s.resetHeld = false) :
    exec (.resetAssert cut) s = exec (.resetAssert cut) (s.cutOff cut) := by
  have running : s.mode.running = true := by rw [sweep]; rfl
  rw [exec_resetAssert steps released, exec_resetAssert steps (by rwa [State.cutOff_resetHeld]), if_pos running,
    if_pos (show (s.cutOff cut).mode.running = true from rfl), State.stopLogic_cutOff]

end

/-! ### The start (R150) -/

theorem exec_mainSupplyRise {s : State} {mv : Nat} (stopped : s.mode = .stopped) (low : s.vmain ≤ 2500) (high : 2500 < mv) :
    exec (.mainSupplyRise mv) s =
      .next { if s.resetHeld then s else { s.afterStop with mode := .starting .check } with vmain := mv } := by
  have rises : exec (.mainSupplyRise mv) s =
      .next (if s.resetHeld then { s with vmain := mv } else { s with vmain := mv }.enterStarting) :=
    if_pos ⟨stopped, low, high⟩
  rw [rises]
  split <;> rfl

theorem exec_resetRelease {s : State} (held : s.resetHeld = true) :
    exec .resetRelease s =
      .next { if 2500 < s.vmain then { s.afterStop with mode := .starting .check } else s with resetHeld := false } := by
  have released : exec .resetRelease s =
      .next (if 2500 < s.vmain then { s with resetHeld := false }.enterStarting else { s with resetHeld := false }) :=
    if_pos held
  rw [released]
  split <;> rfl

/-- Settles O42: a stop outside a sweep loses the volatile state only, and one in a sweep is that of its cut records. -/
theorem logicStopsAndStarts : Obligations.LogicStopsAndStarts := by
  refine ⟨?_, fun s mv => exec_mainSupplyRise, fun s => exec_resetRelease, lostMarker_ne⟩
  intro s cut steps stopped
  refine ⟨fun mode => ?_, fun sweep => ?_⟩
  · have stops : (if s.mode.running then s.stopLogic cut else s) = stopped := State.stopIfRunning_eq cut mode
    have domain : stopped.battery = s.battery ∧ stopped.marker = s.marker := s.stopped_domain
    clear_value stopped
    obtain ⟨battery, marker⟩ := domain
    refine ⟨fun mv low supplied => ?_, fun released => ?_⟩
    · rw [exec_mainSupplyLoss steps low supplied, stops, State.keepDomain_of_unsupplied low]
      dsimp only
      rw [battery, marker]
    · rw [exec_resetAssert steps released, stops]
  · intro done next swept
    have cutOff : s.cutOff cut = swept := by
      simp only [State.cutOff, State.cutSweep_of_sweep cut sweep, State.partly]
      rfl
    rw [← cutOff]
    exact ⟨fun mv => exec_mainSupplyLoss_sweep steps sweep, exec_resetAssert_sweep steps sweep⟩

/-! ### The validity check (R151, R153) -/

section

variable {s : State} (raw : BitVec 6) (check : s.mode = .starting .check)
include check

theorem exec_validityCheck_lost (lost : s.marker ≠ Config.marker) :
    exec (.validityCheck raw) s = .next { s with mode := .starting .clearing, tamper := Tamper.default (levelOf raw) } := by
  have invalid : (!s.markerValid) = true := by simpa [State.markerValid] using lost
  exact (if_pos check).trans (if_pos invalid)

theorem exec_validityCheck_valid (valid : s.marker = Config.marker) :
    exec (.validityCheck raw) s =
      if s.tamper.erasePending then .next s.afterErase else .next { s with mode := .starting .sweep } := by
  have marker : ¬ (!s.markerValid) = true := by simp [State.markerValid_of_eq valid]
  rw [← State.eraseBegin_eq]
  exact (if_pos check).trans (if_neg marker)

end

/-- Settles O43: the check goes by the marker and the pending erase, and the clearing's end blanks the domain. -/
theorem startingChecksTheMarker : Obligations.StartingChecksTheMarker := by
  refine ⟨?_, ?_⟩
  · intro s raw check input
    have inputs : (fun i => TamperInput.default i (levelOf raw i)) = input := by
      funext i
      simp only [TamperInput.default, levelOf, input, Nat.lt_succ_iff]
    refine ⟨fun lost => ?_, fun valid pending => ?_, fun valid quiet => ?_⟩
    · rw [exec_validityCheck_lost raw check lost, Tamper.default, inputs]
    · rw [exec_validityCheck_valid raw check valid, if_pos pending]
    · rw [exec_validityCheck_valid raw check valid, quiet]
      rfl
  · intro s clearing cleared
    have domain : s.clearDomain = cleared := rfl
    have ends : exec .batteryLossClearingEnd s =
        if s.tamper.erasePending then .next s.clearDomain.eraseBegin else .next { s.clearDomain with mode := .uninitialised } :=
      if_pos clearing
    rw [ends, domain, State.eraseBegin_eq]
    split <;> rfl

end Sys2Proof.Machine
end

section
/-! PROOFS. Request transfers: RequestFramesAreJudged, ImmediateRequestsActAtOnce (R159 to R162). -/

namespace Sys2Proof.Machine

/-- Of two writes to a link the second stands. -/
theorem State.setLink_setLink (s : State) (k : Link) (x y : LinkState) : (s.setLink k x).setLink k y = s.setLink k y := by
  cases k with
  | custody => rfl
  | lane l =>
    change (s.setLane l _).setLane l { (s.setLane l _).lanes[l] with link := y } = s.setLane l _
    rw [State.setLane_same, State.setLane_setLane]

/-! ### Bytes that make a frame (R160) -/

/-- A frame spelled out: its kind, the two bytes of its body's length, its body. -/
theorem frameBytes_eq_cons (kind : Byte) (body : List Byte) :
    ∃ l1 l0, be 2 body.length = [l1, l0] ∧ frameBytes kind body = kind :: l1 :: l0 :: body := ⟨_, _, rfl, rfl⟩

/-- Bytes whose length field tells the length of what follows it are a frame. -/
theorem eq_frameBytes_of_length {kind l1 l0 : Byte} {body : List Byte} (length : body.length = ofBe [l1, l0]) :
    kind :: l1 :: l0 :: body = frameBytes kind body := by
  have field : be 2 body.length = [l1, l0] := length ▸ be_ofBe [l1, l0]
  rw [frameBytes, field]
  rfl

/-- What the receiver makes of a frame of lawful length (R160 to R162). -/
theorem State.receive_frameBytes (s : State) (k : Link) (kind : Byte) {body : List Byte} (short : body.length ≤ 1023) :
    s.receive k (frameBytes kind body) =
      if (immediateKinds k).contains kind then if body = [] then s.immediate k kind else s.frameError k
      else s.setLink k ((s.link k).receive ⟨kind, body⟩) := by
  obtain ⟨l1, l0, field, bytes⟩ := frameBytes_eq_cons kind body
  have length : ofBe [l1, l0] = body.length := by rw [← field, ofBe_be_two (by omega)]
  rw [bytes]
  exact if_pos ⟨by rw [length]; exact short, length.symm⟩

/-- Bytes that are no such frame are a frame error (R160). -/
theorem State.receive_noFrame (s : State) (k : Link) {bytes : List Byte}
    (noFrame : ∀ (kind : Byte) (body : List Byte), body.length ≤ 1023 → bytes ≠ frameBytes kind body) :
    s.receive k bytes = s.frameError k := by
  unfold State.receive
  split
  · rename_i kind l1 l0 body
    refine if_neg fun ⟨short, length⟩ => ?_
    exact noFrame kind body (length ▸ short) (eq_frameBytes_of_length length)
  · rfl

/-! ### The transfer (R159) -/

theorem requestBytesOk_of_head {bytes : List Byte} (nonempty : bytes ≠ []) (head : bytes.head? ≠ some 0) :
    requestBytesOk bytes = true := by
  cases bytes with
  | nil => exact absurd rfl nonempty
  | cons b rest => simpa [requestBytesOk] using head

theorem exec_requestTransfer {s : State} {k : Link} {bytes : List Byte} (running : s.mode.running = true)
    (free : (s.link k).collect = none) (ok : requestBytesOk bytes = true) (bits : Fin 8) :
    exec (.requestTransfer k ⟨bytes, bits⟩) s =
      .next ((s.shiftOut k (List.replicate bytes.length 0)).receiveTransfer k ⟨bytes, bits⟩) :=
  if_pos (by rw [running, free, ok]; rfl)

/-- A frame error of a transfer that shifted these bytes out (R159, R160). -/
theorem State.frameError_shiftOut (s : State) (k : Link) (sdo : List Byte) :
    (s.shiftOut k sdo).frameError k =
      s.setLink k { s.link k with sdo := sdo, frameErrors := min 255 ((s.link k).frameErrors + 1) } := by
  rw [State.frameError, State.shiftOut, State.link_setLink_same, State.setLink_setLink, LinkState.frameError,
    saturate_eq_min]

/-- Settles O3: the transfer is judged by its unfinished byte, then by whether its bytes are a frame, then by the frame's kind. -/
theorem requestFramesAreJudged : Obligations.RequestFramesAreJudged := by
  intro s k bytes running free nonempty head
  have transfer := exec_requestTransfer running free (requestBytesOk_of_head nonempty head)
  have error := s.frameError_shiftOut k (List.replicate bytes.length 0)
  refine ⟨fun bits cut => ?_, fun noFrame => ?_, fun kind body short frame => ?_⟩
  · rw [transfer, State.receiveTransfer_cut _ _ _ cut, error]
  · rw [transfer, State.receiveTransfer_zero, State.receive_noFrame _ _ noFrame, error]
  · have judged := (s.shiftOut k (List.replicate bytes.length 0)).receive_frameBytes k kind short
    rw [← frame] at judged
    by_cases immediate : (immediateKinds k).contains kind = true
    · rw [if_pos immediate]
      intro full
      rw [transfer, State.receiveTransfer_zero, judged, if_pos immediate, if_neg full, error]
    · rw [if_neg immediate, transfer, State.receiveTransfer_zero, judged, if_neg immediate, State.shiftOut,
        State.link_setLink_same, State.setLink_setLink]
      rfl

/-! ### Immediate requests (R161) -/

theorem exec_linkClear {s : State} (running : s.mode.running = true) :
    exec .linkClear s = .next (s.clearLink .custody) := if_pos running

theorem exec_laneClear {s : State} (running : s.mode.running = true) (l : LaneId) :
    exec (.laneClear l) s = .next (s.clearLink (.lane l)) := if_pos running

/-- A frame of an immediate kind without a body is taken as the transfer ends. -/
theorem exec_requestTransfer_immediate {s : State} {k : Link} {kind : Byte} (running : s.mode.running = true)
    (free : (s.link k).collect = none) (immediate : (immediateKinds k).contains kind = true) (nonzero : kind ≠ 0) :
    exec (.requestTransfer k ⟨frameBytes kind [], 0⟩) s = .next ((s.shiftOut k [0, 0, 0]).immediate k kind) := by
  have ok : requestBytesOk (frameBytes kind []) = true := bne_iff_ne.2 nonzero
  rw [exec_requestTransfer running free ok, State.receiveTransfer_zero, State.receive_frameBytes (short := by simp),
    if_pos immediate, if_pos rfl]
  rfl

/-- Settles O4: each immediate frame does in its transfer what its command does. -/
theorem immediateRequestsActAtOnce : Obligations.ImmediateRequestsActAtOnce := by
  intro s running
  refine ⟨exec_linkClear running, exec_laneClear running, fun free => ?_, fun l free => ⟨?_, ?_⟩⟩
  · exact (exec_requestTransfer_immediate running free rfl (by decide)).trans
      (exec_linkClear (s := s.shiftOut .custody [0, 0, 0]) running).symm
  · exact (exec_requestTransfer_immediate running free rfl (by decide)).trans
      (exec_laneClear (s := s.shiftOut (.lane l) [0, 0, 0]) running l).symm
  · exact (exec_requestTransfer_immediate running free rfl (by decide)).trans
      (exec_runStop_now (s := s.shiftOut (.lane l) [0, 0, 0]) running l).symm

end Sys2Proof.Machine
end

section
/-! PROOFS. Requests that no command serves, and bodies that cannot be read: UnservableRequestsAreRefused (R163, R170, R171). -/

namespace Sys2Proof.Machine

/-! ### Kinds outside the catalogue (R163, R170) -/

/-- The custody catalogue holds the kinds of the custody commands. -/
theorem custodyKinds_eq (raw : BitVec 6) : custodyKinds = (custodyCommands raw).map Prod.fst := rfl

theorem exec_unknownRequest_custody {s : State} {kind : Byte} {body : List Byte} (takes : CustodyTakes s kind body)
    (unknown : kind ∉ custodyKinds) : exec (.unknownRequest .custody) s = .next (s.afterRefusal kind .unknownRequest) := by
  obtain ⟨rest, fifo⟩ := List.head?_eq_some_iff.1 takes.head
  change execUnknownRequest .custody s = _
  simp only [execUnknownRequest, fifo, List.contains_iff_mem, unknown, if_false]
  exact takes.take _

/-- A lane answers a kind of no lane command with UNKNOWN_REQUEST. -/
theorem exec_unknownRequest_lane {s : State} {l : LaneId} {kind : Byte} {body : List Byte} (takes : LaneTakes s l kind body)
    (run : kind ≠ kindRun) (laneStatus : kind ≠ kindLaneStatus) (warrantStatus : kind ≠ kindWarrantStatus) :
    exec (.unknownRequest (.lane l)) s = .next (s.afterLaneReply l (.refused kind .unknownRequest [])) := by
  have command : laneCommand l kind = .unknownRequest (.lane l) := by
    rw [laneCommand, if_neg run, if_neg laneStatus, if_neg warrantStatus]
  have answer : s.serveLane l ⟨kind, body⟩ = (s.afterLaneTaking l).laneRefuse l kind .unknownRequest := by
    rw [State.serveLane, if_neg run, if_neg laneStatus, if_neg warrantStatus]
    rfl
  rw [← command, exec_laneCommand takes, answer, State.laneRefuse, State.reply_afterLaneTaking]

/-! ### Bodies that cannot be read (R171) -/

section

variable {body : List Byte}

theorem readNothing_eq_none (h : body.length ≠ 0) : readNothing body = none := by
  cases body with
  | nil => exact absurd rfl h
  | cons b rest => rfl

theorem readByte_eq_none (h : body.length ≠ 1) : readByte body = none := by
  unfold readByte
  split
  · exact absurd rfl h
  · rfl

theorem readImport_eq_none (h : ¬ 1 ≤ body.length) : readImport body = none := by
  cases body with
  | nil => rfl
  | cons b rest => exact absurd (Nat.le_add_left 1 _) h

theorem readAssemble_eq_none (h : body.length ≠ 10) : readAssemble body = none := by
  unfold readAssemble
  split
  · exact absurd rfl h
  · rfl

theorem readComponent_eq_none (h : body.length ∉ [18, 21, 34, 37]) : readComponent body = none := by
  unfold readComponent
  split
  · rename_i rest
    simp only [List.length_cons, List.mem_cons, List.not_mem_nil, or_false, not_or, Nat.reduceEqDiff] at h
    obtain ⟨short, shortChecked, long, longChecked⟩ := h
    rw [if_neg short, if_neg shortChecked, if_neg long, if_neg longChecked]
  · rfl

/-- The prefix count is the eighth byte of a WARRANT_OPEN body. -/
theorem readWarrantOpen_eq_none (h : ¬ (9 ≤ body.length ∧ body.length = 9 + (body.getD 7 0).toNat)) :
    readWarrantOpen body = none := by
  unfold readWarrantOpen
  split
  · rename_i p rest
    refine if_neg fun length => h ?_
    simp only [List.length_cons, length, List.getD_cons_succ, List.getD_cons_zero]
    omega
  · rfl

theorem readWarrantExtend_eq_none (h : body.length ≠ 5) : readWarrantExtend body = none := by
  unfold readWarrantExtend
  split
  · exact absurd rfl h
  · rfl

theorem readLaneBind_eq_none (h : body.length ≠ 23) : readLaneBind body = none := by
  unfold readLaneBind
  split
  · rename_i rest
    exact if_neg fun length => h (by simp only [List.length_cons, length])
  · rfl

end

/-- A command reads its body before it checks anything else. -/
theorem CustodyTakes.malformed {α : Type} {s : State} {c : Instr} {kind : Byte} {body : List Byte}
    {form : List Byte → Option α} {act : α → State → Res} (takes : CustodyTakes s kind body)
    (reads : exec c s = s.takeCustody kind fun body s => s.readCustody kind (form body) act) (unread : form body = none) :
    exec c s = .next (s.afterRefusal kind .malformed) := by
  rw [reads, takes.take, unread]
  rfl

/-- Every custody command answers MALFORMED to a body of a length that its form does not have (R163). -/
theorem exec_custodyCommand_malformed {s : State} {raw : BitVec 6} {kind : Byte} {c : Instr} {body : List Byte}
    (mem : (kind, c) ∈ custodyCommands raw) (takes : CustodyTakes s kind body) (unfit : bodyFits kind body = false) :
    exec c s = .next (s.afterRefusal kind .malformed) := by
  simp only [custodyCommands, List.mem_cons, Prod.mk.injEq, List.not_mem_nil, or_false] at mem
  obtain ⟨rfl, rfl⟩ | ⟨rfl, rfl⟩ | ⟨rfl, rfl⟩ | ⟨rfl, rfl⟩ | ⟨rfl, rfl⟩ | ⟨rfl, rfl⟩ | ⟨rfl, rfl⟩ | ⟨rfl, rfl⟩ | ⟨rfl, rfl⟩ |
    ⟨rfl, rfl⟩ | ⟨rfl, rfl⟩ | ⟨rfl, rfl⟩ | ⟨rfl, rfl⟩ | ⟨rfl, rfl⟩ | ⟨rfl, rfl⟩ | ⟨rfl, rfl⟩ | ⟨rfl, rfl⟩ | ⟨rfl, rfl⟩ |
    ⟨rfl, rfl⟩ | ⟨rfl, rfl⟩ | ⟨rfl, rfl⟩ | ⟨rfl, rfl⟩ | ⟨rfl, rfl⟩ := mem
  · exact takes.malformed rfl (readNothing_eq_none (by simpa [bodyFits] using unfit))
  · exact takes.malformed rfl (readNothing_eq_none (by simpa [bodyFits] using unfit))
  · exact takes.malformed rfl (readByte_eq_none (by simpa [bodyFits] using unfit))
  · exact takes.malformed rfl (readImport_eq_none (by simpa [bodyFits] using unfit))
  · exact takes.malformed rfl (readAssemble_eq_none (by simpa [bodyFits] using unfit))
  · exact takes.malformed rfl (readComponent_eq_none (by simpa [bodyFits] using unfit))
  · exact takes.malformed rfl (readByte_eq_none (by simpa [bodyFits] using unfit))
  · exact takes.malformed rfl (readByte_eq_none (by simpa [bodyFits] using unfit))
  · exact takes.malformed rfl (readByte_eq_none (by simpa [bodyFits] using unfit))
  · exact takes.malformed rfl (readWarrantOpen_eq_none (by simpa [bodyFits] using unfit))
  · exact takes.malformed rfl (readByte_eq_none (by simpa [bodyFits] using unfit))
  · exact takes.malformed rfl (readByte_eq_none (by simpa [bodyFits] using unfit))
  · exact takes.malformed rfl (readWarrantExtend_eq_none (by simpa [bodyFits] using unfit))
  · exact takes.malformed rfl (readByte_eq_none (by simpa [bodyFits] using unfit))
  · exact takes.malformed rfl (readByte_eq_none (by simpa [bodyFits] using unfit))
  · exact takes.malformed rfl (readByte_eq_none (by simpa [bodyFits] using unfit))
  · exact takes.malformed rfl (readNothing_eq_none (by simpa [bodyFits] using unfit))
  · exact takes.malformed rfl (readLaneBind_eq_none (by simpa [bodyFits] using unfit))
  · exact takes.malformed rfl (readByte_eq_none (by simpa [bodyFits] using unfit))
  · exact takes.malformed rfl (readByte_eq_none (by simpa [bodyFits] using unfit))
  · exact takes.malformed rfl (if_neg (by simpa [bodyFits] using unfit))
  · exact takes.malformed rfl (readNothing_eq_none (by simpa [bodyFits] using unfit))
  · exact takes.malformed rfl (readNothing_eq_none (by simpa [bodyFits] using unfit))

/-- Settles O7: a kind no command serves is refused by name, and every command that serves one reads its body first. -/
theorem unservableRequestsAreRefused : Obligations.UnservableRequestsAreRefused := by
  refine ⟨⟨fun s kind body takes _ _ unknown => ?_, fun s l kind body takes unknown => ?_⟩,
    fun s raw kind c body mem takes unfit => exec_custodyCommand_malformed mem takes unfit,
    fun s l body => ⟨fun takes full => ?_, fun takes length => ?_⟩⟩
  · refine exec_unknownRequest_custody takes fun known => ?_
    obtain ⟨p, mem, rfl⟩ := List.mem_map.1 (custodyKinds_eq 0 ▸ known)
    exact unknown 0 p mem rfl
  · simp only [List.mem_cons, List.not_mem_nil, or_false, not_or] at unknown
    obtain ⟨_, run, laneStatus, warrantStatus, _⟩ := unknown
    exact exec_unknownRequest_lane takes run laneStatus warrantStatus
  · have unread : readNothing body = none := readNothing_eq_none (mt List.length_eq_zero_iff.1 full)
    rw [exec_laneStatus takes, State.answerLaneStatus, unread]
    exact congrArg Host.Outcome.next (State.reply_afterLaneTaking s l _)
  · rw [exec_warrantStatus_lane takes, State.warrantStatusReply, readByte_eq_none length]

end Sys2Proof.Machine
end

section
/-! SUPPORT. What the shared operations do to the reply buffers (R164, R166): most leave all of them as they are, and those that
place a reply do so on a link whose buffer is empty. -/

namespace Sys2Proof.Machine

/-! ### The two relations -/

/-- A step that occurs under a condition only. -/
theorem Gives.guarded {R : State → State → Prop} {s : State} {c : Prop} [Decidable c] {r : Res} (same : R s s)
    (h : Gives R s r) : Gives R s (if c then r else .next s) := by
  split
  · exact h
  · exact .next same

/-- Every reply buffer is as it was. -/
structure SameReplies (s t : State) : Prop where
  buffer : ∀ k : Link, (t.link k).buffer = (s.link k).buffer := by exact fun k => by cases k <;> rfl

theorem SameReplies.refl (s : State) : SameReplies s s := {}

theorem SameReplies.trans {s t u : State} (h : SameReplies s t) (k : SameReplies t u) : SameReplies s u :=
  ⟨fun m => (k.buffer m).trans (h.buffer m)⟩

theorem sameReplies_setEngine (s : State) (e : Engine) : SameReplies s { s with engine := e } := {}

theorem sameReplies_withdraw (s : State) (r : Requester) : SameReplies s (s.withdraw r) := {}

/-- The law of service reads the reply buffers, so that what changes nothing of it leaves them. -/
theorem SameService.sameReplies {s t : State} (h : SameService s t) : SameReplies s t := by
  refine ⟨fun k => ?_⟩
  cases k with
  | custody => exact congrArg (fun (_, _, buffer, _) => buffer) (h.part .custody)
  | lane l => exact congrArg (fun (_, _, buffer, _) => buffer) (h.part (.lane l))

/-- Every reply that is in a buffer is still there. -/
structure RepliesKept (s t : State) : Prop where
  kept : ∀ (k : Link) (r : Reply), (s.link k).buffer = some r → (t.link k).buffer = some r

theorem SameReplies.kept {s t : State} (h : SameReplies s t) : RepliesKept s t :=
  ⟨fun k _ full => (h.buffer k).trans full⟩

theorem RepliesKept.refl (s : State) : RepliesKept s s := (SameReplies.refl s).kept

theorem RepliesKept.trans {s t u : State} (h : RepliesKept s t) (k : RepliesKept t u) : RepliesKept s u :=
  ⟨fun m r full => k.kept m r (h.kept m r full)⟩

/-! ### Links and lanes -/

theorem replies_setLink {s : State} {k : Link} {x : LinkState} (h : ∀ r, (s.link k).buffer = some r → x.buffer = some r) :
    RepliesKept s (s.setLink k x) := by
  refine ⟨fun m r full => ?_⟩
  by_cases e : k = m
  · subst e
    rw [State.link_setLink_same]
    exact h r full
  · rwa [State.link_setLink_other _ _ _ _ e]

theorem sameReplies_setLink {s : State} {k : Link} {x : LinkState} (h : x.buffer = (s.link k).buffer := by rfl) :
    SameReplies s (s.setLink k x) := by
  refine ⟨fun m => ?_⟩
  by_cases e : k = m
  · subst e
    rw [State.link_setLink_same, h]
  · rw [State.link_setLink_other _ _ _ _ e]

theorem sameReplies_setLane {s : State} {l : LaneId} {x : Lane} (h : x.link.buffer = s.lanes[l].link.buffer := by rfl) :
    SameReplies s (s.setLane l x) := by
  refine ⟨fun k => ?_⟩
  cases k with
  | custody => rfl
  | lane m =>
    by_cases e : l = m
    · subst e
      simp only [State.link, State.setLane_same, h]
    · simp only [State.link, State.setLane_other _ _ _ _ e]

/-- A reply is placed in an empty buffer (R164). -/
theorem replies_reply {s : State} {k : Link} (empty : (s.link k).buffer = none) (r : Reply) : RepliesKept s (s.reply k r) :=
  replies_setLink fun _ full => nomatch empty.symm.trans full

/-! ### The arbiter -/

theorem sameReplies_beginCustodyGrant (s : State) : SameReplies s s.beginCustodyGrant := by
  unfold State.beginCustodyGrant
  dsimp only
  split <;> exact {}

theorem sameReplies_beginRunGrant (s : State) (l : LaneId) : SameReplies s (s.beginRunGrant l) := by
  have points (u : State) : SameReplies u (u.setPointer l) := by
    unfold State.setPointer
    split <;> exact {}
  unfold State.beginRunGrant
  dsimp only
  split
  · exact sameReplies_withdraw s _
  · exact (((sameReplies_withdraw s (.lane l)).trans (points _)).trans sameReplies_setLane).trans (sameReplies_setEngine _ _)

theorem sameReplies_choose (s : State) : SameReplies s s.choose := by
  obtain ⟨_, e⟩ | ⟨_, e⟩ | ⟨l, _, e⟩ := s.choose_cases
  · rw [e]; exact .refl s
  · rw [e]; exact sameReplies_beginCustodyGrant s
  · rw [e]; exact sameReplies_beginRunGrant s l

theorem sameReplies_join (s : State) (r : Requester) : SameReplies s (s.join r) := by
  have enrols : SameReplies s (s.enrol r) := {}
  by_cases idle : s.engine = .idle
  · rw [State.join_of_idle idle]; exact enrols.trans (sameReplies_choose _)
  · rw [State.join_of_busy idle]; exact enrols

theorem sameReplies_release (s : State) : SameReplies s s.release :=
  (sameReplies_setEngine s .idle).trans (sameReplies_choose _)

/-! ### Custody requests -/

/-- Custody's reply buffer is empty, as it is when custody takes a request and while a command is in process (R164). -/
def State.Vacant (s : State) : Prop := (s.link .custody).buffer = none

theorem SameReplies.vacant {s t : State} (h : SameReplies s t) (vacant : s.Vacant) : t.Vacant :=
  (h.buffer .custody).trans vacant

/-- The command in process answers, and its grant ends (R122). -/
theorem replies_endProcess {s t : State} (vacant : s.Vacant) (same : SameReplies s t) (r : Reply) :
    Gives RepliesKept s (.next (t.endProcess r)) := by
  have ends : SameReplies t (t.inProcess none) := {}
  have answers := replies_reply ((same.trans ends).vacant vacant) r
  exact .next (((same.trans ends).kept.trans answers).trans (sameReplies_release _).kept)

/-- The command in process goes on to its next operation (R122). -/
theorem replies_nextOp {s t : State} (same : SameReplies s t) (g : CustodyGrant) (p : Process) :
    Gives RepliesKept s (.next (t.nextOp g p)) := .next (same.trans {}).kept

/-- A command goes into process, and waits for the engine (R123). -/
theorem replies_startProcess {s t : State} (same : SameReplies s t) (p : Process) :
    Gives RepliesKept s (.next (t.startProcess p)) :=
  have enters : SameReplies t (t.inProcess (some p)) := {}
  .next ((same.trans enters).trans (sameReplies_join _ .custody)).kept

theorem replies_same (s : State) : Gives RepliesKept s (.next s) := .next (.refl s)

/-- A request is taken only with the buffer empty (R164). -/
theorem replies_takeCustody {s : State} {kind : Byte} {act : List Byte → State → Res}
    (ha : ∀ body u, u.Vacant → Gives RepliesKept u (act body u)) : Gives RepliesKept s (s.takeCustody kind act) := by
  obtain e | ⟨f, rest, _, ready, _, e⟩ := s.takeCustody_cases kind act
  · rw [e]
    exact replies_same s
  · obtain ⟨_, empty, _⟩ := State.custodyReady_iff.1 ready
    have pops : SameReplies s (s.popFrame .custody) := sameReplies_setLink
    rw [e]
    exact fun t ht => pops.kept.trans (ha f.body _ (pops.vacant empty) t ht)

namespace State.Vacant

variable {s : State} (h : s.Vacant)
include h

/-- Custody answers, after an update that leaves the buffers alone. -/
theorem answer {t : State} (same : SameReplies s t) (r : Reply) : Gives RepliesKept s (.next (t.reply .custody r)) :=
  .next (same.kept.trans (replies_reply (same.vacant h) r))

theorem refuse (kind : Byte) (c : Code) : Gives RepliesKept s (.next (s.custodyRefuse kind c)) := h.answer (.refl s) _

theorem refuseOr {c : Prop} [Decidable c] {kind : Byte} {code : Code} {r : Res} (hr : Gives RepliesKept s r) :
    Gives RepliesKept s (if c then .next (s.custodyRefuse kind code) else r) := by
  split
  · exact h.refuse _ _
  · exact hr

theorem readCustody {α : Type} {kind : Byte} {form : Option α} {act : α → State → Res}
    (ha : ∀ x, Gives RepliesKept s (act x s)) : Gives RepliesKept s (s.readCustody kind form act) := by
  obtain ⟨_, e⟩ | ⟨x, _, e⟩ := s.readCustody_cases kind form act
  · rw [e]; exact h.refuse _ _
  · rw [e]; exact ha x

theorem gated {kind : Byte} {r : GateRow} {act : State → Res} (ha : Gives RepliesKept s (act s)) :
    Gives RepliesKept s (s.gated kind r act) := by
  obtain ⟨c, _, e⟩ | ⟨_, e⟩ := s.gated_cases kind r act
  · rw [e]; exact h.refuse _ _
  · rw [e]; exact ha

theorem gatedSlot {kind : Byte} {r : GateRow} {slot : Byte} {act : SlotId → State → Res}
    (ha : ∀ i, Gives RepliesKept s (act i s)) : Gives RepliesKept s (s.gatedSlot kind r slot act) := by
  obtain ⟨c, e⟩ | ⟨i, _, _, e⟩ := s.gatedSlot_cases kind r slot act
  · rw [e]; exact h.refuse _ _
  · rw [e]; exact ha i

theorem served {kind : Byte} {act : State → Res} (ha : Gives RepliesKept s (act s)) :
    Gives RepliesKept s (s.served kind act) := by
  obtain ⟨c, e⟩ | ⟨_, e⟩ := s.served_cases kind act
  · rw [e]; exact h.refuse _ _
  · rw [e]; exact ha

theorem withWarrant {kind id : Byte} {act : Warrant → State → Res} (ha : ∀ w, Gives RepliesKept s (act w s)) :
    Gives RepliesKept s (s.withWarrant kind id act) := by
  obtain ⟨c, e⟩ | ⟨w, _, _, e⟩ := s.withWarrant_cases kind id act
  · rw [e]; exact h.refuse _ _
  · rw [e]; exact ha w

end State.Vacant

/-! ### Lane requests and runs -/

theorem sameReplies_runStop (s : State) (l : LaneId) : SameReplies s (s.runStop l) := by
  unfold State.runStop
  dsimp only
  split
  · exact .refl s
  · split
    · exact SameReplies.trans sameReplies_setLane (sameReplies_withdraw _ (.lane l))
    · exact sameReplies_setLane
    · split
      · exact .refl s
      · exact sameReplies_setLane
    · exact .refl s

theorem sameReplies_takeStop (s : State) (stop : Stop) : SameReplies s (s.takeStop stop) := by
  obtain e | ⟨g, n, m, _, _, _, _, _, e⟩ := s.takeStop_cases stop
  · rw [e]; exact sameReplies_runStop s _
  · rw [e]; exact {}

theorem replies_serveLane {s : State} {l : LaneId} (empty : s.lanes[l].link.buffer = none) (f : Frame) :
    RepliesKept s (s.serveLane l f) := by
  have takes : SameReplies s (s.afterLaneTaking l) := .trans sameReplies_setLink (sameReplies_withdraw _ (.lane l))
  have reply (r : Reply) : RepliesKept s ((s.afterLaneTaking l).reply (.lane l) r) :=
    takes.kept.trans (replies_reply ((takes.buffer (.lane l)).trans empty) r)
  have answer : s.serveLane l f = (
    if f.kind = kindRun then (s.afterLaneTaking l).answerRun l f.body
    else if f.kind = kindLaneStatus then (s.afterLaneTaking l).answerLaneStatus l f.body
    else if f.kind = kindWarrantStatus then (s.afterLaneTaking l).answerWarrantStatus l f.body
    else (s.afterLaneTaking l).laneRefuse l f.kind .unknownRequest) := rfl
  rw [answer]
  split_ifs
  · unfold State.answerRun
    split
    · exact reply _
    · exact takes.kept.trans (SameReplies.trans sameReplies_setLane (sameReplies_join _ _)).kept
  · unfold State.answerLaneStatus
    split <;> exact reply _
  · rw [State.answerWarrantStatus_eq]
    exact reply _
  · exact reply _

theorem State.empty_of_laneReady {s : State} {l : LaneId} {kind : Byte} (ready : s.laneReady l kind = true) :
    s.lanes[l].link.buffer = none := by
  simp only [State.laneReady, Bool.and_eq_true, Option.isNone_iff_eq_none] at ready
  obtain ⟨⟨_, empty⟩, _⟩ := ready
  exact empty

theorem replies_takeLane (s : State) (l : LaneId) (kinds : Byte → Bool) : Gives RepliesKept s (s.takeLane l kinds) := by
  obtain e | ⟨f, _, _, ready, _, e⟩ := s.takeLane_cases l kinds
  · rw [e]; exact replies_same s
  · rw [e]; exact .next (replies_serveLane (State.empty_of_laneReady ready) f)

theorem replies_considerHead (s : State) (l : LaneId) : RepliesKept s (s.considerHead l) := by
  have rejoins : SameReplies s (s.rejoin l) := by
    unfold State.rejoin
    split
    · split
      · exact sameReplies_join s _
      · exact .refl s
    · exact .refl s
  rw [State.considerHead_eq]
  split
  · exact rejoins.kept
  · split
    · rename_i ready
      exact replies_serveLane (State.empty_of_laneReady ready) _
    · exact rejoins.kept

/-- What a consumed reply brings about takes no other reply away (R166). -/
theorem replies_handOn (s : State) (k : Link) (r : Reply) : RepliesKept s (s.handOn k r) := by
  cases k with
  | custody =>
    rw [State.handOn_custody]
    exact SameReplies.kept {}
  | lane l =>
    have moves : SameReplies s (s.setLane l s.lanes[l].moveOn) := sameReplies_setLane (by rw [Lane.moveOn_link])
    unfold State.handOn
    dsimp only
    refine RepliesKept.trans ?_ (replies_considerHead _ l)
    split
    · exact moves.kept
    · exact .refl s

/-! ### The walk (R90, R109) -/

section

variable {s : State} {g : RunGrant} (empty : s.lanes[g.lane].link.buffer = none)
include empty

theorem replies_endWalk (r : Run) (results : List EntryResult) (next : Nat) (reason : Option EndReason) :
    RepliesKept s (s.endWalk g r results next reason) := by
  refine RepliesKept.trans ⟨fun k y full => ?_⟩ (sameReplies_release _).kept
  cases k with
  | custody => exact full
  | lane m =>
    by_cases e : g.lane = m
    · subst e
      exact nomatch empty.symm.trans full
    · simp only [State.link, State.setLane_other _ _ _ _ e]
      exact full

theorem replies_walkOn : RepliesKept s (s.walkOn g) := by
  unfold State.walkOn
  split
  · exact .refl s
  · dsimp only
    split
    · exact (SameReplies.trans sameReplies_setLane (sameReplies_setEngine _ _)).kept
    · split
      · exact (replies_endWalk empty _ _ _ _).trans (sameReplies_runStop _ _).kept
      · exact replies_endWalk empty _ _ _ _
    · exact replies_endWalk empty _ _ _ _

end

end Sys2Proof.Machine
end

section
/-! PROOFS. Every command but its link's collect end, an erase and a stop leave a reply in its buffer: RepliesStayUntilCollected
(R164, R166, R174). -/

namespace Sys2Proof.Machine

/-! ### Key ceremonies and the Key Table -/

/-- While a custody command is in process its reply buffer is empty (R164). -/
theorem ServiceLaw.vacant {s : State} (h : ServiceLaw s) {p : Process} (process : s.custody.process = some p) : s.Vacant :=
  h.empty (by rw [process]; rfl)

theorem sameReplies_slots (s : State) (v : Vector Slot 48) : SameReplies s { s with slots := v } := {}

theorem replies_acceptComponent {s : State} (vacant : s.Vacant) (i : SlotId) (p : Assembly) (f : ComponentForm) :
    Gives RepliesKept s (.next (s.acceptComponent i p f)) := by
  unfold State.acceptComponent
  dsimp only
  split
  · exact replies_startProcess (.refl s) _
  · split
    · exact replies_startProcess (sameReplies_slots s _) _
    · exact vacant.answer (sameReplies_slots s _) _

theorem replies_execAssemble (s : State) : Gives RepliesKept s (execAssemble s) := by
  refine replies_takeCustody fun _ u vacant => vacant.readCustody fun f => vacant.gatedSlot fun i => vacant.refuseOr ?_
  split
  · exact vacant.refuse _ _
  · exact vacant.answer (sameReplies_slots u _) _

theorem replies_execComponent (s : State) : Gives RepliesKept s (execComponent s) := by
  refine replies_takeCustody fun _ u vacant => vacant.readCustody fun f => vacant.gatedSlot fun i => ?_
  split
  · exact vacant.refuse _ _
  · exact replies_acceptComponent vacant i _ f
  · exact replies_same u

theorem replies_execComponentCheckEnd {s : State} (h : ServiceLaw s) : Gives RepliesKept s (execComponentCheckEnd s) := by
  unfold execComponentCheckEnd
  split
  · rename_i process
    have ends := replies_endProcess (h.vacant process) (.refl s)
    split
    · exact .fault s _
    · dsimp only
      split
      · exact ends _
      · split
        · exact ends _
        · split
          · exact .fault s _
          · split
            · exact replies_nextOp (sameReplies_slots s _) _ _
            · exact replies_endProcess (h.vacant process) (sameReplies_slots s _) _
  · exact replies_same s

theorem replies_execFinalCheckEnd {s : State} (h : ServiceLaw s) : Gives RepliesKept s (execFinalCheckEnd s) := by
  unfold execFinalCheckEnd
  split
  · rename_i process
    split
    · exact .fault s _
    · exact .fault s _
    · dsimp only
      split
      · exact replies_endProcess (h.vacant process) (sameReplies_slots s _) _
      · exact replies_endProcess (h.vacant process) (sameReplies_slots s _) _
  · exact replies_same s

theorem replies_execAssemblyCancel (s : State) : Gives RepliesKept s (execAssemblyCancel s) := by
  refine replies_takeCustody fun _ u vacant => vacant.readCustody fun _ => vacant.gatedSlot fun i => ?_
  split
  · exact vacant.refuse _ _
  · exact vacant.refuseOr (vacant.answer (sameReplies_slots u _) _)

theorem replies_execSlotStatus (s : State) : Gives RepliesKept s (execSlotStatus s) :=
  replies_takeCustody fun _ u vacant => vacant.readCustody fun _ => vacant.gatedSlot fun _ => vacant.answer (.refl u) _

theorem replies_execSlotErase (s : State) : Gives RepliesKept s (execSlotErase s) := by
  refine replies_takeCustody fun _ u vacant => vacant.readCustody fun _ => vacant.gatedSlot fun i => ?_
  split
  · exact vacant.refuse _ _
  · exact vacant.refuseOr (vacant.answer (sameReplies_slots u _) _)

/-! ### The custody switch -/

/-- A change to RUN answers only a component in process (R33). -/
theorem replies_abandonComponent {s : State} (h : ServiceLaw s) : RepliesKept s s.abandonComponent := by
  unfold State.abandonComponent
  split
  · rename_i process
    have frees : SameReplies s ((s.inProcess none).withdraw .custody) := {}
    have answered : RepliesKept s (((s.inProcess none).withdraw .custody).custodyRefuse kindComponent .notInCustody) :=
      frees.kept.trans (replies_reply (frees.vacant (h.vacant process)) _)
    have goesOn (p : Process) : SameReplies s (s.inProcess (some p)) := {}
    split
    · split
      · exact (goesOn _).kept
      · exact answered
      · exact answered
    · exact .refl s
  · exact .refl s

theorem replies_changeToRun {s : State} (h : ServiceLaw s) : RepliesKept s s.changeToRun :=
  (replies_abandonComponent h).trans (sameReplies_slots s.abandonComponent _).kept

theorem replies_sampleSwitch {s : State} (h : ServiceLaw s) (pin : Level) : RepliesKept s (s.sampleSwitch pin) := by
  unfold State.sampleSwitch
  split
  rename_i position count confirmed _
  have law : ServiceLaw { s with custody := { s.custody with position := position, count := count } } := h.of_same {}
  have counts : SameReplies s { s with custody := { s.custody with position := position, count := count } } := {}
  dsimp only
  split
  · exact counts.kept.trans (replies_changeToRun law)
  · exact counts.kept

theorem replies_execCustodySwitchChange {s : State} (h : ServiceLaw s) (samples : List Level) :
    Gives RepliesKept s (execCustodySwitchChange samples s) := by
  have folds : RepliesKept s (samples.foldl State.sampleSwitch s) := by
    induction samples generalizing s with
    | nil => exact .refl s
    | cons pin pins ih => exact (replies_sampleSwitch h pin).trans (ih (serves_sampleSwitch h pin))
  exact .guarded (.refl s) (.next folds)

/-! ### Storage keys and key tokens -/

theorem sameReplies_draw (s : State) : SameReplies s s.draw.2 := {}

theorem replies_execInitialise (s : State) : Gives RepliesKept s (execInitialise s) :=
  replies_takeCustody fun _ u vacant => vacant.readCustody fun _ => vacant.gated
    (replies_startProcess (sameReplies_draw u) _)

theorem replies_execInitialisePatternEnd {s : State} (h : ServiceLaw s) :
    Gives RepliesKept s (execInitialisePatternEnd s) := by
  unfold execInitialisePatternEnd
  split
  · rename_i process
    split
    · exact .fault s _
    · exact replies_endProcess (h.vacant process) {} _
  · exact replies_same s

theorem replies_execStorageRoll (s : State) : Gives RepliesKept s (execStorageRoll s) := by
  refine replies_takeCustody fun _ u vacant => vacant.readCustody fun _ => vacant.gated ?_
  split
  · exact .fault u _
  · exact vacant.refuseOr (replies_startProcess (sameReplies_draw u) _)

theorem replies_execStorageRollPatternEnd {s : State} (h : ServiceLaw s) :
    Gives RepliesKept s (execStorageRollPatternEnd s) := by
  unfold execStorageRollPatternEnd
  split
  · rename_i process
    split
    · exact .fault s _
    · exact .fault s _
    · exact replies_endProcess (h.vacant process) {} _
  · exact replies_same s

theorem replies_execTokenExport (s : State) : Gives RepliesKept s (execTokenExport s) := by
  refine replies_takeCustody fun _ u vacant => vacant.readCustody fun _ => vacant.gatedSlot fun _ => ?_
  split
  · exact vacant.refuse _ _
  · exact .fault u _
  · exact replies_startProcess (.refl u) _

theorem replies_execTokenExportOperationEnd {s : State} (h : ServiceLaw s) :
    Gives RepliesKept s (execTokenExportOperationEnd s) := by
  unfold execTokenExportOperationEnd
  split
  · rename_i process
    have ends := replies_endProcess (h.vacant process) (.refl s)
    split
    · exact .fault s _
    · split
      · exact ends _
      · exact replies_nextOp (.refl s) _ _
      · exact ends _
  · exact replies_same s

theorem replies_execTokenImport (s : State) : Gives RepliesKept s (execTokenImport s) := by
  refine replies_takeCustody fun _ u vacant => vacant.readCustody fun f => vacant.gatedSlot fun _ => vacant.refuseOr ?_
  split
  · exact vacant.refuse _ _
  · split
    · exact vacant.answer (.refl u) _
    · exact replies_startProcess (.refl u) _

theorem replies_execTokenImportOperationEnd {s : State} (h : ServiceLaw s) :
    Gives RepliesKept s (execTokenImportOperationEnd s) := by
  unfold execTokenImportOperationEnd
  split
  · rename_i i token fromPrevious generation _ _ _ process
    have goesOn := replies_nextOp (.refl s)
    have ends (key : KeyValue) (c : CheckValue) :
        Gives RepliesKept s (.next (s.endImport i token fromPrevious generation key c)) := by
      unfold State.endImport
      split
      · exact replies_endProcess (h.vacant process) (sameReplies_slots s _) _
      · exact replies_endProcess (h.vacant process) (.refl s) _
    split
    · exact .fault s _
    · split
      · exact goesOn _ _
      · exact goesOn _ _
      · exact ends _ _
      · exact ends _ _
  · exact replies_same s

/-! ### Warrants -/

theorem sameReplies_warrants (s : State) (ws : List Warrant) : SameReplies s { s with warrants := ws } := {}

theorem replies_execWarrantOpen (s : State) : Gives RepliesKept s (execWarrantOpen s) := by
  refine replies_takeCustody fun _ u vacant => vacant.readCustody fun f => vacant.served ?_
  split
  · exact vacant.refuse _ _
  · split
    · exact vacant.refuse _ _
    · exact vacant.answer {} _

theorem replies_execWarrantHold (s : State) : Gives RepliesKept s (execWarrantHold s) :=
  replies_takeCustody fun _ u vacant => vacant.readCustody fun _ => vacant.withWarrant fun _ =>
    vacant.refuseOr (vacant.answer (sameReplies_warrants u _) _)

theorem replies_execWarrantRelease (s : State) : Gives RepliesKept s (execWarrantRelease s) :=
  replies_takeCustody fun _ u vacant => vacant.readCustody fun _ => vacant.withWarrant fun _ =>
    vacant.refuseOr (vacant.answer (sameReplies_warrants u _) _)

theorem replies_execWarrantExtend (s : State) : Gives RepliesKept s (execWarrantExtend s) :=
  replies_takeCustody fun _ u vacant => vacant.readCustody fun _ => vacant.withWarrant fun _ =>
    vacant.refuseOr (vacant.refuseOr (vacant.answer (sameReplies_warrants u _) _))

theorem replies_execWarrantClose (s : State) : Gives RepliesKept s (execWarrantClose s) :=
  replies_takeCustody fun _ u vacant => vacant.readCustody fun _ => vacant.withWarrant fun _ =>
    vacant.refuseOr (vacant.answer ((sameReplies_warrants u _).trans (sameReplies_slots _ _)) _)

theorem replies_execWarrantPurge (s : State) : Gives RepliesKept s (execWarrantPurge s) :=
  replies_takeCustody fun _ u vacant => vacant.readCustody fun _ => vacant.withWarrant fun _ =>
    vacant.refuseOr (vacant.answer (sameReplies_warrants u _) _)

theorem replies_execWarrantStatus (k : Link) (s : State) : Gives RepliesKept s (execWarrantStatus k s) := by
  unfold execWarrantStatus
  cases k with
  | custody =>
    exact replies_takeCustody fun _ u vacant => vacant.readCustody fun _ => vacant.withWarrant fun _ =>
      vacant.answer (.refl u) _
  | lane l => exact replies_takeLane s l _

theorem replies_execWarrantList (s : State) : Gives RepliesKept s (execWarrantList s) :=
  replies_takeCustody fun _ u vacant => vacant.readCustody fun _ => vacant.served (vacant.answer (.refl u) _)

/-! ### Lanes and the engine -/

theorem replies_execLaneBind (s : State) : Gives RepliesKept s (execLaneBind s) := by
  refine replies_takeCustody fun _ u vacant => vacant.readCustody fun f => vacant.served ?_
  split
  · exact vacant.refuse _ _
  · rename_i b _
    split
    · exact vacant.refuse _ _
    · split
      · exact vacant.refuse _ _
      · obtain ⟨v, e⟩ := u.moveRefs_rest u.lanes[b.lane].transport b.slot
        dsimp only
        rw [e]
        exact vacant.answer ((sameReplies_slots u v).trans sameReplies_setLane) _

theorem replies_execLaneUnbind (s : State) : Gives RepliesKept s (execLaneUnbind s) := by
  refine replies_takeCustody fun _ u vacant => vacant.readCustody fun _ => vacant.served ?_
  split
  · exact vacant.refuse _ _
  · dsimp only
    split
    · exact vacant.refuse _ _
    · exact vacant.refuseOr (vacant.answer ((sameReplies_slots u _).trans sameReplies_setLane) _)

theorem replies_execSetQuantum (s : State) : Gives RepliesKept s (execSetQuantum s) :=
  replies_takeCustody fun _ u vacant => vacant.readCustody fun _ => vacant.refuseOr (vacant.answer {} _)

theorem replies_execRun (l : LaneId) (s : State) : Gives RepliesKept s (execRun l s) := replies_takeLane s l _

theorem replies_execLaneStatus (l : LaneId) (s : State) : Gives RepliesKept s (execLaneStatus l s) := replies_takeLane s l _

/-- A walk begins with the lane's buffer empty (R109). -/
theorem replies_execGrant {s : State} (h : ServiceLaw s) : Gives RepliesKept s (execGrant s) := by
  unfold execGrant
  split
  · exact replies_same s
  · cases engine : s.engine with
    | idle =>
      dsimp only
      rw [State.choose_of_nobody (h.idle engine), engine]
      exact replies_same s
    | custody g =>
      dsimp only
      rw [engine]
      exact replies_same s
    | lane g =>
      obtain ⟨_, empty⟩ := h.laneHolds g engine
      dsimp only
      rw [engine]
      dsimp only
      split
      · exact .next (replies_walkOn empty)
      all_goals exact replies_same s

theorem replies_execCardKeyDerivationEnd (s : State) : Gives RepliesKept s (execCardKeyDerivationEnd s) := by
  unfold execCardKeyDerivationEnd
  split
  · split
    · exact .next (sameReplies_setEngine s _).kept
    · exact .fault s _
    all_goals exact replies_same s
  · exact replies_same s
  · exact replies_same s

theorem replies_execCardCheckValueEnd (s : State) : Gives RepliesKept s (execCardCheckValueEnd s) := by
  unfold execCardCheckValueEnd
  split
  · split
    · exact .next (sameReplies_setEngine s _).kept
    · exact .fault s _
    all_goals exact replies_same s
  · exact replies_same s
  · exact replies_same s

theorem replies_execKeystreamBlockEnd {s : State} (h : ServiceLaw s) : Gives RepliesKept s (execKeystreamBlockEnd s) := by
  unfold execKeystreamBlockEnd
  split
  · rename_i g engine
    obtain ⟨_, empty⟩ := h.laneHolds g engine
    split
    · split
      · exact replies_same s
      · have completes (tie : Nat) (o : Block) := (same_completeEntry s g tie o).sameReplies
        exact .next ((completes _ _).kept.trans (replies_walkOn (((completes _ _).buffer (.lane g.lane)).trans empty)))
    · exact .fault s _
    all_goals exact replies_same s
  · exact replies_same s
  · exact replies_same s

/-! ### The links -/

theorem sameReplies_clearLink (s : State) (k : Link) : SameReplies s (s.clearLink k) := sameReplies_setLink

theorem sameReplies_frameError (s : State) (k : Link) : SameReplies s (s.frameError k) := sameReplies_setLink

theorem sameReplies_receive (s : State) (k : Link) (bytes : List Byte) : SameReplies s (s.receive k bytes) := by
  have immediate (kind : Byte) : SameReplies s (s.immediate k kind) := by
    unfold State.immediate
    split
    · exact sameReplies_clearLink s _
    · split
      · exact sameReplies_runStop s _
      · exact sameReplies_clearLink s _
  unfold State.receive
  split
  · split
    · split
      · split
        · exact immediate _
        · exact sameReplies_frameError s k
      · exact sameReplies_setLink (LinkState.receive_buffer _ _)
    · exact sameReplies_frameError s k
  · exact sameReplies_frameError s k

theorem replies_execRequestTransfer (k : Link) (x : Shifted) (s : State) :
    Gives RepliesKept s (execRequestTransfer k x s) := by
  have shifts : SameReplies s (s.shiftOut k (List.replicate x.bytes.length 0)) := sameReplies_setLink
  refine .guarded (.refl s) (.next (shifts.trans ?_).kept)
  unfold State.receiveTransfer
  split
  · exact sameReplies_receive _ k _
  · exact sameReplies_frameError _ k

theorem replies_execCollectBegin (k : Link) (s : State) : Gives RepliesKept s (execCollectBegin k s) :=
  .guarded (.refl s) (.next (SameReplies.kept sameReplies_setLink))

/-- The end of a collect takes away no reply of another link (R166). -/
theorem reply_of_execCollectEnd {s t : State} {k m : Link} {r : Reply} {clocked cut : Nat} (other : k ≠ m)
    (h : execCollectEnd k clocked cut s = .next t) (full : (s.link m).buffer = some r) : (t.link m).buffer = some r := by
  have untouched (x : LinkState) : ((s.setLink k x).link m).buffer = some r := by
    rwa [State.link_setLink_other _ _ _ _ other]
  unfold execCollectEnd at h
  split at h
  · obtain rfl := Host.Outcome.next.inj h
    exact full
  · dsimp only at h
    split at h
    · obtain rfl := Host.Outcome.next.inj h
      exact untouched _
    · obtain rfl := Host.Outcome.next.inj h
      exact (replies_handOn _ k _).kept m r (untouched _)

theorem replies_execUnknownRequest (k : Link) (s : State) : Gives RepliesKept s (execUnknownRequest k s) := by
  unfold execUnknownRequest
  cases k with
  | custody =>
    dsimp only
    split
    · exact replies_same s
    · split
      · exact replies_same s
      · exact replies_takeCustody fun _ u vacant => vacant.refuse _ _
  | lane l => exact replies_takeLane s l _

theorem replies_execLinkClear (s : State) : Gives RepliesKept s (execLinkClear s) :=
  .guarded (.refl s) (.next (sameReplies_clearLink s _).kept)

theorem replies_execLaneClear (l : LaneId) (s : State) : Gives RepliesKept s (execLaneClear l s) :=
  .guarded (.refl s) (.next (sameReplies_clearLink s _).kept)

theorem replies_execRunStop (stop : Stop) (s : State) : Gives RepliesKept s (execRunStop stop s) :=
  .guarded (.refl s) (.next (sameReplies_takeStop s stop).kept)

/-! ### The device -/

theorem replies_execDeviceStatus (s : State) : Gives RepliesKept s (execDeviceStatus s) :=
  replies_takeCustody fun _ u vacant => vacant.readCustody fun _ => vacant.answer (.refl u) _

theorem replies_execTamperSetup (raw : BitVec 6) (s : State) : Gives RepliesKept s (execTamperSetup raw s) := by
  refine replies_takeCustody fun _ u vacant => vacant.readCustody fun _ => vacant.gated ?_
  split
  · exact vacant.refuse _ _
  · exact vacant.answer {} _

theorem replies_execTamperAck (s : State) : Gives RepliesKept s (execTamperAck s) := by
  refine replies_takeCustody fun _ u vacant => vacant.readCustody fun _ => vacant.gated ?_
  split
  · exact vacant.refuseOr (vacant.answer {} _)
  · exact vacant.answer {} _

theorem replies_execSupplyAboveThreshold (mv : Nat) (s : State) : Gives RepliesKept s (execSupplyAboveThreshold mv s) := by
  refine .guarded (.refl s) ?_
  split <;> exact .next (SameReplies.kept {})

theorem replies_execSupplyBelowThreshold (mv : Nat) (s : State) : Gives RepliesKept s (execSupplyBelowThreshold mv s) := by
  refine .guarded (.refl s) ?_
  split <;> exact .next (SameReplies.kept {})

theorem replies_execEraseComplete (s : State) : Gives RepliesKept s (execEraseComplete s) :=
  .guarded (.refl s) (.next (SameReplies.kept {}))

theorem State.keepDomain_mode (s : State) : s.keepDomain.mode = s.mode := by
  unfold State.keepDomain
  split <;> rfl

theorem sameReplies_keepDomain (s : State) : SameReplies s s.keepDomain := by
  unfold State.keepDomain
  split
  · exact .refl s
  · exact {}

theorem replies_execBackupBatteryFailure (b : Bool) (s : State) : Gives RepliesKept s (execBackupBatteryFailure b s) := by
  have fails : SameReplies s { s with battery := false } := {}
  have refits (u : State) : SameReplies u { u with battery := b } := {}
  exact .next ((fails.trans (sameReplies_keepDomain _)).trans (refits _)).kept

theorem replies_execBatteryBackedMemoryFault (i : SlotId) (b : SlotBody) (n : Nat) (w : BitVec 32) (s : State) :
    Gives RepliesKept s (execBatteryBackedMemoryFault i b n w s) :=
  .guarded (.refl s) (.next (SameReplies.kept {}))

/-! ### Erases and stops (R141, R150, R158) -/

/-- An erase has begun, or the logic has stopped, or has started anew: all buffers were emptied. -/
def Mode.Empties (m : Mode) : Prop := m = .erasing ∨ m = .stopped ∨ m = .starting .check

/-- Every reply is still in its buffer, but where an erase or a stop has emptied the buffers. -/
def RepliesStay (s t : State) : Prop := t.mode.Empties ∨ RepliesKept s t

theorem Gives.stay {s : State} {r : Res} (h : Gives RepliesKept s r) : Gives RepliesStay s r := fun t e => .inr (h t e)

theorem RepliesStay.refl (s : State) : RepliesStay s s := .inr (.refl s)

theorem stay_erasing {s t : State} (mode : t.mode = .erasing) : Gives RepliesStay s (.next t) := .next (.inl (.inl mode))

theorem stay_stopped {s t : State} (mode : t.mode = .stopped) : Gives RepliesStay s (.next t) :=
  .next (.inl (.inr (.inl mode)))

theorem stay_starting {s t : State} (mode : t.mode = .starting .check) : Gives RepliesStay s (.next t) :=
  .next (.inl (.inr (.inr mode)))

/-- An event of the tamper inputs or of the supply: it begins an erase or leaves the replies, and no erase ends with it (R139,
R140). -/
structure TamperKept (s t : State) : Prop where
  erasing : s.mode = .erasing → t.mode = .erasing
  replies : t.mode = .erasing ∨ RepliesKept s t

theorem TamperKept.of_same {s t : State} (mode : t.mode = s.mode) (same : SameReplies s t) : TamperKept s t :=
  ⟨mode.trans, .inr same.kept⟩

theorem TamperKept.refl (s : State) : TamperKept s s := .of_same rfl (.refl s)

theorem TamperKept.trans {s t u : State} (h : TamperKept s t) (k : TamperKept t u) : TamperKept s u := by
  refine ⟨k.erasing ∘ h.erasing, ?_⟩
  obtain erases | second := k.replies
  · exact .inl erases
  · obtain erased | first := h.replies
    · exact .inl (k.erasing erased)
    · exact .inr (first.trans second)

theorem TamperKept.stay {s t : State} (h : TamperKept s t) : RepliesStay s t := h.replies.imp .inl id

theorem tamperKept_tamper (s : State) (t : Tamper) : TamperKept s { s with tamper := t } := .of_same rfl {}

theorem tamperKept_notice (s : State) : TamperKept s s.notice := by
  unfold State.notice
  split
  · rename_i ready
    obtain ⟨_, empty, _⟩ := State.custodyReady_iff.1 ready
    exact ⟨id, .inr (replies_reply (k := .custody) empty _)⟩
  · exact .refl s

theorem tamperKept_orderErase (s : State) : TamperKept s s.orderErase := by
  have begins : TamperKept s s.eraseBegin := ⟨fun _ => rfl, .inl rfl⟩
  unfold State.orderErase
  split
  · exact begins
  · exact begins
  · exact begins
  · exact .refl s
  · exact tamperKept_tamper s _
  · exact tamperKept_tamper s _

theorem tamperKept_tamperEvent (s : State) (x : Source) (r : Response) : TamperKept s (s.tamperEvent x r) := by
  unfold State.tamperEvent
  dsimp only
  split
  · exact (tamperKept_tamper s _).trans (tamperKept_notice _)
  · exact (tamperKept_tamper s _).trans (tamperKept_orderErase _)

theorem tamperKept_sampleInput (s : State) (i : InputId) (v : Level) : TamperKept s (s.sampleInput i v) := by
  unfold State.sampleInput
  dsimp only
  split
  · exact (tamperKept_tamper s _).trans (tamperKept_tamperEvent _ _ _)
  · exact tamperKept_tamper s _

theorem stay_execTamperInputEdge (i : InputId) (samples : List Level) (s : State) :
    Gives RepliesStay s (execTamperInputEdge i samples s) := by
  have folds : TamperKept s (samples.foldl (fun s v => s.sampleInput i v) s) := by
    induction samples generalizing s with
    | nil => exact .refl s
    | cons v vs ih => exact (tamperKept_sampleInput s i v).trans (ih _)
  exact .guarded (.refl s) (.next folds.stay)

theorem stay_execSupplyTimerExpiry (s : State) : Gives RepliesStay s (execSupplyTimerExpiry s) :=
  .guarded (.refl s) (.next ((tamperKept_tamper s _).trans (tamperKept_tamperEvent _ _ _)).stay)

theorem stay_execMainSupplyLoss (mv : Nat) (cut : SweepCut) (s : State) :
    Gives RepliesStay s (execMainSupplyLoss mv cut s) := by
  refine .guarded (.refl s) (stay_stopped ?_)
  rw [State.keepDomain_mode]
  exact s.stopIfRunning_mode cut

theorem stay_execResetAssert (cut : SweepCut) (s : State) : Gives RepliesStay s (execResetAssert cut s) :=
  .guarded (.refl s) (stay_stopped (s.stopIfRunning_mode cut))

theorem stay_execMainSupplyRise (mv : Nat) (s : State) : Gives RepliesStay s (execMainSupplyRise mv s) := by
  refine .guarded (.refl s) ?_
  dsimp only
  split
  · exact .next (.inr (SameReplies.kept {}))
  · exact stay_starting rfl

theorem stay_execResetRelease (s : State) : Gives RepliesStay s (execResetRelease s) := by
  refine .guarded (.refl s) ?_
  dsimp only
  split
  · exact stay_starting rfl
  · exact .next (.inr (SameReplies.kept {}))

theorem sameReplies_setMode (s : State) (m : Mode) : SameReplies s { s with mode := m } := {}

theorem stay_execValidityCheck (raw : BitVec 6) (s : State) : Gives RepliesStay s (execValidityCheck raw s) := by
  refine .guarded (.refl s) ?_
  split
  · exact .next (.inr (SameReplies.kept {}))
  · split
    · exact stay_erasing rfl
    · exact .next (.inr (sameReplies_setMode s _).kept)

/-- A battery-loss clearing leaves the links as they are (R151). -/
theorem sameReplies_clearDomain (s : State) : SameReplies s s.clearDomain := by
  refine ⟨fun k => ?_⟩
  cases k with
  | custody => rfl
  | lane l =>
    simp only [State.link, State.clearDomain, ofFn_get]
    rfl

theorem stay_execBatteryLossClearingEnd (s : State) : Gives RepliesStay s (execBatteryLossClearingEnd s) := by
  refine .guarded (.refl s) ?_
  split
  · exact stay_erasing rfl
  · exact .next (.inr ((sameReplies_clearDomain s).trans (sameReplies_setMode _ _)).kept)

theorem stay_execSweepEnd (s : State) : Gives RepliesStay s (execSweepEnd s) := by
  have sweeps : SameReplies s s.sweep := ⟨fun k => congrArg LinkState.buffer (s.sweepFirst_link 6 k)⟩
  have enters (m : Mode) : RepliesStay s { s.sweep with mode := m } := .inr (sweeps.trans (sameReplies_setMode _ m)).kept
  refine .guarded (.refl s) ?_
  unfold State.afterSweep
  split
  · exact stay_erasing rfl
  · split
    · exact .next (enters _)
    · split <;> exact .next (enters _)

/-! ### Every command -/

theorem stay_exec {c : Instr} {s : State} (h : ServiceLaw s) (collects : ∀ k clocked cut, c ≠ .collectEnd k clocked cut) :
    Gives RepliesStay s (exec c s) := by
  cases c with
  | requestTransfer k x => exact (replies_execRequestTransfer k x s).stay
  | collectBegin k => exact (replies_execCollectBegin k s).stay
  | collectEnd k clocked cut => exact absurd rfl (collects k clocked cut)
  | unknownRequest k => exact (replies_execUnknownRequest k s).stay
  | slotStatus => exact (replies_execSlotStatus s).stay
  | slotErase => exact (replies_execSlotErase s).stay
  | assemble => exact (replies_execAssemble s).stay
  | component => exact (replies_execComponent s).stay
  | componentCheckEnd => exact (replies_execComponentCheckEnd h).stay
  | finalCheckEnd => exact (replies_execFinalCheckEnd h).stay
  | assemblyCancel => exact (replies_execAssemblyCancel s).stay
  | custodySwitchChange samples => exact (replies_execCustodySwitchChange h samples).stay
  | initialise => exact (replies_execInitialise s).stay
  | initialisePatternEnd => exact (replies_execInitialisePatternEnd h).stay
  | storageRoll => exact (replies_execStorageRoll s).stay
  | storageRollPatternEnd => exact (replies_execStorageRollPatternEnd h).stay
  | tokenExport => exact (replies_execTokenExport s).stay
  | tokenExportOperationEnd => exact (replies_execTokenExportOperationEnd h).stay
  | tokenImport => exact (replies_execTokenImport s).stay
  | tokenImportOperationEnd => exact (replies_execTokenImportOperationEnd h).stay
  | warrantOpen => exact (replies_execWarrantOpen s).stay
  | warrantHold => exact (replies_execWarrantHold s).stay
  | warrantRelease => exact (replies_execWarrantRelease s).stay
  | warrantExtend => exact (replies_execWarrantExtend s).stay
  | warrantClose => exact (replies_execWarrantClose s).stay
  | warrantPurge => exact (replies_execWarrantPurge s).stay
  | warrantStatus k => exact (replies_execWarrantStatus k s).stay
  | warrantList => exact (replies_execWarrantList s).stay
  | laneBind => exact (replies_execLaneBind s).stay
  | laneUnbind => exact (replies_execLaneUnbind s).stay
  | setQuantum => exact (replies_execSetQuantum s).stay
  | tamperSetup raw => exact (replies_execTamperSetup raw s).stay
  | tamperAck => exact (replies_execTamperAck s).stay
  | deviceStatus => exact (replies_execDeviceStatus s).stay
  | linkClear => exact (replies_execLinkClear s).stay
  | run l => exact (replies_execRun l s).stay
  | laneStatus l => exact (replies_execLaneStatus l s).stay
  | runStop stop => exact (replies_execRunStop stop s).stay
  | laneClear l => exact (replies_execLaneClear l s).stay
  | grant => exact (replies_execGrant h).stay
  | cardKeyDerivationEnd => exact (replies_execCardKeyDerivationEnd s).stay
  | cardCheckValueEnd => exact (replies_execCardCheckValueEnd s).stay
  | keystreamBlockEnd => exact (replies_execKeystreamBlockEnd h).stay
  | tamperInputEdge i samples => exact stay_execTamperInputEdge i samples s
  | eraseComplete => exact (replies_execEraseComplete s).stay
  | supplyAboveThreshold mv => exact (replies_execSupplyAboveThreshold mv s).stay
  | supplyBelowThreshold mv => exact (replies_execSupplyBelowThreshold mv s).stay
  | supplyTimerExpiry => exact stay_execSupplyTimerExpiry s
  | mainSupplyLoss mv cut => exact stay_execMainSupplyLoss mv cut s
  | resetAssert cut => exact stay_execResetAssert cut s
  | mainSupplyRise mv => exact stay_execMainSupplyRise mv s
  | resetRelease => exact stay_execResetRelease s
  | validityCheck raw => exact stay_execValidityCheck raw s
  | batteryLossClearingEnd => exact stay_execBatteryLossClearingEnd s
  | sweepEnd => exact stay_execSweepEnd s
  | backupBatteryFailure b => exact (replies_execBackupBatteryFailure b s).stay
  | batteryBackedMemoryFault i b n w => exact (replies_execBatteryBackedMemoryFault i b n w s).stay

/-- Settles O55: a collect's end touches its own link's reply only, and every other command leaves the replies or empties all
the buffers. -/
theorem repliesStayUntilCollected : Obligations.RepliesStayUntilCollected := by
  intro c s t k r law step full
  by_cases collects : ∃ m clocked cut, c = .collectEnd m clocked cut
  · obtain ⟨m, clocked, cut, rfl⟩ := collects
    by_cases own : m = k
    · exact .inr (.inl ⟨clocked, cut, by rw [own]⟩)
    · exact .inl (reply_of_execCollectEnd own step full)
  · obtain empties | kept := stay_exec law (fun m clocked cut e => collects ⟨m, clocked, cut, e⟩) t step
    · exact .inr (.inr empties)
    · exact .inl (kept.kept k r full)

end Sys2Proof.Machine
end

section
/-! PROOFS. The queue of commands that wait: a step takes its front command off, and no command touches the rest:
StepRunsTheFrontCommand, CommandsLeaveTheQueue. -/

namespace Sys2Proof.Machine

/-! ### A step and the queue -/

@[simp] theorem State.withPending_pending (s : State) (cs : List Instr) : (s.withPending cs).pending = cs := rfl

@[simp] theorem State.withPending_withPending (s : State) (cs ds : List Instr) :
    (s.withPending cs).withPending ds = s.withPending ds := rfl

theorem step_of_cons {s : State} {c : Instr} {cs : List Instr} (h : s.pending = c :: cs) :
    step s = exec c (s.withPending cs) := by simp [step, h]

/-- Settles O1: a queue with a front command steps by it, and an empty one, but in ERASING, by the idle tick. -/
theorem stepRunsTheFrontCommand : Obligations.StepRunsTheFrontCommand := by
  refine ⟨fun s c cs => ?_, fun s empty awake => ?_⟩
  · rw [step_of_cons (s.withPending_pending (c :: cs)), State.withPending_withPending]
  · rw [step_of_nil empty, State.tick_idle awake]

/-! ### What leaves the queue as it is -/

/-- The same commands wait, in the same order. -/
def QueueKept (s t : State) : Prop := t.pending = s.pending

theorem queueKept_steady : Steady QueueKept where
  refl _ := rfl
  trans first second := Eq.trans second first
  reply := State.reply_pending
  popFrame := State.popFrame_pending

theorem queue_next {s t : State} (h : t.pending = s.pending) : Gives QueueKept s (.next t) := .next h

@[simp] theorem State.acceptComponent_pending (s : State) (i : SlotId) (p : Assembly) (f : ComponentForm) :
    (s.acceptComponent i p f).pending = s.pending := by
  unfold State.acceptComponent
  dsimp only
  split
  · simp
  · split <;> simp

@[simp] theorem State.endImport_pending (s : State) (i : SlotId) (t : Token) (b : Bool) (n : Nat) (key : KeyValue)
    (c : CheckValue) : (s.endImport i t b n key c).pending = s.pending := by
  unfold State.endImport
  split <;> simp

@[simp] theorem State.moveRefs_pending (s : State) (old : Option SlotId) (new : SlotId) :
    (s.moveRefs old new).pending = s.pending := by
  obtain ⟨v, e⟩ := s.moveRefs_rest old new
  rw [e]

@[simp] theorem State.takeStop_pending (s : State) (stop : Stop) : (s.takeStop stop).pending = s.pending := by
  obtain e | ⟨g, n, m, _, _, _, _, _, e⟩ := s.takeStop_cases stop
  · rw [e, State.runStop_pending]
  · rw [e]

@[simp] theorem State.receiveTransfer_pending (s : State) (k : Link) (x : Shifted) :
    (s.receiveTransfer k x).pending = s.pending := by
  unfold State.receiveTransfer
  split <;> simp

@[simp] theorem State.afterSweep_pending (s : State) : s.afterSweep.pending = s.pending := by
  unfold State.afterSweep
  split
  · exact s.eraseBegin_pending
  · split
    · rfl
    · split <;> rfl

@[simp] theorem State.cutSweep_pending (s : State) (cut : SweepCut) : (s.cutSweep cut).pending = s.pending := by
  unfold State.cutSweep
  split <;> simp

@[simp] theorem State.stopLogic_pending (s : State) (cut : SweepCut) : (s.stopLogic cut).pending = s.pending := by
  simp [State.stopLogic]

@[simp] theorem State.stopIfRunning_pending (s : State) (cut : SweepCut) :
    (if s.mode.running then s.stopLogic cut else s).pending = s.pending := by
  split <;> simp

@[simp] theorem State.keepDomain_pending (s : State) : s.keepDomain.pending = s.pending := by
  unfold State.keepDomain
  split <;> rfl

@[simp] theorem State.enterStarting_pending (s : State) : s.enterStarting.pending = s.pending := by
  simp [State.enterStarting]

/-! ### The sorts of request -/

theorem queue_takeLane (s : State) (l : LaneId) (kinds : Byte → Bool) : Gives QueueKept s (s.takeLane l kinds) :=
  queueKept_steady.takeLane (s.serveLane_pending l)

/-- A custody request goes through its taking and its form to what it does. -/
theorem queue_custodyRequest {α : Type} {s : State} {kind : Byte} {form : List Byte → Option α} {act : α → State → Res}
    (acts : ∀ x u, Gives QueueKept u (act x u)) :
    Gives QueueKept s (s.takeCustody kind fun body s => s.readCustody kind (form body) act) :=
  queueKept_steady.takeCustody fun _ u _ => queueKept_steady.readCustody fun x => acts x u

/-- A custody request with a gate (R14). -/
theorem queue_gatedRequest {α : Type} {s : State} {kind : Byte} {form : List Byte → Option α} {row : GateRow}
    {act : α → State → Res} (acts : ∀ x u, Gives QueueKept u (act x u)) :
    Gives QueueKept s
      (s.takeCustody kind fun body s => s.readCustody kind (form body) fun x s => s.gated kind row (act x)) :=
  queue_custodyRequest fun x u => queueKept_steady.gated (acts x u)

/-- A custody request with a gate that names a slot (R14). -/
theorem queue_slotRequest {α : Type} {s : State} {kind : Byte} {form : List Byte → Option α} {row : GateRow}
    {slot : α → Byte} {act : α → SlotId → State → Res} (acts : ∀ x i u, Gives QueueKept u (act x i u)) :
    Gives QueueKept s
      (s.takeCustody kind fun body s => s.readCustody kind (form body) fun x s => s.gatedSlot kind row (slot x) (act x)) :=
  queue_custodyRequest fun x u => queueKept_steady.gatedSlot fun i => acts x i u

/-- A custody request that the device state may refuse (R59). -/
theorem queue_servedRequest {α : Type} {s : State} {kind : Byte} {form : List Byte → Option α} {act : α → State → Res}
    (acts : ∀ x u, Gives QueueKept u (act x u)) :
    Gives QueueKept s (s.takeCustody kind fun body s => s.readCustody kind (form body) fun x s => s.served kind (act x)) :=
  queue_custodyRequest fun x u => queueKept_steady.served (acts x u)

/-- A custody request that names a warrant (R59). -/
theorem queue_warrantRequest {α : Type} {s : State} {kind : Byte} {form : List Byte → Option α} {id : α → Byte}
    {act : α → Warrant → State → Res} (acts : ∀ x w u, Gives QueueKept u (act x w u)) :
    Gives QueueKept s
      (s.takeCustody kind fun body s => s.readCustody kind (form body) fun x s => s.withWarrant kind (id x) (act x)) :=
  queue_custodyRequest fun x u => queueKept_steady.withWarrant fun w => acts x w u

/-! ### Key ceremonies and the Key Table -/

theorem queue_execAssemble (s : State) : Gives QueueKept s (execAssemble s) := by
  have steady := queueKept_steady
  refine queue_slotRequest fun f i u => steady.refuseOr ?_
  split
  · exact steady.refuse u _ _
  · exact queue_next (by simp)

theorem queue_execComponent (s : State) : Gives QueueKept s (execComponent s) := by
  have steady := queueKept_steady
  refine queue_slotRequest fun f i u => ?_
  split
  · exact steady.refuse u _ _
  · exact queue_next (u.acceptComponent_pending _ _ _)
  · exact steady.same u

theorem queue_execComponentCheckEnd (s : State) : Gives QueueKept s (execComponentCheckEnd s) := by
  unfold execComponentCheckEnd
  split
  · split
    · exact .fault s _
    · dsimp only
      split
      · exact queue_next (s.endProcess_pending _)
      · split
        · exact queue_next (s.endProcess_pending _)
        · split
          · exact .fault s _
          · split <;> exact queue_next (by simp)
  · exact queueKept_steady.same s

theorem queue_execFinalCheckEnd (s : State) : Gives QueueKept s (execFinalCheckEnd s) := by
  unfold execFinalCheckEnd
  split
  · split
    · exact .fault s _
    · exact .fault s _
    · dsimp only
      split <;> exact queue_next (by simp)
  · exact queueKept_steady.same s

theorem queue_execAssemblyCancel (s : State) : Gives QueueKept s (execAssemblyCancel s) := by
  have steady := queueKept_steady
  refine queue_slotRequest fun f i u => ?_
  split
  · exact steady.refuse u _ _
  · exact steady.refuseOr (queue_next (by simp))

theorem queue_execCustodySwitchChange (samples : List Level) (s : State) :
    Gives QueueKept s (execCustodySwitchChange samples s) :=
  queueKept_steady.guarded (.next (queueKept_steady.foldl State.sampleSwitch_pending s samples))

theorem queue_execSlotStatus (s : State) : Gives QueueKept s (execSlotStatus s) :=
  queue_slotRequest fun _ _ u => queue_next (u.custodyOk_pending _ _ _)

theorem queue_execSlotErase (s : State) : Gives QueueKept s (execSlotErase s) := by
  have steady := queueKept_steady
  refine queue_slotRequest fun f i u => ?_
  split
  · exact steady.refuse u _ _
  · exact steady.refuseOr (queue_next (by simp))

/-! ### Storage keys and tokens -/

theorem queue_execInitialise (s : State) : Gives QueueKept s (execInitialise s) :=
  queue_gatedRequest fun _ u => queue_next (u.draw.2.startProcess_pending _)

theorem queue_execInitialisePatternEnd (s : State) : Gives QueueKept s (execInitialisePatternEnd s) := by
  unfold execInitialisePatternEnd
  split
  · split
    · exact .fault s _
    · exact queue_next (by simp)
  · exact queueKept_steady.same s

theorem queue_execStorageRoll (s : State) : Gives QueueKept s (execStorageRoll s) := by
  have steady := queueKept_steady
  refine queue_gatedRequest fun _ u => ?_
  split
  · exact .fault u _
  · exact steady.refuseOr (queue_next (u.draw.2.startProcess_pending _))

theorem queue_execStorageRollPatternEnd (s : State) : Gives QueueKept s (execStorageRollPatternEnd s) := by
  unfold execStorageRollPatternEnd
  split
  · split
    · exact .fault s _
    · exact .fault s _
    · exact queue_next (by simp)
  · exact queueKept_steady.same s

theorem queue_execTokenExport (s : State) : Gives QueueKept s (execTokenExport s) := by
  have steady := queueKept_steady
  refine queue_slotRequest fun f i u => ?_
  split
  · exact steady.refuse u _ _
  · exact .fault u _
  · exact queue_next (u.startProcess_pending _)

theorem queue_execTokenExportOperationEnd (s : State) : Gives QueueKept s (execTokenExportOperationEnd s) := by
  unfold execTokenExportOperationEnd
  split
  · split
    · exact .fault s _
    · split <;> exact queue_next (by simp)
  · exact queueKept_steady.same s

theorem queue_execTokenImport (s : State) : Gives QueueKept s (execTokenImport s) := by
  have steady := queueKept_steady
  refine queue_slotRequest fun f i u => steady.refuseOr ?_
  split
  · exact steady.refuse u _ _
  · split
    · exact queue_next (u.reply_pending _ _)
    · exact queue_next (u.startProcess_pending _)

theorem queue_execTokenImportOperationEnd (s : State) : Gives QueueKept s (execTokenImportOperationEnd s) := by
  unfold execTokenImportOperationEnd
  split
  · split
    · exact .fault s _
    · split <;> exact queue_next (by simp)
  · exact queueKept_steady.same s

/-! ### Warrants -/

theorem queue_execWarrantOpen (s : State) : Gives QueueKept s (execWarrantOpen s) := by
  have steady := queueKept_steady
  refine queue_servedRequest fun f u => ?_
  split
  · exact steady.refuse u _ _
  · split
    · exact steady.refuse u _ _
    · exact queue_next (by simp)

theorem queue_execWarrantHold (s : State) : Gives QueueKept s (execWarrantHold s) :=
  queue_warrantRequest fun _ _ _ => queueKept_steady.refuseOr (queue_next (by simp))

theorem queue_execWarrantRelease (s : State) : Gives QueueKept s (execWarrantRelease s) :=
  queue_warrantRequest fun _ _ _ => queueKept_steady.refuseOr (queue_next (by simp))

theorem queue_execWarrantExtend (s : State) : Gives QueueKept s (execWarrantExtend s) :=
  queue_warrantRequest fun _ _ _ => queueKept_steady.refuseOr (queueKept_steady.refuseOr (queue_next (by simp)))

theorem queue_execWarrantClose (s : State) : Gives QueueKept s (execWarrantClose s) :=
  queue_warrantRequest fun _ _ _ => queueKept_steady.refuseOr (queue_next (by simp))

theorem queue_execWarrantPurge (s : State) : Gives QueueKept s (execWarrantPurge s) :=
  queue_warrantRequest fun _ _ _ => queueKept_steady.refuseOr (queue_next (by simp))

theorem queue_execWarrantStatus (k : Link) (s : State) : Gives QueueKept s (execWarrantStatus k s) := by
  cases k with
  | custody =>
    unfold execWarrantStatus
    exact queue_warrantRequest fun _ _ u => queue_next (u.custodyOk_pending _ _ _)
  | lane l =>
    unfold execWarrantStatus
    exact queue_takeLane s l _

theorem queue_execWarrantList (s : State) : Gives QueueKept s (execWarrantList s) :=
  queue_servedRequest fun _ u => queue_next (u.custodyOk_pending _ _ _)

/-! ### Lanes and the engine -/

theorem queue_execLaneBind (s : State) : Gives QueueKept s (execLaneBind s) := by
  have steady := queueKept_steady
  refine queue_servedRequest fun f u => ?_
  split
  · exact steady.refuse u _ _
  · refine steady.refuseOr ?_
    split
    · exact steady.refuse u _ _
    · exact queue_next (by simp)

theorem queue_execLaneUnbind (s : State) : Gives QueueKept s (execLaneUnbind s) := by
  have steady := queueKept_steady
  refine queue_servedRequest fun f u => ?_
  split
  · exact steady.refuse u _ _
  · dsimp only
    split
    · exact steady.refuse u _ _
    · exact steady.refuseOr (queue_next (by simp))

theorem queue_execSetQuantum (s : State) : Gives QueueKept s (execSetQuantum s) :=
  queue_custodyRequest fun _ _ => queueKept_steady.refuseOr (queue_next (by simp))

theorem queue_execRun (l : LaneId) (s : State) : Gives QueueKept s (execRun l s) := queue_takeLane s l _

theorem queue_execLaneStatus (l : LaneId) (s : State) : Gives QueueKept s (execLaneStatus l s) := queue_takeLane s l _

theorem queue_execRunStop (stop : Stop) (s : State) : Gives QueueKept s (execRunStop stop s) :=
  queueKept_steady.guarded (queue_next (s.takeStop_pending stop))

/-- The choice and the walk that follows it are the arbiter's and the engine's. -/
theorem queue_execGrant (s : State) : Gives QueueKept s (execGrant s) := by
  unfold execGrant
  split
  · exact queueKept_steady.same s
  · extract_lets u
    have chosen : u.pending = s.pending := by
      unfold u
      split
      · exact s.choose_pending
      · rfl
      · rfl
    split
    · split
      · exact queue_next ((u.walkOn_pending _).trans chosen)
      all_goals exact queue_next chosen
    · exact queue_next chosen
    · exact queue_next chosen

theorem queue_execCardKeyDerivationEnd (s : State) : Gives QueueKept s (execCardKeyDerivationEnd s) := by
  unfold execCardKeyDerivationEnd
  split
  · split
    · exact queue_next rfl
    · exact .fault s _
    all_goals exact queueKept_steady.same s
  · exact queueKept_steady.same s
  · exact queueKept_steady.same s

theorem queue_execCardCheckValueEnd (s : State) : Gives QueueKept s (execCardCheckValueEnd s) := by
  unfold execCardCheckValueEnd
  split
  · split
    · exact queue_next rfl
    · exact .fault s _
    all_goals exact queueKept_steady.same s
  · exact queueKept_steady.same s
  · exact queueKept_steady.same s

theorem queue_execKeystreamBlockEnd (s : State) : Gives QueueKept s (execKeystreamBlockEnd s) := by
  unfold execKeystreamBlockEnd
  split
  · split
    · split
      · exact queueKept_steady.same s
      · exact queue_next (by simp)
    · exact .fault s _
    all_goals exact queueKept_steady.same s
  · exact queueKept_steady.same s
  · exact queueKept_steady.same s

/-! ### Links -/

theorem queue_execRequestTransfer (k : Link) (x : Shifted) (s : State) :
    Gives QueueKept s (execRequestTransfer k x s) :=
  queueKept_steady.guarded (queue_next (by simp))

theorem queue_execCollectBegin (k : Link) (s : State) : Gives QueueKept s (execCollectBegin k s) :=
  queueKept_steady.guarded (queue_next (s.setLink_pending k _))

theorem queue_execCollectEnd (k : Link) (clocked cut : Nat) (s : State) :
    Gives QueueKept s (execCollectEnd k clocked cut s) := by
  unfold execCollectEnd
  split
  · exact queueKept_steady.same s
  · dsimp only
    split <;> exact queue_next (by simp)

theorem queue_execUnknownRequest (k : Link) (s : State) : Gives QueueKept s (execUnknownRequest k s) := by
  have steady := queueKept_steady
  cases k with
  | custody =>
    unfold execUnknownRequest
    dsimp only
    split
    · exact steady.same s
    · split
      · exact steady.same s
      · exact steady.takeCustody fun _ u _ => steady.refuse u _ _
  | lane l =>
    unfold execUnknownRequest
    exact queue_takeLane s l _

theorem queue_execLinkClear (s : State) : Gives QueueKept s (execLinkClear s) :=
  queueKept_steady.guarded (queue_next (s.clearLink_pending _))

theorem queue_execLaneClear (l : LaneId) (s : State) : Gives QueueKept s (execLaneClear l s) :=
  queueKept_steady.guarded (queue_next (s.setLink_pending _ _))

theorem queue_execDeviceStatus (s : State) : Gives QueueKept s (execDeviceStatus s) :=
  queue_custodyRequest fun _ u => queue_next (u.reply_pending _ _)

/-! ### The Tamper Monitor -/

theorem queue_execTamperSetup (raw : BitVec 6) (s : State) : Gives QueueKept s (execTamperSetup raw s) := by
  have steady := queueKept_steady
  refine queue_gatedRequest fun _ u => ?_
  split
  · exact steady.refuse u _ _
  · exact queue_next (by simp)

theorem queue_execTamperAck (s : State) : Gives QueueKept s (execTamperAck s) := by
  have steady := queueKept_steady
  refine queue_gatedRequest fun _ u => ?_
  split
  · exact steady.refuseOr (queue_next (by simp))
  · exact queue_next (by simp)

theorem queue_execTamperInputEdge (i : InputId) (samples : List Level) (s : State) :
    Gives QueueKept s (execTamperInputEdge i samples s) :=
  queueKept_steady.guarded (.next (queueKept_steady.foldl (fun u v => u.sampleInput_pending i v) s samples))

theorem queue_execEraseComplete (s : State) : Gives QueueKept s (execEraseComplete s) :=
  queueKept_steady.guarded (queue_next rfl)

theorem queue_execSupplyAboveThreshold (mv : Nat) (s : State) : Gives QueueKept s (execSupplyAboveThreshold mv s) := by
  refine queueKept_steady.guarded ?_
  split <;> exact queue_next rfl

theorem queue_execSupplyBelowThreshold (mv : Nat) (s : State) : Gives QueueKept s (execSupplyBelowThreshold mv s) := by
  refine queueKept_steady.guarded ?_
  split <;> exact queue_next rfl

theorem queue_execSupplyTimerExpiry (s : State) : Gives QueueKept s (execSupplyTimerExpiry s) :=
  queueKept_steady.guarded (queue_next (by simp))

/-! ### Stopping and starting -/

theorem queue_execMainSupplyLoss (mv : Nat) (cut : SweepCut) (s : State) :
    Gives QueueKept s (execMainSupplyLoss mv cut s) :=
  queueKept_steady.guarded (queue_next (by simp))

theorem queue_execResetAssert (cut : SweepCut) (s : State) : Gives QueueKept s (execResetAssert cut s) :=
  queueKept_steady.guarded (queue_next (s.stopIfRunning_pending cut))

theorem queue_execMainSupplyRise (mv : Nat) (s : State) : Gives QueueKept s (execMainSupplyRise mv s) := by
  refine queueKept_steady.guarded (queue_next ?_)
  split <;> simp

theorem queue_execResetRelease (s : State) : Gives QueueKept s (execResetRelease s) := by
  refine queueKept_steady.guarded (queue_next ?_)
  split <;> simp

theorem queue_execValidityCheck (raw : BitVec 6) (s : State) : Gives QueueKept s (execValidityCheck raw s) := by
  refine queueKept_steady.guarded ?_
  split
  · exact queue_next rfl
  · split
    · exact queue_next s.eraseBegin_pending
    · exact queue_next rfl

theorem queue_execBatteryLossClearingEnd (s : State) : Gives QueueKept s (execBatteryLossClearingEnd s) := by
  refine queueKept_steady.guarded ?_
  split <;> exact queue_next (by simp)

theorem queue_execSweepEnd (s : State) : Gives QueueKept s (execSweepEnd s) :=
  queueKept_steady.guarded (queue_next (s.sweep.afterSweep_pending.trans (s.sweepFirst_pending 6)))

theorem queue_execBackupBatteryFailure (b : Bool) (s : State) : Gives QueueKept s (execBackupBatteryFailure b s) :=
  queue_next (State.keepDomain_pending _)

theorem queue_execBatteryBackedMemoryFault (i : SlotId) (b : SlotBody) (n : Nat) (w : BitVec 32) (s : State) :
    Gives QueueKept s (execBatteryBackedMemoryFault i b n w s) :=
  queueKept_steady.guarded (queue_next rfl)

/-! ### Every command -/

theorem queue_exec (c : Instr) (s : State) : Gives QueueKept s (exec c s) := by
  cases c with
  | requestTransfer k x => exact queue_execRequestTransfer k x s
  | collectBegin k => exact queue_execCollectBegin k s
  | collectEnd k clocked cut => exact queue_execCollectEnd k clocked cut s
  | unknownRequest k => exact queue_execUnknownRequest k s
  | slotStatus => exact queue_execSlotStatus s
  | slotErase => exact queue_execSlotErase s
  | assemble => exact queue_execAssemble s
  | component => exact queue_execComponent s
  | componentCheckEnd => exact queue_execComponentCheckEnd s
  | finalCheckEnd => exact queue_execFinalCheckEnd s
  | assemblyCancel => exact queue_execAssemblyCancel s
  | custodySwitchChange samples => exact queue_execCustodySwitchChange samples s
  | initialise => exact queue_execInitialise s
  | initialisePatternEnd => exact queue_execInitialisePatternEnd s
  | storageRoll => exact queue_execStorageRoll s
  | storageRollPatternEnd => exact queue_execStorageRollPatternEnd s
  | tokenExport => exact queue_execTokenExport s
  | tokenExportOperationEnd => exact queue_execTokenExportOperationEnd s
  | tokenImport => exact queue_execTokenImport s
  | tokenImportOperationEnd => exact queue_execTokenImportOperationEnd s
  | warrantOpen => exact queue_execWarrantOpen s
  | warrantHold => exact queue_execWarrantHold s
  | warrantRelease => exact queue_execWarrantRelease s
  | warrantExtend => exact queue_execWarrantExtend s
  | warrantClose => exact queue_execWarrantClose s
  | warrantPurge => exact queue_execWarrantPurge s
  | warrantStatus k => exact queue_execWarrantStatus k s
  | warrantList => exact queue_execWarrantList s
  | laneBind => exact queue_execLaneBind s
  | laneUnbind => exact queue_execLaneUnbind s
  | setQuantum => exact queue_execSetQuantum s
  | tamperSetup raw => exact queue_execTamperSetup raw s
  | tamperAck => exact queue_execTamperAck s
  | deviceStatus => exact queue_execDeviceStatus s
  | linkClear => exact queue_execLinkClear s
  | run l => exact queue_execRun l s
  | laneStatus l => exact queue_execLaneStatus l s
  | runStop stop => exact queue_execRunStop stop s
  | laneClear l => exact queue_execLaneClear l s
  | grant => exact queue_execGrant s
  | cardKeyDerivationEnd => exact queue_execCardKeyDerivationEnd s
  | cardCheckValueEnd => exact queue_execCardCheckValueEnd s
  | keystreamBlockEnd => exact queue_execKeystreamBlockEnd s
  | tamperInputEdge i samples => exact queue_execTamperInputEdge i samples s
  | eraseComplete => exact queue_execEraseComplete s
  | supplyAboveThreshold mv => exact queue_execSupplyAboveThreshold mv s
  | supplyBelowThreshold mv => exact queue_execSupplyBelowThreshold mv s
  | supplyTimerExpiry => exact queue_execSupplyTimerExpiry s
  | mainSupplyLoss mv cut => exact queue_execMainSupplyLoss mv cut s
  | resetAssert cut => exact queue_execResetAssert cut s
  | mainSupplyRise mv => exact queue_execMainSupplyRise mv s
  | resetRelease => exact queue_execResetRelease s
  | validityCheck raw => exact queue_execValidityCheck raw s
  | batteryLossClearingEnd => exact queue_execBatteryLossClearingEnd s
  | sweepEnd => exact queue_execSweepEnd s
  | backupBatteryFailure b => exact queue_execBackupBatteryFailure b s
  | batteryBackedMemoryFault i b n w => exact queue_execBatteryBackedMemoryFault i b n w s

/-- Settles O46, command by command. -/
theorem commandsLeaveTheQueue : Obligations.CommandsLeaveTheQueue := fun c s => queue_exec c s

end Sys2Proof.Machine
end
